-- ==== Sys2Proof/Word.lean ====
section
/-! DEFINITION. The byte and the fixed-size table, with the two ways a table is reached. -/

namespace Sys2Proof

/-- One byte of a packet or an image, and one character code. -/
abbrev Byte := BitVec 8

/-- A table of exactly `n` entries. -/
abbrev Table (α : Type) (n : Nat) := Vector α n

/-- Entry `i` of a table. -/
def Table.read {α : Type} {n : Nat} (t : Table α n) (i : Fin n) : α := t[i.val]

/-- The table with entry `i` replaced. -/
def Table.write {α : Type} {n : Nat} (t : Table α n) (i : Fin n) (x : α) : Table α n := t.set i.val x

/-- A table whose entries are all `x`. -/
def Table.fill {α : Type} (n : Nat) (x : α) : Table α n := Vector.replicate n x

/-- The table whose entry `i` is `f i`. -/
def Table.tabulate {α : Type} {n : Nat} (f : Fin n → α) : Table α n := Vector.ofFn f

@[simp] theorem Table.read_write_same {α : Type} {n : Nat} (t : Table α n) (i : Fin n) (x : α) :
    (t.write i x).read i = x := by
  simp [Table.read, Table.write]

theorem Table.read_write_other {α : Type} {n : Nat} (t : Table α n) {i j : Fin n} (x : α) (h : j ≠ i) :
    (t.write i x).read j = t.read j := by
  have : i.val ≠ j.val := fun e => h (Fin.ext e.symm)
  simp [Table.read, Table.write, this]

theorem Table.read_write {α : Type} {n : Nat} (t : Table α n) (i j : Fin n) (x : α) :
    (t.write i x).read j = if j = i then x else t.read j := by
  by_cases h : j = i
  · subst h; simp
  · simp [h, Table.read_write_other t x h]

@[simp] theorem Table.read_fill {α : Type} {n : Nat} (x : α) (i : Fin n) : (Table.fill n x).read i = x := by
  simp [Table.read, Table.fill]

@[simp] theorem Table.read_tabulate {α : Type} {n : Nat} (f : Fin n → α) (i : Fin n) :
    (Table.tabulate f).read i = f i := by
  simp [Table.read, Table.tabulate]

/-- Two tables with the same entries are the same table. -/
theorem Table.ext_read {α : Type} {n : Nat} {t u : Table α n} (h : ∀ i, t.read i = u.read i) : t = u := by
  apply Vector.ext
  intro i hi
  exact h ⟨i, hi⟩

end Sys2Proof
end

