-- ==== Sys2Proof/Syntax.lean ====
section
/-! DEFINITION. The commands: one constructor a row of spec/opcode_table.json, with the operands each carries. -/

namespace Sys2Proof

/-- A colour of three components, each 0 to 255 (R169, section 9.6). -/
structure Colour where
  red   : Byte
  green : Byte
  blue  : Byte
  deriving DecidableEq, Repr

/-- The lane map: the set of program lanes that carry pictures in a frame (section 1.2). -/
structure LaneMap where
  a : Bool
  b : Bool
  c : Bool
  d : Bool
  deriving DecidableEq, Repr

/-- One line of one lane: pixels 0 to 1919 (R172). -/
abbrev LaneLine := Table Colour 1920

/-- What a line group brings: line y of every lane. The line of a lane outside the lane map has no meaning. -/
structure LaneLines where
  a : LaneLine
  b : LaneLine
  c : LaneLine
  d : LaneLine
  deriving DecidableEq, Repr

/-- The three receivers of a second tick (R41). -/
inductive TickReceiver where
  | clock | notices | compositor
  deriving DecidableEq, Repr

/-- In which order the three receivers take one second tick. R41 fixes none, and R160 and R164 give the outcome of each
order, so the command carries it (log 6). -/
inductive TickOrder where
  | clockNoticesCompositor | clockCompositorNotices | noticesClockCompositor
  | noticesCompositorClock | compositorClockNotices | compositorNoticesClock
  deriving DecidableEq, Repr

/-- The order as a list. -/
def TickOrder.receivers : TickOrder → List TickReceiver
  | .clockNoticesCompositor => [.clock, .notices, .compositor]
  | .clockCompositorNotices => [.clock, .compositor, .notices]
  | .noticesClockCompositor => [.notices, .clock, .compositor]
  | .noticesCompositorClock => [.notices, .compositor, .clock]
  | .compositorClockNotices => [.compositor, .clock, .notices]
  | .compositorNoticesClock => [.compositor, .notices, .clock]

/-- The commands. A directive's command carries its tag and its payload bytes, laid out as R181 states (log 9). -/
inductive Instr where
  /-- POWER_ON_RESET: the straps and the panel senses at its release (R10, R39, R177). -/
  | powerOnReset (straps : Fin 8) (sense : BitVec 12)
  /-- SYMBOL_ACQUISITION (R1). -/
  | symbolAcquisition
  /-- SYMBOL_LOSS (R1). -/
  | symbolLoss
  /-- FRAME_START: the frame count, the lane map, and whether the formatter's commit is taken before the compositor's
  handling where this is an output frame start (R2, R130, R139). -/
  | frameStart (count : Byte) (lanes : LaneMap) (commitFirst : Bool)
  /-- MARGIN_PACKET: the bytes the link marks as one packet (R9). -/
  | marginPacket (bytes : List Byte)
  /-- LINE_GROUP (R2). -/
  | lineGroup (lines : LaneLines)
  /-- FRAME_END (R2). -/
  | frameEnd
  /-- FRAME_TIMEOUT (R6). -/
  | frameTimeout
  /-- FLYWHEEL_FRAME_START (R13), with the order of commit and compositor as in FRAME_START. -/
  | flywheelFrameStart (commitFirst : Bool)
  /-- FLYWHEEL_LINE (R13). -/
  | flywheelLine
  /-- FLYWHEEL_FRAME_END (R14). -/
  | flywheelFrameEnd
  /-- MARK_TIME (R47). -/
  | markTime (tag : Byte) (payload : List Byte)
  /-- OPEN_DAY (R49). -/
  | openDay (tag : Byte) (payload : List Byte)
  /-- CLOSE_DAY (R50). -/
  | closeDay (tag : Byte) (payload : List Byte)
  /-- SALE (R83). -/
  | sale (tag : Byte) (payload : List Byte)
  /-- ACKNOWLEDGE_BAND (R95). -/
  | acknowledgeBand (tag : Byte) (payload : List Byte)
  /-- POST_NOTICE_FRAGMENT_0 (R109). -/
  | postNoticeFragment0 (tag : Byte) (payload : List Byte)
  /-- POST_NOTICE_FRAGMENT_1_2 (R110). -/
  | postNoticeFragment12 (tag : Byte) (payload : List Byte)
  /-- WITHDRAW_NOTICE (R116). -/
  | withdrawNotice (tag : Byte) (payload : List Byte)
  /-- DRIVE_CHIME_LINE (R124). -/
  | driveChimeLine (tag : Byte) (payload : List Byte)
  /-- SET_CURSOR (R22). -/
  | setCursor (tag : Byte) (payload : List Byte)
  /-- WRITE_ENTRY_SETTINGS (R54): a WRITE ENTRY, meant for a cursor at SETTINGS. -/
  | writeEntrySettings (tag : Byte) (payload : List Byte)
  /-- WRITE_ENTRY_SHOW (R61): a WRITE ENTRY, meant for a cursor at SHOW. -/
  | writeEntryShow (tag : Byte) (payload : List Byte)
  /-- WRITE_ENTRY_TALLY (R100): a WRITE ENTRY, meant for a cursor at TALLY. -/
  | writeEntryTally (tag : Byte) (payload : List Byte)
  /-- WRITE_ENTRY_TITLE (R59): a WRITE ENTRY, meant for a cursor at TITLE. -/
  | writeEntryTitle (tag : Byte) (payload : List Byte)
  /-- WRITE_ENTRY_TEMPLATE (R142): a WRITE ENTRY, meant for a cursor at TEMPLATE. -/
  | writeEntryTemplate (tag : Byte) (payload : List Byte)
  /-- WRITE_ENTRY_STAGED (R24): a WRITE ENTRY, meant for a cursor at LAYOUT, REGION, PALETTE or GLYPH. -/
  | writeEntryStaged (tag : Byte) (payload : List Byte)
  /-- READ_ENTRIES (R25). -/
  | readEntries (tag : Byte) (payload : List Byte)
  /-- REQUEST_STATUS (R32). -/
  | requestStatus (tag : Byte) (payload : List Byte)
  /-- SET_ATTENTION_MASK (R31). -/
  | setAttentionMask (tag : Byte) (payload : List Byte)
  /-- RESTART (R38). -/
  | restart (tag : Byte) (payload : List Byte)
  /-- SPAN (R20). -/
  | span (tag : Byte) (payload : List Byte)
  /-- SET_DISPLAY_MODE (R168). -/
  | setDisplayMode (tag : Byte) (payload : List Byte)
  /-- SELECT_LAYOUT (R154). -/
  | selectLayout (tag : Byte) (payload : List Byte)
  /-- SELECT_PROGRAM (R168). -/
  | selectProgram (tag : Byte) (payload : List Byte)
  /-- SET_DISPLAY_MASKS (R168). -/
  | setDisplayMasks (tag : Byte) (payload : List Byte)
  /-- TENTH_TICK (R41). -/
  | tenthTick
  /-- SECOND_TICK, with the order of its receivers (R41). -/
  | secondTick (order : TickOrder)
  /-- MINUTE_BOUNDARY (R44). -/
  | minuteBoundary
  /-- ENTER_HOLDOVER (R44). -/
  | enterHoldover
  /-- ENTER_LOST (R44). -/
  | enterLost
  /-- CLOCK_SATURATION (R45). -/
  | clockSaturation
  /-- LIFETIME_EXPIRY (R117). -/
  | lifetimeExpiry
  /-- CHIME_PATTERN_START at one line (R126). -/
  | chimePatternStart (line : Fin 2)
  /-- CHIME_COUNTDOWN_EXPIRY at one line (R126). -/
  | chimeCountdownExpiry (line : Fin 2)
  /-- PAGE_TURN of one region (R159). -/
  | pageTurn (layout : Fin 16) (region : Fin 8)
  /-- TICKER_STEP of one display (R163). -/
  | tickerStep (display : Fin 12)
  /-- RENDER_START (R137). -/
  | renderStart
  /-- RENDER_COMPLETION (R138). -/
  | renderCompletion
  /-- CHAIN_PACKET_ARRIVAL, with the packet's bytes (R35). -/
  | chainPacketArrival (packet : List Byte)
  /-- UPSTREAM_READY (R36). -/
  | upstreamReady
  /-- UPSTREAM_READY_WITHDRAWAL (R37). -/
  | upstreamReadyWithdrawal
  /-- TRANSMISSION_COMPLETION (R37). -/
  | transmissionCompletion
  /-- PANEL_REMOVAL at one port (R177). -/
  | panelRemoval (display : Fin 12)
  /-- PANEL_ATTACHMENT at one port (R177). -/
  | panelAttachment (display : Fin 12)
  deriving DecidableEq, Repr

end Sys2Proof
end

