-- ==== Sys2Proof/Config.lean ====
section
/-! DEFINITION. The sizes the part fixes, and the values its manual leaves open. -/

namespace Sys2Proof

/-- The staging queue holds up to 8 directives (R26). -/
abbrev Config.stagingSize : Nat := 8
/-- The report queue holds up to 16 reports (R34). -/
abbrev Config.reportSize : Nat := 16
/-- The chain buffer holds up to 4 packets (R35). -/
abbrev Config.chainSize : Nat := 4
/-- The notice queue holds up to 32 notices (R107). -/
abbrev Config.noticeSize : Nat := 32
/-- A chime line's request queue holds up to 4 requests (R124). -/
abbrev Config.chimeSize : Nat := 4
/-- The render queue holds up to 16 tiles (R135). -/
abbrev Config.renderSize : Nat := 16
/-- A frame carries 1080 line groups (R2). -/
abbrev Config.lines : Nat := 1080
/-- A margin interval carries at most 24 packets (R4). -/
abbrev Config.marginLimit : Nat := 24
/-- The largest payload of a margin packet (R9). -/
abbrev Config.payloadLimit : Nat := 40
/-- A saturating 16-bit count stops here (R8, R19). -/
abbrev Config.countMax : Nat := 65535
/-- The last business minute (R40). -/
abbrev Config.lastMinute : Nat := 2879
/-- Layout tiles are 0 to 147; the notice tile of display d is 148 + d (R128). -/
abbrev Config.layoutTiles : Nat := 148
/-- The second divider's prescale, in reference periods (R41, R185). -/
abbrev Config.prescale : Nat := 2700000

/-- FREE VALUE (log 18). Bytes 2 and 3 of the TILE image of a layout tile without a binding: R184 states byte 1 (FFh) and
not these. Argument: the tile number and the byte's offset in the image. -/
opaque Config.unboundTileByte : Nat → Nat → Byte

/-- FREE VALUE (log 40). The rating code byte of the TITLE image of an entry whose rating is absent: R184 states the present
byte (0) and not this one. Argument: the entry. -/
opaque Config.absentRatingCode : Nat → Byte

end Sys2Proof
end

