-- ==== Sys2Proof/Machine/State.lean ====
section
/-! DEFINITION. The state of the device, block by block, as plain data, and the state right after reset. -/

namespace Sys2Proof.Machine

/-- A slot of the show board, 0 to 95. -/
abbrev Slot := Fin 96
/-- A display, D0 to D11. -/
abbrev DisplayNo := Fin 12
/-- A tile, 0 to 159; 148 + d is the notice tile of display d (R128). -/
abbrev TileNo := Fin 160
/-- A layout, 0 to 15. -/
abbrev LayoutNo := Fin 16
/-- A region of a layout, 0 to 7. -/
abbrev RegionNo := Fin 8
/-- A set of displays, bit d for display d (R180). -/
abbrev DisplaySet := BitVec 12
/-- A set of notice classes, or of listing classes (R180). -/
abbrev ClassSet := BitVec 4
/-- A palette index. -/
abbrev ColourIndex := Fin 16

/-! ### Feed receiver (chapter 1) -/

/-- The lock state (R1). -/
inductive LockState where
  | noSignal | search | locked
  deriving DecidableEq, Repr

/-- The candidate kept in SEARCH (R3). -/
inductive Candidate where
  | absent | following | complete
  deriving DecidableEq, Repr

/-- The phase of the frame record (R2). -/
inductive FramePhase where
  | between | margin | active
  deriving DecidableEq, Repr

/-- The frame record (R2). -/
structure FrameRecord where
  phase         : FramePhase
  count         : Byte
  lanes         : LaneMap
  marginPackets : Nat
  lineGroups    : Nat
  deriving DecidableEq, Repr

/-- The output frame in progress, with the next output line (R12 to R15). -/
inductive OutputFrame where
  /-- no output frame is in progress -/
  | closed
  /-- a frame that follows the feed -/
  | feed (next : Nat)
  /-- a frame of the feed that the flywheel completes after a loss of lock -/
  | completing (next : Nat)
  /-- a frame of the flywheel's own -/
  | flywheel (next : Nat)
  deriving DecidableEq, Repr

/-- An event of the program feed, as feed out repeats it (R11). -/
inductive FeedEvent where
  | frameStart (count : Byte) (lanes : LaneMap)
  | marginPacket (bytes : List Byte)
  | lineGroup (lines : LaneLines)
  | frameEnd
  deriving DecidableEq, Repr

/-- What feed out carries (R11). -/
inductive FeedOut where
  /-- no symbols: after power-on reset and after a symbol loss -/
  | silent
  /-- symbols, with no event repeated since they came back -/
  | symbols
  /-- the last event repeated -/
  | event (e : FeedEvent)
  deriving DecidableEq, Repr

/-- The flywheel cadence in frames per second (R13). -/
inductive Cadence where
  | fps24 | fps25 | fps30 | fps50 | fps60
  deriving DecidableEq, Repr

/-- The feed receiver's state. -/
structure FeedReceiver where
  lock           : LockState
  candidate      : Candidate
  record         : FrameRecord
  malformedCount : Nat
  checkFailCount : Nat
  identity       : Fin 8
  output         : OutputFrame
  latchedCadence : Cadence
  feedOut        : FeedOut
  deriving DecidableEq, Repr

/-! ### Lobby clock (chapter 3) -/

/-- The clock state (R40). -/
inductive ClockState where
  | unset | running | holdover | lost
  deriving DecidableEq, Repr

/-- The clock record (R40). -/
structure Clock where
  state      : ClockState
  minute     : Nat
  second     : Nat
  civilStart : Nat
  dayNumber  : Nat
  sinceMark  : Nat
  deriving DecidableEq, Repr

/-- The second divider (R41): reference periods left, tenth ticks since the last tenth tenth tick, and whether a tenth
tenth tick has come whose second tick has not been taken (log 7). -/
structure Divider where
  periods   : Nat
  tenths    : Nat
  secondDue : Bool
  deriving DecidableEq, Repr

/-- The time form (R54). -/
inductive TimeForm where
  | hour24 | hour12
  deriving DecidableEq, Repr

/-- The five colour fields of the SETTINGS entry (R169). -/
structure ColourFields where
  backdrop   : ColourIndex
  takeoverFg : ColourIndex
  takeoverBg : ColourIndex
  bannerFg   : ColourIndex
  bannerBg   : ColourIndex
  deriving DecidableEq, Repr

/-- The SETTINGS entry, less the two fields that are the clock record's (R13, R54, R78, R82, R144, R162, R169). -/
structure Settings where
  cadence         : Cadence
  timeForm        : TimeForm
  boardingStrikes : Nat
  fewSeats        : Nat
  fillingPercent  : Nat
  exactLimit      : Nat
  step            : Nat
  ellipsis        : Byte
  dwell           : Nat
  colours         : ColourFields
  deriving DecidableEq, Repr

/-! ### Show board (chapter 4) -/

/-- The state of a show (R58). -/
inductive ShowState where
  | vacant | listed | boarding | started | retired
  deriving DecidableEq, Repr

/-- A show record (R58). -/
structure Show where
  state       : ShowState
  auditorium  : Nat
  title       : Nat
  start       : Nat
  runtime     : Nat
  lead        : Nat
  closeOffset : Nat
  grace       : Nat
  capacity    : Nat
  listingClass : Nat
  badges      : List Byte
  announce    : Bool
  salesClosed : Bool
  deriving DecidableEq, Repr

/-- The record of a VACANT slot (R58). -/
def Show.vacant : Show :=
  { state := .vacant, auditorium := 0, title := 0, start := 0, runtime := 0, lead := 0, closeOffset := 0, grace := 0,
    capacity := 0, listingClass := 0, badges := [], announce := false, salesClosed := false }

/-- A title record (R59). -/
structure Title where
  text   : List Byte
  rating : Option Byte
  deriving DecidableEq, Repr

/-- The show board's state. -/
structure Board where
  shows   : Table Show 96
  titles  : Table Title 64
  order   : List Slot
  nextDue : Option Nat
  deriving DecidableEq, Repr

/-! ### Tally unit (chapter 5) -/

/-- The treatment of seats asked beyond the limits (R80). -/
inductive TallyMode where
  | strict | reconcile
  deriving DecidableEq, Repr

/-- The band (R80, R90). -/
inductive Band where
  | opened | filling | few | soldOut
  deriving DecidableEq, Repr

/-- The outcome of a sale transaction (R80, R88). -/
inductive SaleOutcome where
  | applied | clampedLow | clampedHigh | repeated
  deriving DecidableEq, Repr

/-- A tally record (R80). -/
structure Tally where
  remaining   : Nat
  clip        : Int
  net         : Int
  mode        : TallyMode
  unbalanced  : Bool
  band        : Band
  acked       : Band
  departed    : Bool
  lastOutcome : Option SaleOutcome
  deriving DecidableEq, Repr

/-- A zeroed tally (R80). -/
def Tally.zeroed : Tally :=
  { remaining := 0, clip := 0, net := 0, mode := .strict, unbalanced := false, band := .opened, acked := .opened,
    departed := false, lastOutcome := none }

/-- A desk record (R81); a last toggle of none is UNKNOWN. -/
structure Desk where
  toggle      : Option Bool
  repeats     : Nat
  lastSlot    : Option Slot
  lastOutcome : Option SaleOutcome
  deriving DecidableEq, Repr

/-- A desk record after reset (R105). -/
def Desk.reset : Desk := { toggle := none, repeats := 0, lastSlot := none, lastOutcome := none }

/-- The tally unit's state. -/
structure TallyUnit where
  tallies : Table Tally 96
  desks   : Table Desk 16
  deriving DecidableEq, Repr

/-! ### Notice unit (chapter 6) -/

/-- The notice class, highest priority first (R106). -/
inductive NoticeClass where
  | urgent | show | desk | house
  deriving DecidableEq, Repr

/-- A notice record (R106). -/
structure Notice where
  id       : Byte
  cls      : NoticeClass
  takeover : Bool
  strikes  : Nat
  lifetime : Nat
  target   : DisplaySet
  linked   : Option Slot
  text     : List Byte
  deriving DecidableEq, Repr

/-- A partial post (R109): the fields and target of fragment 0 with the codes received so far as its text, the declared
length, the fragment expected next, and the tag of fragment 0. -/
structure PartialPost where
  notice   : Notice
  declared : Nat
  expected : Nat
  tag      : Byte
  deriving DecidableEq, Repr

/-- How a chime line is driven (R124). -/
inductive ChimeMode where
  | level | tone
  deriving DecidableEq, Repr

/-- The tone frequency (R124). -/
inductive Pitch where
  | low | high
  deriving DecidableEq, Repr

/-- The interval of the strike in progress (R124). -/
inductive StrikePhase where
  | tone | silence
  deriving DecidableEq, Repr

/-- A playing pattern (R124). -/
structure Pattern where
  strikesLeft : Nat
  phase       : StrikePhase
  countdown   : Nat
  deriving DecidableEq, Repr

/-- A chime line record (R124). -/
structure ChimeLine where
  mode     : ChimeMode
  level    : Bool
  pitch    : Pitch
  pattern  : Option Pattern
  requests : List Nat
  deriving DecidableEq, Repr

/-- A chime line after reset (R127). -/
def ChimeLine.reset : ChimeLine := { mode := .level, level := false, pitch := .low, pattern := none, requests := [] }

/-- The notice unit's state. -/
structure NoticeUnit where
  queue  : List Notice
  post   : Option PartialPost
  wake   : DisplaySet
  chimes : Table ChimeLine 2
  deriving DecidableEq, Repr

/-! ### Tile formatter (chapter 7) -/

/-- The state of a tile (R128). -/
inductive TileState where
  | idle | dirty | queued | rendering | clean
  deriving DecidableEq, Repr

/-- The binding of a layout tile (R128). -/
structure Binding where
  layout : LayoutNo
  region : RegionNo
  row    : Nat
  deriving DecidableEq, Repr

/-- The show or notice a tile showed at its last render start (R128). -/
inductive BoundSource where
  | slot (s : Slot)
  | notice (id : Byte)
  deriving DecidableEq, Repr

/-- A tile record (R128). A notice tile's binding is its display and is not stored. -/
structure Tile where
  state     : TileState
  stale     : Bool
  released  : Bool
  binding   : Option Binding
  committed : List Byte
  pendingText : List Byte
  ready     : Bool
  bound     : Option BoundSource
  minutes   : Option Nat
  deriving DecidableEq, Repr

/-- A tile after reset (R148). -/
def Tile.reset : Tile :=
  { state := .idle, stale := false, released := false, binding := none, committed := [], pendingText := [], ready := false,
    bound := none, minutes := none }

/-- The kind of a template field (R143). -/
inductive FieldKind where
  | title | rating | auditorium | start | ends | minutes | seats | bandword | state | badges | clock | notice | literal
  deriving DecidableEq, Repr

/-- The alignment of a template field (R142). -/
inductive Alignment where
  | left | right | centre
  deriving DecidableEq, Repr

/-- A field of a template (R142). The run has meaning for a LITERAL field alone; for another kind it keeps the image's
third byte as written (log 13). -/
structure TemplateField where
  kind     : FieldKind
  width    : Nat
  align    : Alignment
  runFirst : Nat
  runLength : Nat
  deriving DecidableEq, Repr

/-- A template (R142). -/
structure Template where
  fields : List TemplateField
  pool   : List Byte
  deriving DecidableEq, Repr

/-- The render in flight: the tile, and the text that its snapshot gives (R137; log 11). -/
structure Render where
  tile : TileNo
  text : List Byte
  deriving DecidableEq, Repr

/-- The tile formatter's state. -/
structure Formatter where
  tiles     : Table Tile 160
  templates : Table Template 32
  queue     : List TileNo
  engine    : Option Render
  sweep     : TileNo
  deriving DecidableEq, Repr

/-! ### Output compositor (chapters 8 and 9) -/

/-- A layout record (R149). -/
structure Layout where
  tileBase    : Nat
  regionCount : Nat
  deriving DecidableEq, Repr

/-- The kind of a region (R150). -/
inductive RegionKind where
  | program | listing | card | ticker | clock | fill
  deriving DecidableEq, Repr

/-- A region record (R150). The kind fields are the image's five kind bytes as written: unused ones are read back as
written (R184). -/
structure Region where
  kind       : RegionKind
  column     : Nat
  row        : Nat
  width      : Nat
  height     : Nat
  foreground : ColourIndex
  background : ColourIndex
  template   : Nat
  k0 : Byte
  k1 : Byte
  k2 : Byte
  k3 : Byte
  k4 : Byte
  deriving DecidableEq, Repr

/-- A region after power-on reset (R150). -/
def Region.reset : Region :=
  { kind := .fill, column := 0, row := 0, width := 0, height := 0, foreground := 0, background := 0, template := 0,
    k0 := 0, k1 := 0, k2 := 0, k3 := 0, k4 := 0 }

/-- A page state (R158). -/
structure PageState where
  active    : Bool
  index     : Nat
  count     : Nat
  countdown : Nat
  deriving DecidableEq, Repr

/-- An inactive page state (R158). -/
def PageState.inactive : PageState := { active := false, index := 0, count := 1, countdown := 0 }

/-- A ticker record (R162). -/
structure Ticker where
  running   : Bool
  classes   : ClassSet
  current   : Option Byte
  countdown : Nat
  deriving DecidableEq, Repr

/-- A stopped ticker (R162, R165; its class set: log 25). -/
def Ticker.stopped : Ticker := { running := false, classes := 0, current := none, countdown := 0 }

/-- The display mode (R166). -/
inductive DisplayMode where
  | live | attract | dark | takeover
  deriving DecidableEq, Repr

/-- A program lane, or NONE (R166). -/
inductive Lane where
  | a | b | c | d | absent
  deriving DecidableEq, Repr

/-- A display record (R166). -/
structure Display where
  mode        : DisplayMode
  saved       : DisplayMode
  layout      : LayoutNo
  lane        : Lane
  attractPass : ClassSet
  darkWake    : ClassSet
  takeover    : Option Byte
  banner      : Bool
  panelPresent : Bool
  deriving DecidableEq, Repr

/-- A display record after reset, with what its panel sense shows (R166). -/
def Display.reset (panel : Bool) : Display :=
  { mode := .live, saved := .live, layout := 0, lane := .absent, attractPass := 0, darkWake := 0, takeover := none,
    banner := false, panelPresent := panel }

/-- A glyph: 24 rows of 12 pixels, pixel 0 of a row its most significant bit (R169, R184). -/
abbrev Glyph := Table (BitVec 12) 24

/-- What a port sends (R178). -/
inductive PortItem where
  | frameStart
  | line (y : Nat) (pixels : Table Colour 1920)
  | frameEnd
  deriving DecidableEq, Repr

/-- A display port: whether it sends, and what it sent at the last output event (R177, R178; log 21). -/
structure Port where
  sending : Bool
  sent    : List PortItem
  deriving DecidableEq, Repr

/-- The compositor's state. -/
structure Compositor where
  layouts    : Table Layout 16
  regions    : Table Region 128
  inUse      : Table Nat 16
  pages      : Table PageState 128
  tickers    : Table Ticker 12
  displays   : Table Display 12
  palette    : Table Colour 16
  glyphs     : Table Glyph 256
  latched    : ColourFields
  tileNeeded : DisplaySet
  ports      : Table Port 12
  deriving DecidableEq, Repr

/-! ### Directive unit (chapter 2) -/

/-- The tables of the cursor (R22). -/
inductive TableName where
  | settings | show | tally | title | template | layout | region | palette | glyph | desk | notice | display | tile
  deriving DecidableEq, Repr

/-- The table cursor: a table and an entry index, or "end" (none) (R22). -/
structure Cursor where
  table : TableName
  index : Option Nat
  deriving DecidableEq, Repr

/-- The refusal reasons (R19, R182). -/
inductive Reason where
  | unknownKind | badLength | badField | stageFull | cursorEnd | readOnly | noShow | salesClosed | dayClosed | dayOpen
  | showLive | showPast | auditoriumClash | queueFull | reservedId | notFound | tileRange
  deriving DecidableEq, Repr

/-- The last refusal record (R19). -/
structure RefusalRecord where
  kind   : Byte
  tag    : Byte
  reason : Reason
  deriving DecidableEq, Repr

/-- The mark of a held directive (R26). -/
inductive StageMark where
  | current | closed
  deriving DecidableEq, Repr

/-- A frame-aligned directive with its fields fixed (R26). -/
inductive StagedBody where
  | displayMode (range : List DisplayNo) (mode : DisplayMode)
  | selectLayout (range : List DisplayNo) (layout : LayoutNo)
  | selectProgram (range : List DisplayNo) (lane : Lane)
  | displayMasks (range : List DisplayNo) (attractPass darkWake : ClassSet)
  | writeLayout (index : LayoutNo) (image : Layout)
  | writeRegion (index : Fin 128) (image : Region)
  | writePalette (index : Fin 16) (image : Colour)
  | writeGlyph (index : Fin 256) (image : Glyph)
  deriving DecidableEq, Repr

/-- A directive held in the staging queue (R26). -/
structure Staged where
  kind : Byte
  tag  : Byte
  mark : StageMark
  body : StagedBody
  deriving DecidableEq, Repr

/-- The directive unit's state, less its report side. -/
structure DirectiveUnit where
  staging      : List Staged
  restorePoint : Option Cursor
  span         : Option (Fin 12)
  cursor       : Cursor
  refusalCount : Nat
  lastRefusal  : Option RefusalRecord
  deriving DecidableEq, Repr

/-- A queued report (R32, R34). A STATUS report has no contents before its grant (R33). -/
inductive Report where
  | status
  | entryData (table : TableName) (index : Nat) (image : List Byte)
  | alert (slot : Slot) (acked band : Band) (remaining : Nat)
  | noticeEvicted (id : Byte) (cls : NoticeClass)
  deriving DecidableEq, Repr

/-- The state of the upstream return lane, with the packet that is being sent (R36). -/
inductive LaneState where
  | idle
  | sending (packet : List Byte)
  deriving DecidableEq, Repr

/-- The two sides of the arbiter (R36). -/
inductive Side where
  | localSide | chainSide
  deriving DecidableEq, Repr

/-- The directive unit's report side: flags, reports, chain buffer and return lane. -/
structure ReportUnit where
  flags         : BitVec 14
  mask          : BitVec 14
  queue         : List Report
  owed          : Bool
  chain         : List (List Byte)
  lane          : LaneState
  lastWinner    : Side
  upstreamReady : Bool
  deriving DecidableEq, Repr

/-! ### The device -/

/-- The state of the device, block by block, and the queue of commands that wait. -/
structure State where
  feed     : FeedReceiver
  dir      : DirectiveUnit
  rep      : ReportUnit
  clock    : Clock
  divider  : Divider
  settings : Settings
  board    : Board
  tally    : TallyUnit
  notice   : NoticeUnit
  fmt      : Formatter
  comp     : Compositor
  sense    : BitVec 12
  pending  : List Instr
  deriving DecidableEq, Repr

/-- Why the machine stops with a fault: never. The spec gives every command an effect, so there is no constructor. -/
inductive Fault where
  deriving DecidableEq, Repr

/-- Why a command is refused a meaning. -/
inductive Refusal where
  /-- Raised by exec alone, for a command whose meaning is not written. Safe: nothing can be proved of it. No arm of
  exec raises it now. -/
  | notModelled (mnemonic : String)
  deriving DecidableEq, Repr

/-! ### Reset values, block by block -/

/-- No lane is in the map. -/
def LaneMap.none : LaneMap := { a := false, b := false, c := false, d := false }

/-- Black: all three components 0 (R169). -/
def Colour.black : Colour := { red := 0, green := 0, blue := 0 }

/-- White: all three components 255 (R169). -/
def Colour.white : Colour := { red := 255, green := 255, blue := 255 }

/-- The feed receiver after power-on reset, with its straps (R16). -/
def FeedReceiver.reset (straps : Fin 8) : FeedReceiver :=
  { lock := .noSignal, candidate := .absent,
    record := { phase := .between, count := 0, lanes := LaneMap.none, marginPackets := 0, lineGroups := 0 },
    malformedCount := 0, checkFailCount := 0, identity := straps, output := .closed, latchedCadence := .fps30,
    feedOut := .silent }

/-- The directive unit after power-on reset and after RESTART (R39). -/
def DirectiveUnit.reset : DirectiveUnit :=
  { staging := [], restorePoint := none, span := none, cursor := { table := .settings, index := some 0 },
    refusalCount := 0, lastRefusal := none }

/-- The report side after power-on reset, before any grant (R39): RESTARTED, bit 0, set and enabled, and its STATUS
report queued. -/
def ReportUnit.reset : ReportUnit :=
  { flags := 1, mask := 1, queue := [.status], owed := false, chain := [], lane := .idle, lastWinner := .chainSide,
    upstreamReady := false }

/-- The clock record after power-on reset and after RESTART (R57). -/
def Clock.reset : Clock :=
  { state := .unset, minute := 0, second := 0, civilStart := 0, dayNumber := 0, sinceMark := 0 }

/-- The second divider, loaded at the release of power-on reset (R41). -/
def Divider.reset : Divider := { periods := Config.prescale, tenths := 0, secondDue := false }

/-- The default SETTINGS entry (R13, R54, R78, R82, R144, R162, R169). -/
def Settings.reset : Settings :=
  { cadence := .fps30, timeForm := .hour24, boardingStrikes := 1, fewSeats := 20, fillingPercent := 75, exactLimit := 30,
    step := 10, ellipsis := 126, dwell := 6,
    colours := { backdrop := 0, takeoverFg := 15, takeoverBg := 1, bannerFg := 15, bannerBg := 1 } }

/-- The show board after power-on reset (R79). -/
def Board.reset : Board :=
  { shows := Table.fill 96 Show.vacant, titles := Table.fill 64 { text := [], rating := none }, order := [],
    nextDue := none }

/-- The tally unit after power-on reset and after RESTART (R105). -/
def TallyUnit.reset : TallyUnit :=
  { tallies := Table.fill 96 Tally.zeroed, desks := Table.fill 16 Desk.reset }

/-- The notice unit after power-on reset and after RESTART (R127). -/
def NoticeUnit.reset : NoticeUnit :=
  { queue := [], post := none, wake := 0, chimes := Table.fill 2 ChimeLine.reset }

/-- The tile formatter after power-on reset (R148). -/
def Formatter.reset : Formatter :=
  { tiles := Table.fill 160 Tile.reset, templates := Table.fill 32 { fields := [], pool := [] }, queue := [],
    engine := none, sweep := 0 }

/-- The display records after reset, with the panel senses (R166). -/
def displaysReset (sense : BitVec 12) : Table Display 12 :=
  Table.tabulate fun d => Display.reset (sense.getLsbD d.val)

/-- The compositor after power-on reset (R165, R169, R179). -/
def Compositor.reset (sense : BitVec 12) : Compositor :=
  { layouts := Table.fill 16 { tileBase := 0, regionCount := 0 }, regions := Table.fill 128 Region.reset,
    inUse := Table.fill 16 0, pages := Table.fill 128 PageState.inactive, tickers := Table.fill 12 Ticker.stopped,
    displays := displaysReset sense,
    palette := (Table.fill 16 Colour.black).write 15 Colour.white, glyphs := Table.fill 256 (Table.fill 24 0),
    latched := Settings.reset.colours, tileNeeded := 0, ports := Table.fill 12 { sending := false, sent := [] } }

/-- The device right after power-on reset, with its straps and panel senses and the upstream ready not given. -/
def State.powerOn (straps : Fin 8) (sense : BitVec 12) : State :=
  { feed := FeedReceiver.reset straps, dir := DirectiveUnit.reset, rep := ReportUnit.reset, clock := Clock.reset,
    divider := Divider.reset, settings := Settings.reset, board := Board.reset, tally := TallyUnit.reset,
    notice := NoticeUnit.reset, fmt := Formatter.reset, comp := Compositor.reset sense, sense := sense, pending := [] }

/-- The machine right after reset: chain identity 0, no panel sensed and the upstream ready not given (log 4), nothing
waiting. -/
def State.reset : State := State.powerOn 0 0

end Sys2Proof.Machine
end

