-- ==== Sys2Proof/Machine/Operands.lean ====
section
/-! DEFINITION. The encodings of chapter 10: bytes, codes, ranges, entry images, as the device reads and writes them. -/

namespace Sys2Proof.Machine

/-! ### Bytes (R180) -/

/-- A two-byte field, high byte first (R180). -/
def half (hi lo : Byte) : Nat := hi.toNat * 256 + lo.toNat

/-- The two bytes of a field, high byte first (R180). -/
def halfBytes (n : Nat) : List Byte := [BitVec.ofNat 8 (n / 256), BitVec.ofNat 8 n]

/-- A signed two-byte field, two's complement (R180). -/
def signedHalf (hi lo : Byte) : Int := (hi ++ lo : BitVec 16).toInt

/-- The two bytes of a signed field (R180). -/
def signedHalfBytes (z : Int) : List Byte :=
  let w := BitVec.ofInt 16 z
  [w.extractLsb' 8 8, w.extractLsb' 0 8]

/-- A number as one byte. -/
def byteOf (n : Nat) : Byte := BitVec.ofNat 8 n

/-- A flag as bit k of a byte. -/
def flagBit (b : Bool) (k : Nat) : Nat := if b then 2 ^ k else 0

/-- An index below n. -/
def fin? (n : Nat) (k : Nat) : Option (Fin n) := if h : k < n then some ⟨k, h⟩ else none

/-- An optional slot: FFh is absent (R180). none for a byte that is neither. -/
def optionalSlot (b : Byte) : Option (Option Slot) :=
  if b = 0xFF#8 then some none else (fin? 96 b.toNat).map some

/-- The byte of an optional slot (R180). -/
def optionalSlotByte : Option Slot → Byte
  | none => 0xFF#8
  | some s => byteOf s.val

/-- The sum of a packet's bytes modulo 256 (R9, R183). -/
def byteSum (bs : List Byte) : Byte := bs.foldl (· + ·) 0

/-! ### Codes (R182) -/

/-- Table codes (R182). -/
def TableName.ofCode : Nat → Option TableName
  | 0 => some .settings
  | 1 => some .show
  | 2 => some .tally
  | 3 => some .title
  | 4 => some .template
  | 5 => some .layout
  | 6 => some .region
  | 7 => some .palette
  | 8 => some .glyph
  | 9 => some .desk
  | 10 => some .notice
  | 11 => some .display
  | 12 => some .tile
  | _ => none

/-- Table codes (R182). -/
def TableName.code : TableName → Nat
  | .settings => 0
  | .show => 1
  | .tally => 2
  | .title => 3
  | .template => 4
  | .layout => 5
  | .region => 6
  | .palette => 7
  | .glyph => 8
  | .desk => 9
  | .notice => 10
  | .display => 11
  | .tile => 12

/-- The number of entries of each table (R22). -/
def TableName.entries : TableName → Nat
  | .settings => 1
  | .show => 96
  | .tally => 96
  | .title => 64
  | .template => 32
  | .layout => 16
  | .region => 128
  | .palette => 16
  | .glyph => 256
  | .desk => 16
  | .notice => 32
  | .display => 12
  | .tile => 160

/-- The entry image length of each table (R184). -/
def TableName.imageLength : TableName → Nat
  | .settings => 19
  | .show => 19
  | .tally => 10
  | .title => 35
  | .template => 40
  | .layout => 2
  | .region => 13
  | .palette => 3
  | .glyph => 36
  | .desk => 4
  | .notice => 34
  | .display => 8
  | .tile => 37

/-- Notice class codes (R182). -/
def NoticeClass.code : NoticeClass → Nat
  | .urgent => 0
  | .show => 1
  | .desk => 2
  | .house => 3

/-- Notice class codes (R182). -/
def NoticeClass.ofCode : Nat → Option NoticeClass
  | 0 => some .urgent
  | 1 => some .show
  | 2 => some .desk
  | 3 => some .house
  | _ => none

/-- Display mode codes (R182). -/
def DisplayMode.code : DisplayMode → Nat
  | .live => 0
  | .attract => 1
  | .dark => 2
  | .takeover => 3

/-- The display modes that SET DISPLAY MODE may name (R182). -/
def DisplayMode.ofDirectiveCode : Nat → Option DisplayMode
  | 0 => some .live
  | 1 => some .attract
  | 2 => some .dark
  | _ => none

/-- Lane codes (R182). -/
def Lane.code : Lane → Nat
  | .a => 0
  | .b => 1
  | .c => 2
  | .d => 3
  | .absent => 4

/-- Lane codes (R182). -/
def Lane.ofCode : Nat → Option Lane
  | 0 => some .a
  | 1 => some .b
  | 2 => some .c
  | 3 => some .d
  | 4 => some .absent
  | _ => none

/-- Band codes (R182). -/
def Band.code : Band → Nat
  | .opened => 0
  | .filling => 1
  | .few => 2
  | .soldOut => 3

/-- Band codes (R182). -/
def Band.ofCode : Nat → Option Band
  | 0 => some .opened
  | 1 => some .filling
  | 2 => some .few
  | 3 => some .soldOut
  | _ => none

/-- Outcome codes, absent 0 (R182). -/
def outcomeCode : Option SaleOutcome → Nat
  | none => 0
  | some .applied => 1
  | some .clampedLow => 2
  | some .clampedHigh => 3
  | some .repeated => 4

/-- Outcome codes, absent 0 (R182). -/
def outcomeOfCode : Nat → Option (Option SaleOutcome)
  | 0 => some none
  | 1 => some (some .applied)
  | 2 => some (some .clampedLow)
  | 3 => some (some .clampedHigh)
  | 4 => some (some .repeated)
  | _ => none

/-- Desk toggle codes (R182). -/
def toggleCode : Option Bool → Nat
  | some false => 0
  | some true => 1
  | none => 2

/-- Tally mode codes (R182). -/
def TallyMode.code : TallyMode → Nat
  | .strict => 0
  | .reconcile => 1

/-- Tally mode codes (R182). -/
def TallyMode.ofCode : Nat → Option TallyMode
  | 0 => some .strict
  | 1 => some .reconcile
  | _ => none

/-- Show state codes (R182). -/
def ShowState.code : ShowState → Nat
  | .vacant => 0
  | .listed => 1
  | .boarding => 2
  | .started => 3
  | .retired => 4

/-- Chime mode codes (R182). -/
def ChimeMode.ofCode : Nat → Option ChimeMode
  | 0 => some .level
  | 1 => some .tone
  | _ => none

/-- Pitch codes (R182). -/
def Pitch.ofCode : Nat → Option Pitch
  | 0 => some .low
  | 1 => some .high
  | _ => none

/-- Time form codes (R182). -/
def TimeForm.code : TimeForm → Nat
  | .hour24 => 0
  | .hour12 => 1

/-- Time form codes (R182). -/
def TimeForm.ofCode : Nat → Option TimeForm
  | 0 => some .hour24
  | 1 => some .hour12
  | _ => none

/-- The cadence code is the number of frames per second (R182). -/
def Cadence.code : Cadence → Nat
  | .fps24 => 24
  | .fps25 => 25
  | .fps30 => 30
  | .fps50 => 50
  | .fps60 => 60

/-- The cadence code is the number of frames per second (R182). -/
def Cadence.ofCode : Nat → Option Cadence
  | 24 => some .fps24
  | 25 => some .fps25
  | 30 => some .fps30
  | 50 => some .fps50
  | 60 => some .fps60
  | _ => none

/-- Region kind codes (R182). -/
def RegionKind.code : RegionKind → Nat
  | .program => 0
  | .listing => 1
  | .card => 2
  | .ticker => 3
  | .clock => 4
  | .fill => 5

/-- Region kind codes (R182). -/
def RegionKind.ofCode : Nat → Option RegionKind
  | 0 => some .program
  | 1 => some .listing
  | 2 => some .card
  | 3 => some .ticker
  | 4 => some .clock
  | 5 => some .fill
  | _ => none

/-- Field kind codes (R182). -/
def FieldKind.code : FieldKind → Nat
  | .title => 0
  | .rating => 1
  | .auditorium => 2
  | .start => 3
  | .ends => 4
  | .minutes => 5
  | .seats => 6
  | .bandword => 7
  | .state => 8
  | .badges => 9
  | .clock => 10
  | .notice => 11
  | .literal => 12

/-- Field kind codes (R182). -/
def FieldKind.ofCode : Nat → Option FieldKind
  | 0 => some .title
  | 1 => some .rating
  | 2 => some .auditorium
  | 3 => some .start
  | 4 => some .ends
  | 5 => some .minutes
  | 6 => some .seats
  | 7 => some .bandword
  | 8 => some .state
  | 9 => some .badges
  | 10 => some .clock
  | 11 => some .notice
  | 12 => some .literal
  | _ => none

/-- Alignment codes (R182). -/
def Alignment.code : Alignment → Nat
  | .left => 0
  | .right => 1
  | .centre => 2

/-- Alignment codes (R182). -/
def Alignment.ofCode : Nat → Option Alignment
  | 0 => some .left
  | 1 => some .right
  | 2 => some .centre
  | _ => none

/-- Lock state codes (R182). -/
def LockState.code : LockState → Nat
  | .noSignal => 0
  | .search => 1
  | .locked => 2

/-- Clock state codes (R182). -/
def ClockState.code : ClockState → Nat
  | .unset => 0
  | .running => 1
  | .holdover => 2
  | .lost => 3

/-- Tile state codes (R182). -/
def TileState.code : TileState → Nat
  | .idle => 0
  | .dirty => 1
  | .queued => 2
  | .rendering => 3
  | .clean => 4

/-- Refusal reason codes (R182). -/
def Reason.code : Reason → Nat
  | .unknownKind => 1
  | .badLength => 2
  | .badField => 3
  | .stageFull => 4
  | .cursorEnd => 5
  | .readOnly => 6
  | .noShow => 7
  | .salesClosed => 8
  | .dayClosed => 9
  | .dayOpen => 10
  | .showLive => 11
  | .showPast => 12
  | .auditoriumClash => 13
  | .queueFull => 14
  | .reservedId => 15
  | .notFound => 16
  | .tileRange => 17

/-- The directives (R17, R181). -/
inductive DirectiveKind where
  | markTime | openDay | closeDay | sale | acknowledgeBand | postNotice | withdrawNotice | driveChimeLine | setCursor
  | writeEntry | readEntries | requestStatus | setAttentionMask | span | restart | setDisplayMode | selectLayout
  | selectProgram | setDisplayMasks
  deriving DecidableEq, Repr

/-- Kind codes (R181). -/
def DirectiveKind.ofCode (k : Byte) : Option DirectiveKind :=
  match k.toNat with
  | 0x01 => some .markTime
  | 0x02 => some .openDay
  | 0x03 => some .closeDay
  | 0x10 => some .sale
  | 0x11 => some .acknowledgeBand
  | 0x20 => some .postNotice
  | 0x21 => some .withdrawNotice
  | 0x22 => some .driveChimeLine
  | 0x30 => some .setCursor
  | 0x31 => some .writeEntry
  | 0x32 => some .readEntries
  | 0x38 => some .requestStatus
  | 0x39 => some .setAttentionMask
  | 0x3A => some .span
  | 0x3F => some .restart
  | 0x40 => some .setDisplayMode
  | 0x41 => some .selectLayout
  | 0x42 => some .selectProgram
  | 0x43 => some .setDisplayMasks
  | _ => none

/-- Kind codes (R181). -/
def DirectiveKind.code : DirectiveKind → Byte
  | .markTime => 0x01
  | .openDay => 0x02
  | .closeDay => 0x03
  | .sale => 0x10
  | .acknowledgeBand => 0x11
  | .postNotice => 0x20
  | .withdrawNotice => 0x21
  | .driveChimeLine => 0x22
  | .setCursor => 0x30
  | .writeEntry => 0x31
  | .readEntries => 0x32
  | .requestStatus => 0x38
  | .setAttentionMask => 0x39
  | .span => 0x3A
  | .restart => 0x3F
  | .setDisplayMode => 0x40
  | .selectLayout => 0x41
  | .selectProgram => 0x42
  | .setDisplayMasks => 0x43

/-! ### Sets and ranges (R21, R180, R181) -/

/-- The set of the displays of a list. -/
def displaySet (ds : List DisplayNo) : DisplaySet :=
  ds.foldl (fun w d => w ||| BitVec.twoPow 12 d.val) 0

/-- A class set from its byte: bits 4 to 7 must be 0 (R180). -/
def classSet? (b : Byte) : Option ClassSet := if b.toNat < 16 then some (BitVec.ofNat 4 b.toNat) else none

/-- Is a notice class in a set? Bit 0 is URGENT, 1 SHOW, 2 DESK, 3 HOUSE (R180). -/
def NoticeClass.isIn (c : NoticeClass) (w : ClassSet) : Bool := w.getLsbD c.code

/-- The displays of a range: the base and span further ones, modulo 12, in range order (R21). -/
def rangeOf (base span : Nat) : List DisplayNo :=
  (List.range (span + 1)).map fun i => Fin.ofNat 12 (base + i)

/-- The display range of a directive: the range byte carries the base in bits 0 to 3 and the span in bits 4 and 5, and a
held span prefix replaces the span (R18 step 4, R21, R181). none is a BAD_FIELD. -/
def rangeField (held : Option (Fin 12)) (b : Byte) : Option (List DisplayNo) :=
  let base := b.toNat % 16
  let own := b.toNat / 16
  if 3 < own ∨ 11 < base then none
  else some (rangeOf base (match held with | some h => h.val | none => own))

/-! ### Entry images (R184) -/

/-- Byte i of an image. -/
def imageByte (img : List Byte) (i : Nat) : Byte := img.getD i 0

/-- Bytes padded with 0 to n. -/
def padTo (n : Nat) (bs : List Byte) : List Byte := bs ++ List.replicate (n - bs.length) 0

/-- A palette index from its byte (R169). -/
def colourIndex? (b : Byte) : Option ColourIndex := fin? 16 b.toNat

/-- The SETTINGS image as read: the clock record's civil start and day number stand in it (R54, R184). -/
def settingsImage (st : Settings) (c : Clock) : List Byte :=
  [byteOf st.cadence.code, byteOf st.timeForm.code] ++ halfBytes c.civilStart ++ halfBytes c.dayNumber ++
  [byteOf st.boardingStrikes, byteOf st.fewSeats, byteOf st.fillingPercent] ++ halfBytes st.exactLimit ++
  [byteOf st.step, st.ellipsis, byteOf st.dwell, byteOf st.colours.backdrop.val, byteOf st.colours.takeoverFg.val,
   byteOf st.colours.takeoverBg.val, byteOf st.colours.bannerFg.val, byteOf st.colours.bannerBg.val]

/-- A written SETTINGS image: the settings, the civil start and the day number; none is a BAD_FIELD (R13, R54, R78, R82,
R144, R162, R169). -/
def settingsOfImage (img : List Byte) : Option (Settings × Nat × Nat) := do
  let at' := imageByte img
  let cadence ← Cadence.ofCode (at' 0).toNat
  let form ← TimeForm.ofCode (at' 1).toNat
  let civil := half (at' 2) (at' 3)
  let day := half (at' 4) (at' 5)
  let strikes := (at' 6).toNat
  let few := (at' 7).toNat
  let filling := (at' 8).toNat
  let exact' := half (at' 9) (at' 10)
  let step := (at' 11).toNat
  let dwell := (at' 13).toNat
  let backdrop ← colourIndex? (at' 14)
  let takeoverFg ← colourIndex? (at' 15)
  let takeoverBg ← colourIndex? (at' 16)
  let bannerFg ← colourIndex? (at' 17)
  let bannerBg ← colourIndex? (at' 18)
  if civil ≤ 1439 ∧ strikes ≤ 3 ∧ (1 ≤ few ∧ few ≤ 99) ∧ (1 ≤ filling ∧ filling ≤ 99) ∧ exact' ≤ 999 ∧
      (1 ≤ step ∧ step ≤ 100) ∧ at' 12 ≠ 0 ∧ (2 ≤ dwell ∧ dwell ≤ 30) then
    some ({ cadence := cadence, timeForm := form, boardingStrikes := strikes, fewSeats := few, fillingPercent := filling,
            exactLimit := exact', step := step, ellipsis := at' 12, dwell := dwell,
            colours := { backdrop := backdrop, takeoverFg := takeoverFg, takeoverBg := takeoverBg, bannerFg := bannerFg,
                         bannerBg := bannerBg } }, civil, day)
  else none

/-- The SHOW image as read (R60, R184). -/
def showImage (w : Show) (mode : TallyMode) : List Byte :=
  if w.state = .vacant then List.replicate 19 0
  else
    [1, byteOf w.state.code, byteOf w.auditorium, byteOf w.title] ++ halfBytes w.start ++ halfBytes w.runtime ++
    [byteOf w.lead, byteOf w.closeOffset, byteOf w.grace] ++ halfBytes w.capacity ++
    [byteOf w.listingClass,
     byteOf (flagBit w.announce 0 + flagBit w.salesClosed 1 + flagBit (decide (mode = .reconcile)) 2),
     byteOf w.badges.length] ++ padTo 3 w.badges

/-- What a written SHOW image asks (R61). -/
inductive ShowWrite where
  /-- present 0: a clear -/
  | clear
  /-- present 1: the record it gives, LISTED with sales open, and its tally mode -/
  | record (w : Show) (mode : TallyMode)
  deriving DecidableEq, Repr

/-- A written SHOW image; none is a BAD_FIELD (R58, R61). The state byte and the sales-closed bit are not taken (R60). -/
def showOfImage (img : List Byte) : Option ShowWrite :=
  let at' := imageByte img
  if at' 0 = 0 then some .clear
  else if at' 0 ≠ 1 then none
  else
    let start := half (at' 4) (at' 5)
    let runtime := half (at' 6) (at' 7)
    let capacity := half (at' 11) (at' 12)
    let bits := (at' 14).toNat
    let n := (at' 15).toNat
    let badges := (img.drop 16).take n
    if (1 ≤ (at' 2).toNat ∧ (at' 2).toNat ≤ 24) ∧ (at' 3).toNat ≤ 63 ∧ start ≤ 2879 ∧ (1 ≤ runtime ∧ runtime ≤ 360) ∧
        (at' 8).toNat ≤ 60 ∧ (at' 9).toNat ≤ 60 ∧ (at' 10).toNat ≤ 120 ∧ (at' 9).toNat ≤ (at' 10).toNat ∧
        (1 ≤ capacity ∧ capacity ≤ 999) ∧ (at' 13).toNat ≤ 3 ∧ bits ≤ 7 ∧ n ≤ 3 ∧ (0 : Byte) ∉ badges then
      some (.record
        { state := .listed, auditorium := (at' 2).toNat, title := (at' 3).toNat, start := start, runtime := runtime,
          lead := (at' 8).toNat, closeOffset := (at' 9).toNat, grace := (at' 10).toNat, capacity := capacity,
          listingClass := (at' 13).toNat, badges := badges, announce := decide (bits % 2 = 1), salesClosed := false }
        (if bits / 4 = 1 then .reconcile else .strict))
    else none

/-- The TALLY image as read (R104, R184). -/
def tallyImage (t : Tally) : List Byte :=
  halfBytes t.remaining ++ [BitVec.ofInt 8 t.clip] ++ signedHalfBytes t.net ++
  [byteOf t.mode.code, byteOf (flagBit t.unbalanced 0 + flagBit t.departed 1), byteOf t.band.code, byteOf t.acked.code,
   byteOf (outcomeCode t.lastOutcome)]

/-- A written TALLY image, for a slot of that capacity; none is a BAD_FIELD (R80, R100; log 14). -/
def tallyOfImage (capacity : Nat) (img : List Byte) : Option Tally := do
  let at' := imageByte img
  let remaining := half (at' 0) (at' 1)
  let clip := (at' 2).toInt
  let net := signedHalf (at' 3) (at' 4)
  let mode ← TallyMode.ofCode (at' 5).toNat
  let band ← Band.ofCode (at' 7).toNat
  let acked ← Band.ofCode (at' 8).toNat
  let outcome ← outcomeOfCode (at' 9).toNat
  let bits := (at' 6).toNat
  if remaining ≤ capacity ∧ -127 ≤ clip ∧ (-9999 ≤ net ∧ net ≤ 9999) ∧ bits ≤ 3 then
    some { remaining := remaining, clip := clip, net := net, mode := mode, unbalanced := decide (bits % 2 = 1),
           band := band, acked := acked, departed := decide (bits / 2 = 1), lastOutcome := outcome }
  else none

/-- The TITLE image of an entry as read (R184). The rating code byte of an absent rating is a free value (log 40). -/
def titleImage (i : Fin 64) (t : Title) : List Byte :=
  [byteOf t.text.length, byteOf (flagBit t.rating.isSome 0), t.rating.getD (Config.absentRatingCode i.val)] ++
  padTo 32 t.text

/-- A written TITLE image; none is a BAD_FIELD (R59). -/
def titleOfImage (img : List Byte) : Option Title :=
  let at' := imageByte img
  let n := (at' 0).toNat
  let text := (img.drop 3).take n
  if n ≤ 32 ∧ (at' 1).toNat ≤ 1 ∧ ¬(at' 1 = 1 ∧ at' 2 = 0) ∧ (0 : Byte) ∉ text then
    some { text := text, rating := if at' 1 = 1 then some (at' 2) else none }
  else none

/-- The three bytes of a template field (R184). -/
def templateFieldBytes (f : TemplateField) : List Byte :=
  [byteOf (f.kind.code + 16 * f.align.code), byteOf f.width, byteOf (16 * f.runFirst + (f.runLength - 1))]

/-- The TEMPLATE image as read: FFh opens every record beyond the field count (R184). -/
def templateImage (t : Template) : List Byte :=
  t.fields.flatMap templateFieldBytes ++ (List.replicate (8 - t.fields.length) [0xFF#8, 0, 0]).flatten ++ padTo 16 t.pool

/-- One field record of a written TEMPLATE image; none is a BAD_FIELD (R142, R184). -/
def templateFieldOf (pool : Nat) (b0 b1 b2 : Byte) : Option TemplateField := do
  let kind ← FieldKind.ofCode (b0.toNat % 16)
  let align ← Alignment.ofCode (b0.toNat / 16)
  let first := b2.toNat / 16
  let len := b2.toNat % 16 + 1
  if (1 ≤ b1.toNat ∧ b1.toNat ≤ 160) ∧ (kind = .literal → first + len ≤ pool) then
    some { kind := kind, width := b1.toNat, align := align, runFirst := first, runLength := len }
  else none

/-- The field records of a written TEMPLATE image, up to the first whose first byte is FFh (R184). -/
def templateFieldsOf (pool : Nat) : List Byte → Option (List TemplateField)
  | b0 :: b1 :: b2 :: rest =>
    if b0 = 0xFF#8 then some []
    else do
      let f ← templateFieldOf pool b0 b1 b2
      let fs ← templateFieldsOf pool rest
      some (f :: fs)
  | _ => some []

/-- A written TEMPLATE image; none is a BAD_FIELD (R142, R184). -/
def templateOfImage (img : List Byte) : Option Template := do
  let pool := ((img.drop 24).take 16).takeWhile (· ≠ 0)
  let fields ← templateFieldsOf pool.length (img.take 24)
  some { fields := fields, pool := pool }

/-- The LAYOUT image as read (R184). -/
def layoutImage (l : Layout) : List Byte := [byteOf l.tileBase, byteOf l.regionCount]

/-- A written LAYOUT image; none is a BAD_FIELD (R149). -/
def layoutOfImage (img : List Byte) : Option Layout :=
  let base := (imageByte img 0).toNat
  let count := (imageByte img 1).toNat
  if base ≤ 147 ∧ count ≤ 8 then some { tileBase := base, regionCount := count } else none

/-- The REGION image as read (R184). -/
def regionImage (r : Region) : List Byte :=
  [byteOf r.kind.code, byteOf r.column, byteOf r.row, byteOf r.width, byteOf r.height, byteOf r.foreground.val,
   byteOf r.background.val, byteOf r.template, r.k0, r.k1, r.k2, r.k3, r.k4]

/-- The lane of a PROGRAM region: A to D, or DISPLAY (none) (R150, R182). -/
def Region.programLane (r : Region) : Option (Option Lane) :=
  match r.k0.toNat with
  | 0 => some (some .a)
  | 1 => some (some .b)
  | 2 => some (some .c)
  | 3 => some (some .d)
  | 5 => some none
  | _ => none

/-- LISTING: the class mask (R150, R184). -/
def Region.classMask (r : Region) : ClassSet := BitVec.ofNat 4 r.k0.toNat
/-- LISTING: auditorium first (R150, R184). -/
def Region.auditoriumFirst (r : Region) : Nat := r.k1.toNat
/-- LISTING: auditorium last (R150, R184). -/
def Region.auditoriumLast (r : Region) : Nat := r.k2.toNat
/-- LISTING: the include-STARTED flag (R150, R184). -/
def Region.includeStarted (r : Region) : Bool := decide (r.k3.toNat % 2 = 1)
/-- LISTING: the page period as written (R150, R184). -/
def Region.pagePeriod (r : Region) : Nat := r.k4.toNat
/-- LISTING: the effective period: 1 and 2 act as 3 (R150, R158). -/
def Region.effectivePeriod (r : Region) : Nat :=
  if r.pagePeriod = 0 then 0 else if r.pagePeriod < 3 then 3 else r.pagePeriod
/-- TICKER: the class set (R150, R184). -/
def Region.tickerClasses (r : Region) : ClassSet := BitVec.ofNat 4 r.k0.toNat

/-- The source of a CARD region (R150). -/
inductive CardSource where
  | fixedSlot (s : Slot)
  | nextInAuditorium (a : Nat)
  deriving DecidableEq, Repr

/-- CARD: its source (R150, R184); none for bytes no image can bring. -/
def Region.cardSource (r : Region) : Option CardSource :=
  match r.k0.toNat with
  | 0 => (fin? 96 r.k1.toNat).map .fixedSlot
  | 1 => if 1 ≤ r.k1.toNat ∧ r.k1.toNat ≤ 24 then some (.nextInAuditorium r.k1.toNat) else none
  | _ => none

/-- Are the kind fields that the kind uses in their ranges? (R150). The include-STARTED byte of a LISTING image passes only
as 0 or 1, its other bits clear: DESIGN CHOICE (log 39). -/
def Region.kindFieldsOk (r : Region) : Bool :=
  match r.kind with
  | .program => r.programLane.isSome
  | .listing =>
    decide (r.k0.toNat < 16 ∧ (1 ≤ r.k1.toNat ∧ r.k1.toNat ≤ 24) ∧ (1 ≤ r.k2.toNat ∧ r.k2.toNat ≤ 24) ∧
      r.k1.toNat ≤ r.k2.toNat ∧ r.k3.toNat ≤ 1 ∧ r.k4.toNat ≤ 60)
  | .card => r.cardSource.isSome
  | .ticker => decide (r.k0.toNat < 16)
  | .clock => true
  | .fill => true

/-- A written REGION image; none is a BAD_FIELD (R150; log 12). -/
def regionOfImage (img : List Byte) : Option Region := do
  let at' := imageByte img
  let kind ← RegionKind.ofCode (at' 0).toNat
  let fg ← colourIndex? (at' 5)
  let bg ← colourIndex? (at' 6)
  let r : Region :=
    { kind := kind, column := (at' 1).toNat, row := (at' 2).toNat, width := (at' 3).toNat, height := (at' 4).toNat,
      foreground := fg, background := bg, template := (at' 7).toNat, k0 := at' 8, k1 := at' 9, k2 := at' 10,
      k3 := at' 11, k4 := at' 12 }
  if r.column ≤ 79 ∧ r.row ≤ 44 ∧ (1 ≤ r.width ∧ r.width ≤ 80) ∧ (1 ≤ r.height ∧ r.height ≤ 45) ∧ r.template ≤ 31 ∧
      r.kindFieldsOk = true then some r
  else none

/-- The PALETTE image as read (R184). -/
def paletteImage (c : Colour) : List Byte := [c.red, c.green, c.blue]

/-- A written PALETTE image: no value is out of range (R169). -/
def paletteOfImage (img : List Byte) : Colour :=
  { red := imageByte img 0, green := imageByte img 1, blue := imageByte img 2 }

/-- The GLYPH image as read: group i holds rows 2i and 2i + 1 (R184). -/
def glyphImage (g : Glyph) : List Byte :=
  (List.finRange 12).flatMap fun i =>
    let even := g.read ⟨2 * i.val, by omega⟩
    let odd := g.read ⟨2 * i.val + 1, by omega⟩
    [even.extractLsb' 4 8, (even.extractLsb' 0 4 ++ odd.extractLsb' 8 4 : BitVec 8), odd.extractLsb' 0 8]

/-- A written GLYPH image: no value is out of range (R169, R184). -/
def glyphOfImage (img : List Byte) : Glyph :=
  Table.tabulate fun row =>
    let b0 := imageByte img (3 * (row.val / 2))
    let b1 := imageByte img (3 * (row.val / 2) + 1)
    let b2 := imageByte img (3 * (row.val / 2) + 2)
    if row.val % 2 = 0 then (b0 ++ b1.extractLsb' 4 4 : BitVec 12) else (b1.extractLsb' 0 4 ++ b2 : BitVec 12)

/-- The DESK image as read (R104, R184). -/
def deskImage (k : Desk) : List Byte :=
  [byteOf (toggleCode k.toggle), byteOf k.repeats, optionalSlotByte k.lastSlot, byteOf (outcomeCode k.lastOutcome)]

/-- The class, takeover and strikes of a notice in one byte (R181, R184). -/
def noticeClassByte (n : Notice) : Byte := byteOf (n.cls.code + flagBit n.takeover 3 + 16 * n.strikes)

/-- The NOTICE image as read: the notice at that position and its arrival number, or none (R120, R184). -/
def noticeImage : Option (Notice × Nat) → List Byte
  | none => List.replicate 7 0 ++ [0xFF#8] ++ List.replicate 26 0
  | some (n, arrival) =>
    [1, n.id, noticeClassByte n] ++ halfBytes n.lifetime ++ halfBytes n.target.toNat ++
    [optionalSlotByte n.linked, byteOf arrival, byteOf n.text.length] ++ padTo 24 (n.text.take 24)

/-- The DISPLAY image as read, with the display's wake request and its takeover notice (R179, R184). -/
def displayImage (d : Display) (wake : Bool) : List Byte :=
  [byteOf d.mode.code, byteOf d.saved.code, byteOf d.layout.val, byteOf d.lane.code, byteOf d.attractPass.toNat,
   byteOf d.darkWake.toNat,
   byteOf (flagBit d.banner 0 + flagBit d.panelPresent 1 + flagBit wake 2 + flagBit d.takeover.isSome 3),
   d.takeover.getD 0]

/-- The sum of the committed codes modulo 65536 (R147). -/
def textSum (codes : List Byte) : Nat := (codes.map BitVec.toNat).sum % 65536

/-- The binding bytes of a TILE image (R184). -/
def bindingBytes (t : TileNo) (b : Option Binding) : List Byte :=
  if t.val < Config.layoutTiles then
    match b with
    | some b => [byteOf b.layout.val, byteOf b.region.val, byteOf b.row]
    | none => [0xFF#8, Config.unboundTileByte t.val 2, Config.unboundTileByte t.val 3]
  else [byteOf (0x80 + (t.val - Config.layoutTiles)), 0, 0]

/-- The bound source bytes of a TILE image (R184). -/
def boundBytes : Option BoundSource → List Byte
  | none => [0, 0]
  | some (.slot s) => [1, byteOf s.val]
  | some (.notice id) => [2, id]

/-- The TILE image as read (R147, R184). -/
def tileImage (t : TileNo) (x : Tile) : List Byte :=
  [byteOf (x.state.code + flagBit x.stale 3 + flagBit x.released 4 + flagBit x.ready 5)] ++ bindingBytes t x.binding ++
  boundBytes x.bound ++ [byteOf x.committed.length] ++ halfBytes (textSum x.committed) ++
  padTo 28 (x.committed.take 28)

end Sys2Proof.Machine
end

