-- ==== Sys2Proof/Machine/Flags.lean ====
section
/-! DEFINITION. Attention flags, the report queue, the chain buffer and the return lane arbiter (R30 to R37). -/

namespace Sys2Proof.Machine

/-- The fourteen attention flags (R30). -/
inductive AttentionFlag where
  | restarted | feedLost | checkFail | stageDrop | refused | reportFull | band | clipLimit | clockHoldover | clockLost
  | renderBacklog | noticeEvicted | displayLost | displayWoke
  deriving DecidableEq, Repr

/-- The bit of each flag (R182). -/
def AttentionFlag.index : AttentionFlag → Nat
  | .restarted => 0
  | .feedLost => 1
  | .checkFail => 2
  | .stageDrop => 3
  | .refused => 4
  | .reportFull => 5
  | .band => 6
  | .clipLimit => 7
  | .clockHoldover => 8
  | .clockLost => 9
  | .renderBacklog => 10
  | .noticeEvicted => 11
  | .displayLost => 12
  | .displayWoke => 13

/-- Is a flag in a flag word? -/
def AttentionFlag.isIn (f : AttentionFlag) (w : BitVec 14) : Bool := w.getLsbD f.index

/-- A flag word with one more flag set. -/
def AttentionFlag.setIn (f : AttentionFlag) (w : BitVec 14) : BitVec 14 := w ||| BitVec.twoPow 14 f.index

/-- What a STATUS report captures from the blocks, beside the flags (R33). -/
structure StatusView where
  lock           : LockState
  clock          : Clock
  refusalCount   : Nat
  lastRefusal    : Option RefusalRecord
  checkFailCount : Nat
  malformedCount : Nat
  stagingDepth   : Nat
  renderDepth    : Nat
  noticeCount    : Nat
  identity       : Fin 8
  deriving DecidableEq, Repr

/-- The values a STATUS report would capture now (R33). -/
def State.statusView (s : State) : StatusView :=
  { lock := s.feed.lock, clock := s.clock, refusalCount := s.dir.refusalCount, lastRefusal := s.dir.lastRefusal,
    checkFailCount := s.feed.checkFailCount, malformedCount := s.feed.malformedCount, stagingDepth := s.dir.staging.length,
    renderDepth := s.fmt.queue.length, noticeCount := s.notice.queue.length, identity := s.feed.identity }

/-- The report kind codes (R183). -/
def Report.kindCode : Report → Byte
  | .status => 0x01
  | .entryData _ _ _ => 0x02
  | .alert _ _ _ _ => 0x03
  | .noticeEvicted _ _ => 0x04

/-- The last refusal record in a STATUS report: three bytes of 0 when it is absent (R183). -/
def refusalBytes : Option RefusalRecord → List Byte
  | none => [0, 0, 0]
  | some r => [r.kind, r.tag, byteOf r.reason.code]

/-- The payload of a report at its grant, with the flags it carries (R33, R183). -/
def Report.payload (v : StatusView) (flags : BitVec 14) : Report → List Byte
  | .status =>
    halfBytes flags.toNat ++ [byteOf v.lock.code, byteOf v.clock.state.code] ++ halfBytes v.clock.minute ++
    [byteOf v.clock.second] ++ halfBytes v.refusalCount ++ refusalBytes v.lastRefusal ++ halfBytes v.checkFailCount ++
    halfBytes v.malformedCount ++
    [byteOf v.stagingDepth, byteOf v.renderDepth, byteOf v.noticeCount, byteOf v.identity.val]
  | .entryData table index image => [byteOf table.code, byteOf index] ++ image
  | .alert slot acked band remaining =>
    [byteOf slot.val, byteOf acked.code, byteOf band.code] ++ halfBytes remaining
  | .noticeEvicted id cls => [id, byteOf cls.code]

/-- The bytes before the check byte of a return packet (R183). -/
def returnPacketBody (identity : Fin 8) (kind : Byte) (payload : List Byte) : List Byte :=
  [0x3A, byteOf identity.val, kind, byteOf payload.length] ++ payload

/-- A return packet: all its bytes sum to 0 modulo 256 (R183). -/
def returnPacket (identity : Fin 8) (kind : Byte) (payload : List Byte) : List Byte :=
  returnPacketBody identity kind payload ++ [-(byteSum (returnPacketBody identity kind payload))]

/-- The packet the device builds for a report at its grant (R183). -/
def Report.packet (v : StatusView) (flags : BitVec 14) (r : Report) : List Byte :=
  returnPacket v.identity r.kindCode (r.payload v flags)

/-- The downstream ready output: given while the chain buffer holds fewer than 4 packets (R35). -/
def ReportUnit.downstreamReady (r : ReportUnit) : Bool := r.chain.length < Config.chainSize

/-- The flags after a report's grant: a STATUS report clears every flag it carries, which is every set flag (R33). -/
def Report.flagsAfter (flags : BitVec 14) : Report → BitVec 14
  | .status => 0
  | .entryData _ _ _ => flags
  | .alert _ _ _ _ => flags
  | .noticeEvicted _ _ => flags

/-- The report queue is granted: its head is sent, and an owed STATUS report takes the freed place (R32, R33, R36). -/
def ReportUnit.grantReport (v : StatusView) (r : ReportUnit) (head : Report) (rest : List Report) : ReportUnit :=
  { r with
    flags := head.flagsAfter r.flags
    queue := if r.owed then rest ++ [Report.status] else rest
    owed := false
    lane := .sending (head.packet v r.flags) }

/-- The chain buffer is granted: its head is sent unchanged (R36). -/
def ReportUnit.grantChain (r : ReportUnit) (head : List Byte) (rest : List (List Byte)) : ReportUnit :=
  { r with chain := rest, lane := .sending head }

/-- A grant, where the lane is IDLE, the upstream ready is given and a packet waits (R36). -/
def ReportUnit.tryGrant (v : StatusView) (r : ReportUnit) : ReportUnit :=
  if r.lane = .idle ∧ r.upstreamReady = true then
    match r.queue, r.chain with
    | [], [] => r
    | h :: t, [] => r.grantReport v h t
    | [], p :: ps => r.grantChain p ps
    | h :: t, p :: ps =>
      match r.lastWinner with
      | .localSide => { r.grantChain p ps with lastWinner := .chainSide }
      | .chainSide => { r.grantReport v h t with lastWinner := .localSide }
  else r

/-- Does a STATUS report wait in the report queue? (R32). -/
def ReportUnit.statusWaits (r : ReportUnit) : Bool := r.queue.contains Report.status

/-- A STATUS report is queued, unless one waits; with no room it is owed and REPORT_FULL is set (R32). -/
def ReportUnit.queueStatus (v : StatusView) (r : ReportUnit) : ReportUnit :=
  if r.statusWaits then r
  else if r.queue.length < Config.reportSize then
    ({ r with queue := r.queue ++ [Report.status], owed := false }).tryGrant v
  else { r with flags := AttentionFlag.reportFull.setIn r.flags, owed := true }

/-- A flag is set; where it was clear and is enabled, a STATUS report is queued (R30, R32). -/
def ReportUnit.setFlag (v : StatusView) (f : AttentionFlag) (r : ReportUnit) : ReportUnit :=
  if f.isIn r.flags then r
  else
    let r' := { r with flags := f.setIn r.flags }
    if f.isIn r.mask then r'.queueStatus v else r'

/-- A report other than STATUS is queued, or lost with REPORT_FULL set (R34). -/
def ReportUnit.queueReport (v : StatusView) (x : Report) (r : ReportUnit) : ReportUnit :=
  if r.queue.length < Config.reportSize then ({ r with queue := r.queue ++ [x] }).tryGrant v
  else r.setFlag v .reportFull

/-- A grant is made if one is due (R36). -/
def State.tryGrant (s : State) : State := { s with rep := s.rep.tryGrant s.statusView }

/-- An attention flag is set (R30, R32). -/
def State.setFlag (f : AttentionFlag) (s : State) : State := { s with rep := s.rep.setFlag s.statusView f }

/-- A STATUS report is queued or owed (R32). -/
def State.queueStatus (s : State) : State := { s with rep := s.rep.queueStatus s.statusView }

/-- A report other than STATUS is queued or lost (R34). -/
def State.queueReport (x : Report) (s : State) : State := { s with rep := s.rep.queueReport s.statusView x }

/-- The attention mask is replaced; a newly enabled flag that is set counts as a change (R31, R32). Several such flags make
one queueing together: DESIGN CHOICE (log 42). -/
def State.setMask (m : BitVec 14) (s : State) : State :=
  let fresh := m &&& ~~~s.rep.mask &&& s.rep.flags
  let s' := { s with rep := { s.rep with mask := m } }
  if fresh = 0 then s' else s'.queueStatus

/-- A chain packet joins the chain buffer; one that would find it full does not come (R35; log 2). -/
def State.chainArrives (packet : List Byte) (s : State) : State :=
  if s.rep.chain.length < Config.chainSize then
    ({ s with rep := { s.rep with chain := s.rep.chain ++ [packet] } }).tryGrant
  else s

/-- The upstream ready is given (R36). -/
def State.giveUpstreamReady (s : State) : State :=
  ({ s with rep := { s.rep with upstreamReady := true } }).tryGrant

/-- The upstream ready is withdrawn: the next grant waits for it (R37). -/
def State.withdrawUpstreamReady (s : State) : State :=
  { s with rep := { s.rep with upstreamReady := false } }

/-- A transmission completes: the lane becomes IDLE, and a grant follows if one is due (R37). With the lane IDLE no
transmission completes (log 2). -/
def State.completeTransmission (s : State) : State :=
  match s.rep.lane with
  | .idle => s
  | .sending _ => ({ s with rep := { s.rep with lane := .idle } }).tryGrant

end Sys2Proof.Machine
end

