-- ==== Sys2Proof/Machine/Ops.lean ====
section
/-! DEFINITION. The directive unit's shared operations: refusals, the span prefix, the cursor, the staging queue (R19 to R29).
The device has no exception entry: an error is a registered refusal or an attention flag. -/

namespace Sys2Proof.Machine

/-- A 16-bit count that saturates at 65535, incremented (R8, R19). -/
def bump16 (n : Nat) : Nat := if n < Config.countMax then n + 1 else Config.countMax

/-- A refusal is registered (R19). -/
def State.refuse (kind tag : Byte) (reason : Reason) (s : State) : State :=
  ({ s with dir := { s.dir with
      refusalCount := bump16 s.dir.refusalCount
      lastRefusal := some { kind := kind, tag := tag, reason := reason } } }).setFlag .refused

/-- A refusal of a directive of a known kind (R19). -/
def State.refuseKind (k : DirectiveKind) (tag : Byte) (reason : Reason) (s : State) : State := s.refuse k.code tag reason

/-- The held span prefix is consumed, or dropped (R20). -/
def State.consumeSpan (s : State) : State := { s with dir := { s.dir with span := none } }

/-- The cursor one entry further; from the last entry to "end" (R22). -/
def Cursor.advance (c : Cursor) : Cursor :=
  match c.index with
  | some i => { c with index := if i + 1 < c.table.entries then some (i + 1) else none }
  | none => c

/-- The cursor advances (R22). -/
def State.advanceCursor (s : State) : State := { s with dir := { s.dir with cursor := s.dir.cursor.advance } }

/-- Is there room in the staging queue? (R26). -/
def State.stageRoom (s : State) : Bool := s.dir.staging.length < Config.stagingSize

/-- A directive joins the staging queue's tail with the mark CURRENT (R26). -/
def State.stagePush (s : State) (k : DirectiveKind) (tag : Byte) (body : StagedBody) : State :=
  { s with dir := { s.dir with
      staging := s.dir.staging ++ [{ kind := k.code, tag := tag, mark := .current, body := body }] } }

/-- A STAGE_FULL refusal sets STAGE_DROP as well (R26). -/
def State.refuseStageFull (s : State) (k : DirectiveKind) (tag : Byte) : State :=
  (s.refuseKind k tag .stageFull).setFlag .stageDrop

/-- A display-addressed directive is offered to the staging queue (R26). -/
def State.stage (s : State) (k : DirectiveKind) (tag : Byte) (body : StagedBody) : State :=
  if s.stageRoom then s.stagePush k tag body else s.refuseStageFull k tag

/-- A frame-aligned WRITE ENTRY is offered to the staging queue: taken, the restore point takes the cursor where it is
absent, and the cursor advances (R24, R26, R29). -/
def State.stageWrite (s : State) (tag : Byte) (body : StagedBody) : State :=
  if s.stageRoom then
    let s' := s.stagePush .writeEntry tag body
    ({ s' with dir := { s'.dir with
        restorePoint := match s.dir.restorePoint with
          | some c => some c
          | none => some s.dir.cursor } }).advanceCursor
  else s.refuseStageFull .writeEntry tag

/-- A held directive marked CLOSED (R27). -/
def Staged.close (x : Staged) : Staged := { x with mark := .closed }

/-- The directive unit is told that the frame is closed (R20, R27). -/
def State.frameClosed (s : State) : State :=
  { s with dir := { s.dir with staging := s.dir.staging.map Staged.close, restorePoint := none, span := none } }

/-- Is a held directive marked CURRENT? -/
def Staged.isCurrent (x : Staged) : Bool := x.mark == .current

/-- The directive unit is told that lock is lost (R20, R29). -/
def State.lockLost (s : State) : State :=
  let dropped := s.dir.staging.any Staged.isCurrent
  let s1 := { s with dir := { s.dir with
      staging := s.dir.staging.filter fun x => !x.isCurrent
      cursor := s.dir.restorePoint.getD s.dir.cursor
      restorePoint := none
      span := none } }
  if dropped then s1.setFlag .stageDrop else s1

/-- The directives that an output frame start hands over: those marked CLOSED (R28). -/
def DirectiveUnit.handed (d : DirectiveUnit) : List Staged := d.staging.filter fun x => !x.isCurrent

/-- The handed directives leave the staging queue (R28). -/
def State.takeHanded (s : State) : State :=
  { s with dir := { s.dir with staging := s.dir.staging.filter Staged.isCurrent } }

end Sys2Proof.Machine
end

