-- ==== Sys2Proof/Machine/Layouts.lean ====
section
/-! DEFINITION. What follows from the layout and region records: text rows, tile ranges, ticker regions, eligible shows and
eligible notices (R121, R122, R140, R151 to R153, R157). -/

namespace Sys2Proof.Machine

/-- Region r of layout L is entry 8L + r of the REGION table (R150). -/
def regionIndex (l : LayoutNo) (r : RegionNo) : Fin 128 := ⟨8 * l.val + r.val, by omega⟩

/-- The layout of an entry of the REGION table (R150). -/
def regionLayout (i : Fin 128) : LayoutNo := ⟨i.val / 8, by omega⟩

/-- The region number of an entry of the REGION table (R150). -/
def regionNumber (i : Fin 128) : RegionNo := ⟨i.val % 8, by omega⟩

/-- The notice tile of a display (R128). -/
def noticeTile (d : DisplayNo) : TileNo := ⟨148 + d.val, by omega⟩

/-- The display of a notice tile, or none for a layout tile (R128). -/
def tileDisplay (t : TileNo) : Option DisplayNo :=
  if h : 148 ≤ t.val then some ⟨t.val - 148, by omega⟩ else none

/-- A region record. -/
def Compositor.region (c : Compositor) (l : LayoutNo) (r : RegionNo) : Region := c.regions.read (regionIndex l r)

/-- Does a region act? Regions 0 to count − 1 of a layout act (R149). -/
def Compositor.acts (c : Compositor) (l : LayoutNo) (r : RegionNo) : Bool := r.val < (c.layouts.read l).regionCount

/-- A region of one of the kinds that layout tiles serve (R151). -/
def RegionKind.isText : RegionKind → Bool
  | .program => false
  | .listing => true
  | .card => true
  | .ticker => false
  | .clock => true
  | .fill => false

/-- The text rows of a layout in order, each with its region and its row in it (R152). -/
def Compositor.textRows (c : Compositor) (l : LayoutNo) : List (RegionNo × Nat) :=
  (List.finRange 8).flatMap fun r =>
    if c.acts l r && (c.region l r).kind.isText then (List.range (c.region l r).height).map fun k => (r, k) else []

/-- The tile count of a layout (R152). -/
def Compositor.tileCount (c : Compositor) (l : LayoutNo) : Nat := (c.textRows l).length

/-- The first tile number past the tile range of a layout (R152). -/
def Compositor.tileEnd (c : Compositor) (l : LayoutNo) : Nat := (c.layouts.read l).tileBase + c.tileCount l

/-- Is a tile in the tile range of a layout? (R152). -/
def Compositor.inRange (c : Compositor) (l : LayoutNo) (t : TileNo) : Bool :=
  decide ((c.layouts.read l).tileBase ≤ t.val ∧ t.val < c.tileEnd l ∧ t.val < Config.layoutTiles)

/-- The tiles of a layout's tile range, in ascending order (R152). -/
def Compositor.tileRange (c : Compositor) (l : LayoutNo) : List TileNo :=
  (List.finRange 160).filter (c.inRange l)

/-- The binding that the assignment gives a tile of a layout's range, or none for a tile outside it (R152). -/
def Compositor.bindingAt (c : Compositor) (l : LayoutNo) (t : TileNo) : Option Binding :=
  if c.inRange l t then
    ((c.textRows l)[t.val - (c.layouts.read l).tileBase]?).map fun p => { layout := l, region := p.1, row := p.2 }
  else none

/-- The tile that serves a row of a region of a layout, or none (R152). -/
def Compositor.rowTile (c : Compositor) (l : LayoutNo) (r : RegionNo) (row : Nat) : Option TileNo :=
  (c.tileRange l).find? fun t => c.bindingAt l t == some { layout := l, region := r, row := row }

/-- Does the tile range of a layout pass the bounds check? (R153). -/
def Compositor.inBounds (c : Compositor) (l : LayoutNo) : Bool := c.tileEnd l ≤ Config.layoutTiles

/-- Do the tile ranges of two layouts share a tile? (R153). -/
def Compositor.rangesMeet (c : Compositor) (l m : LayoutNo) : Bool :=
  (List.finRange 160).any fun t => c.inRange l t && c.inRange m t

/-- Does a display select a layout? (R153). -/
def Compositor.selected (c : Compositor) (l : LayoutNo) : Bool :=
  (List.finRange 12).any fun d => (c.displays.read d).layout == l

/-- The layout's ticker region: its first acting TICKER region (R152). -/
def Compositor.tickerRegion (c : Compositor) (l : LayoutNo) : Option RegionNo :=
  (List.finRange 8).find? fun r => c.acts l r && (c.region l r).kind == .ticker

/-- Is a region an acting LISTING region? (R157). -/
def Compositor.actingListing (c : Compositor) (l : LayoutNo) (r : RegionNo) : Bool :=
  c.acts l r && (c.region l r).kind == .listing

/-! ### Eligible shows (R157) -/

/-- Does a show pass the three filters of a LISTING region? (R157). -/
def Region.admits (g : Region) (w : Show) : Bool :=
  g.classMask.getLsbD w.listingClass &&
  decide (g.auditoriumFirst ≤ w.auditorium ∧ w.auditorium ≤ g.auditoriumLast) &&
  (match w.state with
   | .vacant => false
   | .listed => true
   | .boarding => true
   | .started => g.includeStarted
   | .retired => false)

/-- The eligible list of a LISTING region (R157). -/
def Board.eligible (b : Board) (g : Region) : List Slot := b.order.filter fun s => g.admits (b.shows.read s)

/-- The page count for an eligible count: max(1, ceil(n / R)) (R158). -/
def pageCountOf (n height : Nat) : Nat := max 1 ((n + height - 1) / height)

/-- The first slot in the listing order that is LISTED or BOARDING in an auditorium (R140, R161). -/
def Board.nextInAuditorium (b : Board) (a : Nat) : Option Slot :=
  b.order.find? fun s =>
    (b.shows.read s).auditorium == a &&
    ((b.shows.read s).state == .listed || (b.shows.read s).state == .boarding)

/-! ### Eligible notices and the takeover notice (R121, R122) -/

/-- Does a notice target a display? -/
def Notice.targets (n : Notice) (d : DisplayNo) : Bool := n.target.getLsbD d.val

/-- The notices eligible for a display under a class set (R121). -/
def eligibleNotices (q : List Notice) (d : DisplayNo) (cs : ClassSet) : List Notice :=
  let step1 := q.filter fun n => n.targets d && n.cls.isIn cs
  if step1.any fun n => n.cls == .urgent then step1.filter fun n => n.cls == .urgent else step1

/-- The takeover notice of a display (R122). -/
def takeoverNotice (q : List Notice) (d : DisplayNo) : Option Notice :=
  q.find? fun n => n.cls == .urgent && n.takeover && n.targets d

/-- The live notice with an id. -/
def liveNotice (q : List Notice) (id : Byte) : Option Notice := q.find? fun n => n.id == id

end Sys2Proof.Machine
end

