-- ==== Sys2Proof/Machine/Text.lean ====
section
/-! DEFINITION. Civil time, field texts and the fitting of text to columns (R52, R53, R103, R143, R145, R146). -/

namespace Sys2Proof.Machine

/-! ### Codes and digits -/

/-- The character codes of a word. -/
def codes (cs : List Char) : List Byte := cs.map fun c => BitVec.ofNat 8 c.toNat

/-- The code of the space. -/
def space : Byte := 32

/-- n spaces. -/
def spaces (n : Nat) : List Byte := List.replicate n space

/-- The code of the last decimal digit of a number. -/
def digit (n : Nat) : Byte := BitVec.ofNat 8 (48 + n % 10)

/-- Decimal digits without leading zeros, at most `fuel` further digits after the last. -/
def digitsUpTo : Nat → Nat → List Byte
  | 0, n => [digit n]
  | fuel + 1, n => if n < 10 then [digit n] else digitsUpTo fuel (n / 10) ++ [digit n]

/-- Decimal digits without leading zeros, of a number below 10000000000. -/
def digits (n : Nat) : List Byte := digitsUpTo 9 n

/-- Two decimal digits. -/
def twoDigits (n : Nat) : List Byte := [digit (n / 10), digit n]

/-! ### Civil time -/

/-- The civil time of a business minute value (R52). -/
def civilOf (civilStart v : Nat) : Nat := (civilStart + v) % 1440

/-- A civil time in a time form (R52). -/
def civilText (form : TimeForm) (civil : Nat) : List Byte :=
  let h := civil / 60
  let mm := civil % 60
  match form with
  | .hour24 => twoDigits h ++ [58] ++ twoDigits mm
  | .hour12 =>
    digits (if h % 12 = 0 then 12 else h % 12) ++ [58] ++ twoDigits mm ++ [space] ++
    (if h < 12 then codes ['A', 'M'] else codes ['P', 'M'])

/-- Does the clock count? RUNNING or HOLDOVER (R42, R43). -/
def ClockState.counts : ClockState → Bool
  | .unset => false
  | .running => true
  | .holdover => true
  | .lost => false

/-- The text of a CLOCK field (R53). -/
def clockText (form : TimeForm) (c : Clock) : List Byte :=
  if c.state.counts then civilText form (civilOf c.civilStart c.minute) else codes ['-', '-', ':', '-', '-']

/-! ### Show states -/

/-- LISTED or BOARDING: the states of a MINUTES value and of a next show (R140, R143). -/
def ShowState.upcoming : ShowState → Bool
  | .vacant => false
  | .listed => true
  | .boarding => true
  | .started => false
  | .retired => false

/-- The MINUTES value at a minute: start minus it, clamped to 0 to 999 (R133, R143). -/
def minutesAt (w : Show) (m : Nat) : Nat := min 999 (w.start - m)

/-- The MINUTES value of a show, or blank (R143). -/
def minutesValue (c : Clock) (w : Show) : Option Nat :=
  if w.state.upcoming && c.state.counts then some (minutesAt w c.minute) else none

/-! ### The seats-left figure (R103) -/

/-- The seats-left figure, taken from its table from the top (R103). -/
def seatsLeft (st : Settings) (w : Show) (t : Tally) : List Byte :=
  if w.salesClosed then codes ['C', 'L', 'O', 'S', 'E', 'D']
  else if t.remaining = 0 then codes ['S', 'O', 'L', 'D', ' ', 'O', 'U', 'T']
  else if t.remaining ≤ st.exactLimit then digits t.remaining
  else if st.exactLimit < t.remaining / st.step * st.step then digits (t.remaining / st.step * st.step) ++ codes ['+']
  else digits t.remaining

/-! ### Field texts (R143) -/

/-- What a row shows, taken into the snapshot of a render (R137, R140, R141). -/
structure RowSource where
  show? : Option (Show × Tally × Title)
  notice : List Byte
  deriving DecidableEq, Repr

/-- The text of BANDWORD (R143). -/
def bandWord : Band → List Byte
  | .opened => []
  | .filling => codes ['F', 'I', 'L', 'L', 'I', 'N', 'G']
  | .few => codes ['F', 'E', 'W', ' ', 'L', 'E', 'F', 'T']
  | .soldOut => codes ['S', 'O', 'L', 'D', ' ', 'O', 'U', 'T']

/-- The text of STATE (R143). -/
def stateWord : ShowState → List Byte
  | .vacant => []
  | .listed => []
  | .boarding => codes ['B', 'O', 'A', 'R', 'D', 'I', 'N', 'G']
  | .started => codes ['N', 'O', 'W', ' ', 'S', 'H', 'O', 'W', 'I', 'N', 'G']
  | .retired => []

/-- The text of AUDITORIUM (R143). -/
def auditoriumText (a : Nat) : List Byte := codes ['S', 'C', 'R', 'E', 'E', 'N', ' '] ++ digits a

/-- The text a field takes from the show of its row (R143). -/
def showFieldText (st : Settings) (c : Clock) (k : FieldKind) (w : Show) (t : Tally) (x : Title) : List Byte :=
  match k with
  | .title => x.text
  | .rating => x.rating.toList
  | .auditorium => auditoriumText w.auditorium
  | .start => civilText st.timeForm (civilOf c.civilStart w.start)
  | .ends => civilText st.timeForm (civilOf c.civilStart (w.start + w.runtime))
  | .minutes =>
    match minutesValue c w with
    | some n => digits n
    | none => []
  | .seats => seatsLeft st w t
  | .bandword => bandWord t.band
  | .state => stateWord w.state
  | .badges => w.badges.intersperse space
  | .clock => []
  | .notice => []
  | .literal => []

/-- The text of a template field in a row (R143). -/
def fieldText (st : Settings) (c : Clock) (src : RowSource) (pool : List Byte) (f : TemplateField) : List Byte :=
  match f.kind with
  | .clock => clockText st.timeForm c
  | .notice => src.notice
  | .literal => (pool.drop f.runFirst).take f.runLength
  | k =>
    match src.show? with
    | some (w, t, x) => showFieldText st c k w t x
    | none => []

/-! ### Fitting (R145, R146) -/

/-- Text padded with spaces to a width it does not pass (R145). -/
def padText (align : Alignment) (w : Nat) (text : List Byte) : List Byte :=
  let gap := w - text.length
  match align with
  | .left => text ++ spaces gap
  | .right => spaces gap ++ text
  | .centre => spaces (gap / 2) ++ text ++ spaces (gap - gap / 2)

/-- Text cut to a width that it passes: the ellipsis code takes the last place of a width of 2 or more (R145). -/
def cutText (ellipsis : Byte) (w : Nat) (text : List Byte) : List Byte :=
  if 2 ≤ w then text.take (w - 1) ++ [ellipsis] else text.take w

/-- A text fitted to a field's width (R145). -/
def fitText (ellipsis : Byte) (align : Alignment) (w : Nat) (text : List Byte) : List Byte :=
  if w < text.length then cutText ellipsis w text else padText align w text

/-- A row fitted to the row width, with no ellipsis (R146). -/
def fitRow (w : Nat) (row : List Byte) : List Byte := row.take w ++ spaces (w - row.length)

/-- The row that a template gives: its fields fitted and set side by side, then fitted to the row width (R146). -/
def buildRow (st : Settings) (c : Clock) (src : RowSource) (tpl : Template) (w : Nat) : List Byte :=
  fitRow w (tpl.fields.flatMap fun f => fitText st.ellipsis f.align f.width (fieldText st c src tpl.pool f))

/-- Does a template hold a field of a kind? -/
def Template.holds (tpl : Template) (k : FieldKind) : Bool := tpl.fields.any fun f => f.kind == k

/-- The text of a boarding notice (R72). -/
def boardingText (auditorium : Nat) (title : List Byte) : List Byte :=
  codes ['B', 'O', 'A', 'R', 'D', 'I', 'N', 'G', ' ', 'S', 'C', 'R', 'E', 'E', 'N', ' '] ++ digits auditorium ++
  (if title = [] then [] else space :: title)

end Sys2Proof.Machine
end

