-- ==== Sys2Proof/Machine/Formatter.lean ====
section
/-! DEFINITION. The tile formatter: rows, renders, dirty marks, bindings, releases, commits (chapter 7). -/

namespace Sys2Proof.Machine

/-! ### The row of a tile (R140, R141) -/

/-- The row width of a region in glyph columns (R140). -/
def Region.rowWidth (g : Region) : Nat := 2 * g.width

/-- The template of a row of a region (R140). -/
def Region.rowTemplate (g : Region) (row : Nat) : Option (Fin 32) :=
  match g.kind with
  | .program => none
  | .listing => fin? 32 g.template
  | .card => fin? 32 (g.template + row)
  | .ticker => none
  | .clock => fin? 32 g.template
  | .fill => none

/-- The template of a notice tile: that of the ticker region while its display is LIVE with one (R131, R141). -/
def Compositor.tickerTemplate (c : Compositor) (d : DisplayNo) : Option (Fin 32) :=
  if (c.displays.read d).mode = .live then
    match c.tickerRegion (c.displays.read d).layout with
    | some r => fin? 32 (c.region (c.displays.read d).layout r).template
    | none => none
  else none

/-- The template number of a tile as it stands (R131). -/
def State.tileTemplate (s : State) (t : TileNo) : Option (Fin 32) :=
  match tileDisplay t with
  | some d => s.comp.tickerTemplate d
  | none =>
    match (s.fmt.tiles.read t).binding with
    | some b => (s.comp.region b.layout b.region).rowTemplate b.row
    | none => none

/-- Does a tile's template hold a field of a kind? (R131). -/
def State.templateHolds (s : State) (t : TileNo) (k : FieldKind) : Bool :=
  match s.tileTemplate t with
  | some n => (s.fmt.templates.read n).holds k
  | none => false

/-- What a render start finds: the text, the bound source and the minutes shown (R137). -/
structure RowBuild where
  text    : List Byte
  bound   : Option BoundSource
  minutes : Option Nat
  deriving DecidableEq, Repr

/-- A row with nothing to show (R146). -/
def spaceRow (w : Nat) (bound : Option BoundSource) : RowBuild := { text := spaces w, bound := bound, minutes := none }

/-- The row of a template and a slot (R137, R143, R146). -/
def State.slotRow (s : State) (tpl : Template) (slot : Slot) (w : Nat) : RowBuild :=
  let show' := s.board.shows.read slot
  let title := match fin? 64 show'.title with
    | some i => s.board.titles.read i
    | none => { text := [], rating := none }
  { text := buildRow s.settings s.clock { show? := some (show', s.tally.tallies.read slot, title), notice := [] } tpl w,
    bound := some (.slot slot),
    minutes := if tpl.holds .minutes then minutesValue s.clock show' else none }

/-- The row of a slot that may be none under a template that may be none (R140). -/
def State.slotRow? (s : State) (tpl : Option (Fin 32)) (slot : Option Slot) (unbound : Option BoundSource) (w : Nat) :
    RowBuild :=
  match tpl, slot with
  | some n, some x => s.slotRow (s.fmt.templates.read n) x w
  | _, _ => spaceRow w unbound

/-- The row of a layout tile (R140). -/
def State.layoutRow (s : State) (b : Binding) : RowBuild :=
  let g := s.comp.region b.layout b.region
  let w := g.rowWidth
  let tpl := g.rowTemplate b.row
  match g.kind with
  | .listing =>
    let page := s.comp.pages.read (regionIndex b.layout b.region)
    s.slotRow? tpl ((s.board.eligible g)[page.index * g.height + b.row]?) none w
  | .card =>
    match g.cardSource with
    | some (.fixedSlot x) =>
      if (s.board.shows.read x).state = .vacant then spaceRow w (some (.slot x))
      else s.slotRow? tpl (some x) (some (.slot x)) w
    | some (.nextInAuditorium a) => s.slotRow? tpl (s.board.nextInAuditorium a) none w
    | none => spaceRow w none
  | .clock =>
    match tpl with
    | some n =>
      { text := buildRow s.settings s.clock { show? := none, notice := [] } (s.fmt.templates.read n) w,
        bound := none, minutes := none }
    | none => spaceRow w none
  | .program => spaceRow w none
  | .ticker => spaceRow w none
  | .fill => spaceRow w none

/-- A notice fitted as one field to 160 columns, or the space row of that width (R141). -/
def State.wideNoticeRow (s : State) (align : Alignment) : Option Notice → RowBuild
  | some n =>
    { text := fitText s.settings.ellipsis align 160 n.text, bound := some (.notice n.id), minutes := none }
  | none => spaceRow 160 none

/-- The notice that a ticker shows, where the queue holds it (R141). -/
def State.tickerNotice (s : State) (d : DisplayNo) : Option Notice :=
  match (s.comp.tickers.read d).current with
  | some id => liveNotice s.notice.queue id
  | none => none

/-- The row of a ticker region for a notice that may be none (R141). -/
def State.tickerRow (s : State) (g : Region) : Option Notice → RowBuild
  | some n =>
    match fin? 32 g.template with
    | some i =>
      { text := buildRow s.settings s.clock { show? := none, notice := n.text } (s.fmt.templates.read i) g.rowWidth,
        bound := some (.notice n.id), minutes := none }
    | none => spaceRow g.rowWidth none
  | none => spaceRow g.rowWidth none

/-- The row of the notice tile of a display (R141). -/
def State.noticeRow (s : State) (d : DisplayNo) : RowBuild :=
  let x := s.comp.displays.read d
  match x.mode with
  | .takeover => s.wideNoticeRow .centre (takeoverNotice s.notice.queue d)
  | .attract => s.wideNoticeRow .left (s.tickerNotice d)
  | .live =>
    match s.comp.tickerRegion x.layout with
    | some r => s.tickerRow (s.comp.region x.layout r) (s.tickerNotice d)
    | none => spaceRow 160 none
  | .dark => spaceRow 160 none

/-- What a render of a tile that starts now finds (R137). -/
def State.renderRow (s : State) (t : TileNo) : RowBuild :=
  match tileDisplay t with
  | some d => s.noticeRow d
  | none =>
    match (s.fmt.tiles.read t).binding with
    | some b => s.layoutRow b
    | none => spaceRow 0 none

/-! ### The render queue and the engine (R135, R137) -/

/-- A tile record replaced. -/
def State.setTile (s : State) (t : TileNo) (x : Tile) : State :=
  { s with fmt := { s.fmt with tiles := s.fmt.tiles.write t x } }

/-- The render start of a tile that leaves the queue's head (R137). -/
def State.beginRender (s : State) (t : TileNo) (rest : List TileNo) : State :=
  let row := s.renderRow t
  { s with fmt := { s.fmt with
      tiles := s.fmt.tiles.write t { s.fmt.tiles.read t with
        state := .rendering, stale := false, released := false, bound := row.bound, minutes := row.minutes }
      queue := rest
      engine := some { tile := t, text := row.text } } }

/-- A render starts where the engine is idle and the queue is not empty (R137). -/
def State.startRender (s : State) : State :=
  match s.fmt.engine, s.fmt.queue with
  | none, t :: rest => s.beginRender t rest
  | none, [] => s
  | some _, _ => s

/-- A tile joins the tail of the render queue and becomes QUEUED (R135). -/
def State.enqueue (s : State) (t : TileNo) : State :=
  { s with fmt := { s.fmt with
      tiles := s.fmt.tiles.write t { s.fmt.tiles.read t with state := .queued }
      queue := s.fmt.queue ++ [t] } }

/-- A DIRTY tile tries to join the render queue (R135). RENDER_BACKLOG is set at CLOSE DAY too: DEDUCED, against a sentence of
R50 (log 43). -/
def State.tryJoin (s : State) (t : TileNo) : State :=
  if s.fmt.queue.length < Config.renderSize then (s.enqueue t).startRender else s.setFlag .renderBacklog

/-- A tile becomes DIRTY and tries to join the render queue (R135). -/
def State.makeDirty (s : State) (t : TileNo) : State :=
  (s.setTile t { s.fmt.tiles.read t with state := .dirty }).tryJoin t

/-! ### Dirty marks (R131) -/

/-- A dirty mark at one tile (R131). -/
def State.markTile (s : State) (t : TileNo) : State :=
  match (s.fmt.tiles.read t).state with
  | .idle => s
  | .clean => s.makeDirty t
  | .dirty => s
  | .queued => s
  | .rendering => s.setTile t { s.fmt.tiles.read t with stale := true }

/-- The tiles of a condition marked, in ascending tile number (R131). -/
def State.markTiles (s : State) (p : TileNo → Bool) : State :=
  ((List.finRange 160).filter p).foldl State.markTile s

/-- A slot mark (R132). -/
def State.slotMark (s : State) (x : Slot) : State :=
  s.markTiles fun t => (s.fmt.tiles.read t).bound == some (.slot x)

/-- A seat mark (R132). -/
def State.seatMark (s : State) (x : Slot) : State :=
  s.markTiles fun t =>
    (s.fmt.tiles.read t).bound == some (.slot x) && (s.templateHolds t .seats || s.templateHolds t .bandword)

/-- Does a listing change reach a region's rows? LISTING, and CARD with NEXT-IN-AUDITORIUM (R132). -/
def Region.followsListing (g : Region) : Bool :=
  match g.kind with
  | .program => false
  | .listing => true
  | .card =>
    match g.cardSource with
    | some (.nextInAuditorium _) => true
    | some (.fixedSlot _) => false
    | none => false
  | .ticker => false
  | .clock => false
  | .fill => false

/-- The marks of a listing change (R132). -/
def State.listingMarks (s : State) : State :=
  s.markTiles fun t =>
    match (s.fmt.tiles.read t).binding with
    | some b => (s.comp.region b.layout b.region).followsListing
    | none => false

/-- Does the MINUTES value of a tile's bound slot at a minute differ from its minutes shown? (R133). -/
def State.minutesDiffer (s : State) (t : TileNo) (m : Nat) : Bool :=
  match (s.fmt.tiles.read t).bound with
  | some (.slot x) =>
    (s.board.shows.read x).state.upcoming &&
    (s.fmt.tiles.read t).minutes != some (minutesAt (s.board.shows.read x) m)
  | some (.notice _) => false
  | none => false

/-- The formatter's marks at a minute boundary at minute m (R133). -/
def State.minuteMarks (s : State) (m : Nat) : State :=
  s.markTiles fun t =>
    s.templateHolds t .clock || (s.templateHolds t .minutes && s.minutesDiffer t m)

/-- A clock text change (R133). -/
def State.clockTextChange (s : State) : State :=
  s.markTiles fun t => s.templateHolds t .clock || s.templateHolds t .minutes

/-- Every tile in use is marked: an accepted SETTINGS image, and a civil start changed (R133, R134). -/
def State.markAllInUse (s : State) : State := s.markTiles fun t => (s.fmt.tiles.read t).state != .idle

/-- The marks of an accepted TEMPLATE image (R134). -/
def State.templateMarks (s : State) (n : Fin 32) : State := s.markTiles fun t => s.tileTemplate t == some n

/-- The notice tiles of a set of displays are marked (R134). -/
def State.noticeTileMarks (s : State) (ds : DisplaySet) : State :=
  s.markTiles fun t =>
    match tileDisplay t with
    | some d => ds.getLsbD d.val
    | none => false

/-- A page change of a LISTING region (R134). -/
def State.pageChange (s : State) (l : LayoutNo) (r : RegionNo) : State :=
  s.markTiles fun t =>
    match (s.fmt.tiles.read t).binding with
    | some b => b.layout == l && b.region == r
    | none => false

/-- A ticker step of a display (R134). -/
def State.tickerStepMark (s : State) (d : DisplayNo) : State := s.markTile (noticeTile d)

/-- A display change of a display (R134). -/
def State.displayChangeMark (s : State) (d : DisplayNo) : State := s.markTile (noticeTile d)

/-! ### Bindings, releases, completions, commits (R129, R130, R136, R138, R139) -/

/-- A tile binding; a notice tile's carries no binding (R129). -/
def State.bindTile (s : State) (t : TileNo) (b : Option Binding) : State :=
  let x := { s.fmt.tiles.read t with binding := if b.isSome then b else (s.fmt.tiles.read t).binding }
  match x.state with
  | .idle => (s.setTile t x).makeDirty t
  | .clean => (s.setTile t x).makeDirty t
  | .dirty => s.setTile t x
  | .queued => s.setTile t x
  | .rendering => s.setTile t { x with stale := true, released := false }

/-- A tile release (R130). The pending text of a cleared ready flag is discarded. -/
def State.releaseTile (s : State) (t : TileNo) : State :=
  let x := { s.fmt.tiles.read t with ready := false, pendingText := [] }
  match x.state with
  | .idle => s.setTile t x
  | .dirty => s.setTile t { x with state := .idle }
  | .clean => s.setTile t { x with state := .idle }
  | .queued =>
    { s with fmt := { s.fmt with
        tiles := s.fmt.tiles.write t { x with state := .idle }
        queue := s.fmt.queue.filter fun u => u != t } }
  | .rendering => s.setTile t { x with released := true }

/-- The tiles in the order in which the sweep examines them (R136). -/
def sweepOrder (p : TileNo) : List TileNo := (List.range 160).map fun i => Fin.ofNat 160 (p.val + 1 + i)

/-- The first DIRTY tile of the sweep (R136). -/
def Formatter.sweepFinds (f : Formatter) : Option TileNo :=
  (sweepOrder f.sweep).find? fun t => (f.tiles.read t).state == .dirty

/-- The sweep (R136). -/
def State.runSweep (s : State) : State :=
  if s.fmt.queue.length < Config.renderSize then
    match s.fmt.sweepFinds with
    | some t => ({ s with fmt := { s.fmt with sweep := t } }).tryJoin t
    | none => s
  else s

/-- What a completion makes of the tile's record (R138, step 1). -/
def Tile.completed (x : Tile) (text : List Byte) : Tile :=
  if x.released then { x with state := .idle, stale := false, released := false }
  else if x.stale then { x with state := .dirty, stale := false }
  else { x with state := .clean, pendingText := text, ready := true }

/-- A render completion; with the engine idle none comes (R138; log 2). -/
def State.completeRender (s : State) : State :=
  match s.fmt.engine with
  | none => s
  | some r =>
    let x := s.fmt.tiles.read r.tile
    let s1 := { s with fmt := { s.fmt with tiles := s.fmt.tiles.write r.tile (x.completed r.text), engine := none } }
    let s2 := s1.startRender
    let s3 := if (x.completed r.text).state = .dirty then s2.tryJoin r.tile else s2
    s3.runSweep

/-- The commit of a tile (R139). -/
def Tile.commit (x : Tile) : Tile := if x.ready then { x with committed := x.pendingText, ready := false } else x

/-- The commit at an output frame start (R139). -/
def State.commitTiles (s : State) : State :=
  { s with fmt := { s.fmt with tiles := Table.tabulate fun t => (s.fmt.tiles.read t).commit } }

end Sys2Proof.Machine
end

