-- ==== Sys2Proof/Machine/Pages.lean ====
section
/-! DEFINITION. Listing pages and tickers, and the two events that reach them: the listing change and the notice change
(R158 to R160, R162 to R164). -/

namespace Sys2Proof.Machine

/-! ### Pages -/

/-- A page state replaced. -/
def State.setPage (s : State) (l : LayoutNo) (r : RegionNo) (p : PageState) : State :=
  { s with comp := { s.comp with pages := s.comp.pages.write (regionIndex l r) p } }

/-- The page state of a region. -/
def State.page (s : State) (l : LayoutNo) (r : RegionNo) : PageState := s.comp.pages.read (regionIndex l r)

/-- The page count that a region's eligible list gives now (R158). -/
def State.pageCountNow (s : State) (l : LayoutNo) (r : RegionNo) : Nat :=
  pageCountOf (s.board.eligible (s.comp.region l r)).length (s.comp.region l r).height

/-- A page state is started (R158). -/
def State.startPage (s : State) (l : LayoutNo) (r : RegionNo) : State :=
  s.setPage l r
    { active := true, index := 0, count := s.pageCountNow l r, countdown := (s.comp.region l r).effectivePeriod }

/-- The page index after a turn: from page count − 1 to 0 (R159). -/
def PageState.turned (p : PageState) : Nat := if p.index + 1 < p.count then p.index + 1 else 0

/-- The countdown has reached 0: the page turns, with a page change if the index changed (R159, steps 2 and 3). -/
def State.turnPage (s : State) (l : LayoutNo) (r : RegionNo) : State :=
  let p := s.page l r
  let s' := s.setPage l r { p with index := p.turned, countdown := (s.comp.region l r).effectivePeriod }
  if p.turned = p.index then s' else s'.pageChange l r

/-- Is a page state one that turns? Active, with an effective period that is not 0 (R159). -/
def State.pageTurns (s : State) (l : LayoutNo) (r : RegionNo) : Bool :=
  (s.page l r).active && (s.comp.region l r).effectivePeriod != 0

/-- A second tick at one page state (R159). -/
def State.tickPage (s : State) (l : LayoutNo) (r : RegionNo) : State :=
  if s.pageTurns l r then
    if (s.page l r).countdown ≤ 1 then s.turnPage l r
    else s.setPage l r { s.page l r with countdown := (s.page l r).countdown - 1 }
  else s

/-- A listing change at one page state (R160). -/
def State.recountPage (s : State) (l : LayoutNo) (r : RegionNo) : State :=
  let p := s.page l r
  let count := s.pageCountNow l r
  if p.active then
    if p.index < count then s.setPage l r { p with count := count }
    else
      (s.setPage l r { p with index := 0, count := count, countdown := (s.comp.region l r).effectivePeriod }).pageChange l r
  else s

/-- An action at every region, in ascending order of layout and region: DESIGN CHOICE wherever one event takes them all
(log 5). -/
def State.forRegions (f : State → LayoutNo → RegionNo → State) (s : State) : State :=
  (List.finRange 128).foldl (fun s i => f s (regionLayout i) (regionNumber i)) s

/-- A listing change: the compositor recounts, then the formatter marks (R76, R132, R160; log 5). The page states are
recounted in ascending order of layout and region: DESIGN CHOICE (log 5). -/
def State.listingChange (s : State) : State := (s.forRegions State.recountPage).listingMarks

/-! ### Tickers -/

/-- A ticker record replaced. -/
def State.setTicker (s : State) (d : DisplayNo) (t : Ticker) : State :=
  { s with comp := { s.comp with tickers := s.comp.tickers.write d t } }

/-- The first notice eligible for a display under a class set (R121, R162). -/
def State.firstEligible (s : State) (d : DisplayNo) (cs : ClassSet) : Option Byte :=
  ((eligibleNotices s.notice.queue d cs).head?).map fun n => n.id

/-- A ticker is started (R162). -/
def State.startTicker (s : State) (d : DisplayNo) (cs : ClassSet) : State :=
  (s.setTicker d { running := true, classes := cs, current := s.firstEligible d cs, countdown := s.settings.dwell }).tickerStepMark d

/-- The notices of a queue that stand after the one with an id. -/
def noticesAfter (q : List Notice) (id : Byte) : List Notice := (q.dropWhile fun n => n.id != id).drop 1

/-- The notice a ticker steps to: the first eligible one that stands after the current one, else the first (R163). -/
def State.nextTickerNotice (s : State) (d : DisplayNo) (cs : ClassSet) (current : Byte) : Option Byte :=
  match (eligibleNotices s.notice.queue d cs).find? fun n =>
      (noticesAfter s.notice.queue current).any fun m => m.id == n.id with
  | some n => some n.id
  | none => s.firstEligible d cs

/-- The dwell countdown has reached 0: the ticker steps, with a ticker step if its notice changed (R163, steps 2 and 3). -/
def State.stepTicker (s : State) (d : DisplayNo) : State :=
  let t := s.comp.tickers.read d
  match t.current with
  | some id =>
    let next := s.nextTickerNotice d t.classes id
    let s' := s.setTicker d { t with current := next, countdown := s.settings.dwell }
    if next = some id then s' else s'.tickerStepMark d
  | none => s

/-- Does a ticker count down? Running with a current notice (R163). -/
def State.tickerCounts (s : State) (d : DisplayNo) : Bool :=
  (s.comp.tickers.read d).running && (s.comp.tickers.read d).current.isSome

/-- A second tick at one ticker (R163). -/
def State.tickTicker (s : State) (d : DisplayNo) : State :=
  let t := s.comp.tickers.read d
  if s.tickerCounts d then
    if t.countdown ≤ 1 then s.stepTicker d else s.setTicker d { t with countdown := t.countdown - 1 }
  else s

/-- A notice change at one running ticker (R164). -/
def State.rejudgeTicker (s : State) (d : DisplayNo) : State :=
  let t := s.comp.tickers.read d
  let list := eligibleNotices s.notice.queue d t.classes
  if t.running then
    match t.current with
    | some id =>
      if list.any fun n => n.id == id then s
      else
        (s.setTicker d { t with
          current := (list.head?).map fun n => n.id
          countdown := if list.isEmpty then 0 else s.settings.dwell }).tickerStepMark d
    | none =>
      match list with
      | n :: _ => (s.setTicker d { t with current := some n.id, countdown := s.settings.dwell }).tickerStepMark d
      | [] => s
  else s

/-- An action at each display of a set, in ascending order: DESIGN CHOICE wherever one event takes them all (log 5). -/
def State.forDisplays (f : State → DisplayNo → State) (ds : DisplaySet) (s : State) : State :=
  ((List.finRange 12).filter fun d => ds.getLsbD d.val).foldl f s

/-- A notice change for the displays concerned: the formatter marks, then the compositor judges its tickers
(R119, R134, R164; log 5). The tickers are judged in ascending display order: DESIGN CHOICE (log 5). -/
def State.noticeChange (s : State) (ds : DisplaySet) : State :=
  (s.noticeTileMarks ds).forDisplays State.rejudgeTicker ds

/-- A second tick at the compositor: the pages, then the tickers, each in ascending order (R159, R163): DESIGN CHOICE
(log 5). -/
def State.tickCompositor (s : State) : State :=
  (s.forRegions State.tickPage).forDisplays State.tickTicker (BitVec.allOnes 12)

end Sys2Proof.Machine
end

