-- ==== Sys2Proof/Machine/Notices.lean ====
section
/-! DEFINITION. The notice unit's operations: placement, removal, ageing, chime lines (chapter 6). -/

namespace Sys2Proof.Machine

/-! ### The queue (R107, R111, R112) -/

/-- A notice joins at the end of its class (R107). -/
def joinClass (q : List Notice) (n : Notice) : List Notice :=
  (q.takeWhile fun m => decide (m.cls.code ≤ n.cls.code)) ++ [n] ++ q.dropWhile fun m => decide (m.cls.code ≤ n.cls.code)

/-- The queue after a replacement (R111). -/
def replaceNotice (q : List Notice) (old n : Notice) : List Notice :=
  if old.cls = n.cls then q.map fun m => if m.id = n.id then n else m
  else joinClass (q.filter fun m => m.id != n.id) n

/-- How a placement is handled (R111, R112). -/
inductive Placement where
  /-- the id is live -/
  | replace (old : Notice)
  /-- new, with room -/
  | join
  /-- new, with the queue full and a tail of a strictly lower class -/
  | evict (tail : Notice)
  /-- the placement fails -/
  | fail
  deriving DecidableEq, Repr

/-- The handling of a placed notice (R111, R112). -/
def placementOf (q : List Notice) (n : Notice) : Placement :=
  match liveNotice q n.id with
  | some old => .replace old
  | none =>
    if q.length < Config.noticeSize then .join
    else
      match q.getLast? with
      | some tail => if n.cls.code < tail.cls.code then .evict tail else .fail
      | none => .fail

/-- The notice queue replaced. -/
def State.setNotices (s : State) (q : List Notice) : State := { s with notice := { s.notice with queue := q } }

/-! ### Chime requests and wake requests (R114, R123, R125) -/

/-- The line that a class's chime requests go to (R125). -/
def NoticeClass.chimeLine : NoticeClass → Option (Fin 2)
  | .urgent => some 0
  | .show => some 1
  | .desk => some 1
  | .house => none

/-- A chime request reaches a line (R125). -/
def ChimeLine.request (l : ChimeLine) (strikes : Nat) : ChimeLine :=
  match l.mode with
  | .level => l
  | .tone => if l.requests.length < Config.chimeSize then { l with requests := l.requests ++ [strikes] } else l

/-- A chime line record replaced. -/
def State.setChime (s : State) (i : Fin 2) (l : ChimeLine) : State :=
  { s with notice := { s.notice with chimes := s.notice.chimes.write i l } }

/-- The chime request of a placed notice (R114, R125). -/
def State.chimeFor (s : State) (n : Notice) : State :=
  match n.cls.chimeLine with
  | some i => if 1 ≤ n.strikes then s.setChime i ((s.notice.chimes.read i).request n.strikes) else s
  | none => s

/-- The displays that a notice wakes: its targets whose dark-wake classes include its class (R114, R123). -/
def State.wakesOf (s : State) (n : Notice) : DisplaySet :=
  displaySet ((List.finRange 12).filter fun d => n.targets d && n.cls.isIn (s.comp.displays.read d).darkWake)

/-- The wake requests of a placed notice (R114, R123). -/
def State.wakeFor (s : State) (n : Notice) : State :=
  { s with notice := { s.notice with wake := s.notice.wake ||| s.wakesOf n } }

/-- The effects of a successful placement (R114). -/
def State.placed (s : State) (n : Notice) (changed : DisplaySet) : State :=
  ((s.chimeFor n).wakeFor n).noticeChange changed

/-- The tail leaves the queue at an eviction (R113). -/
def State.evictTail (s : State) (tail : Notice) : State :=
  ((s.setNotices s.notice.queue.dropLast).queueReport (.noticeEvicted tail.id tail.cls)).setFlag .noticeEvicted

/-- A notice is placed; none where the placement fails (R111 to R114). -/
def State.placeNotice (s : State) (n : Notice) : Option State :=
  match placementOf s.notice.queue n with
  | .replace old => some ((s.setNotices (replaceNotice s.notice.queue old n)).placed n (old.target ||| n.target))
  | .join => some ((s.setNotices (joinClass s.notice.queue n)).placed n n.target)
  | .evict tail =>
    let s1 := s.evictTail tail
    some ((s1.setNotices (joinClass s1.notice.queue n)).placed n (tail.target ||| n.target))
  | .fail => none

/-! ### Boarding notices (R72, R73, R115) -/

/-- The id of a slot's boarding notice (R72). -/
def boardingId (x : Slot) : Byte := BitVec.ofNat 8 (160 + x.val)

/-- The boarding notice of a slot (R72). -/
def State.boardingNotice (s : State) (x : Slot) : Notice :=
  let w := s.board.shows.read x
  let title := match fin? 64 w.title with
    | some i => (s.board.titles.read i).text
    | none => []
  { id := boardingId x, cls := .show, takeover := false, strikes := s.settings.boardingStrikes, lifetime := 0,
    target := BitVec.allOnes 12, linked := some x, text := boardingText w.auditorium title }

/-- A boarding notice request; one that cannot be placed is registered with the kind code of POST NOTICE, tag 0 and
QUEUE_FULL (R115). -/
def State.requestBoarding (s : State) (x : Slot) : State :=
  match s.placeNotice (s.boardingNotice x) with
  | some s' => s'
  | none => s.refuseKind .postNotice 0 .queueFull

/-! ### Leaving the queue (R116 to R118) -/

/-- The union of the targets of a list of notices. -/
def targetsOf (q : List Notice) : DisplaySet := q.foldl (fun w n => w ||| n.target) 0

/-- The notices of a condition leave the queue, with one notice change for the union of their targets where any leaves
(R116 to R119). -/
def State.removeNotices (s : State) (p : Notice → Bool) : State :=
  let gone := s.notice.queue.filter p
  if gone.isEmpty then s
  else (s.setNotices (s.notice.queue.filter fun n => !p n)).noticeChange (targetsOf gone)

/-- The board's withdrawal of a boarding notice (R73, R115). -/
def State.withdrawBoarding (s : State) (x : Slot) : State := s.removeNotices fun n => n.id == boardingId x

/-- Does a notice leave at an event of a slot? Its boarding notice where the slot leaves BOARDING (R73, R115), and every notice
linked to it where it retires or is cleared (R74, R118). -/
def Notice.leavesWith (x : Slot) (unboards gone : Bool) (n : Notice) : Bool :=
  (unboards && n.id == boardingId x) || (gone && n.linked == some x)

/-- The notices that CLOSE DAY removes: SHOW-class or linked (R118). -/
def Notice.endsWithDay (n : Notice) : Bool := n.cls == .show || n.linked.isSome

/-- Does a second tick end a notice's life? (R117). -/
def Notice.expires (n : Notice) : Bool := n.lifetime == 1

/-- A notice one second older (R117). -/
def Notice.aged (n : Notice) : Notice := { n with lifetime := n.lifetime - 1 }

/-- A second tick at the notice unit: notices age, and those whose lifetimes reach 0 leave together (R117). -/
def State.ageNotices (s : State) : State :=
  let gone := s.notice.queue.filter Notice.expires
  let s' := s.setNotices ((s.notice.queue.filter fun n => !n.expires).map Notice.aged)
  if gone.isEmpty then s' else s'.noticeChange (targetsOf gone)

/-! ### Chime lines (R124, R126) -/

/-- What a chime line's output carries (R124). -/
inductive ChimeOutput where
  | steady (level : Bool)
  | tone (pitch : Pitch)
  deriving DecidableEq, Repr

/-- The output of a chime line (R124). -/
def ChimeLine.drive (l : ChimeLine) : ChimeOutput :=
  match l.mode with
  | .level => .steady l.level
  | .tone =>
    match l.pattern with
    | some p =>
      match p.phase with
      | .tone => .tone l.pitch
      | .silence => .steady false
    | none => .steady false

/-- DRIVE CHIME LINE at a line (R124). -/
def ChimeLine.driveTo (l : ChimeLine) (mode : ChimeMode) (level : Bool) (pitch : Pitch) : ChimeLine :=
  match l.mode, mode with
  | .level, .level => { l with level := level }
  | .level, .tone => { l with mode := .tone, pitch := pitch, pattern := none, requests := [] }
  | .tone, .tone => { l with pitch := pitch }
  | .tone, .level => { l with mode := .level, level := level, pattern := none, requests := [] }

/-- What follows when the interval of a pattern ends: silence after tone, the next strike or the completion after silence
(R126, step 1). -/
def Pattern.expire (p : Pattern) : Option Pattern :=
  match p.phase with
  | .tone => some { p with phase := .silence, countdown := 2 }
  | .silence =>
    if 2 ≤ p.strikesLeft then some { strikesLeft := p.strikesLeft - 1, phase := .tone, countdown := 4 } else none

/-- A tenth tick at a playing pattern (R126, step 1). -/
def Pattern.tick (p : Pattern) : Option Pattern :=
  if p.countdown ≤ 1 then p.expire else some { p with countdown := p.countdown - 1 }

/-- Where no pattern plays, the head of the request queue starts its pattern (R126, step 2). -/
def ChimeLine.startNext (l : ChimeLine) : ChimeLine :=
  match l.pattern, l.requests with
  | none, n :: rest =>
    { l with pattern := some { strikesLeft := n, phase := .tone, countdown := 4 }, requests := rest }
  | none, [] => l
  | some _, _ => l

/-- A tenth tick at a line (R126). -/
def ChimeLine.tick (l : ChimeLine) : ChimeLine :=
  match l.mode with
  | .level => l
  | .tone => ({ l with pattern := l.pattern.bind Pattern.tick }).startNext

/-- The end of a pattern's interval at a line, and the next pattern's start after a completion (R126; log 8). -/
def ChimeLine.expire (l : ChimeLine) : ChimeLine :=
  match l.mode with
  | .level => l
  | .tone =>
    match l.pattern with
    | some p => ({ l with pattern := p.expire }).startNext
    | none => l

end Sys2Proof.Machine
end

