-- ==== Sys2Proof/Machine/Tally.lean ====
section
/-! DEFINITION. The tally unit's operations: the stages of a SALE, acknowledgements, the board's requests, the recomputation
(chapter 5). -/

namespace Sys2Proof.Machine

/-! ### The stages as functions of a tally record -/

/-- A sum kept within −limit to +limit (R86, R89). -/
def saturate (limit z : Int) : Int := if z < -limit then -limit else if limit < z then limit else z

/-- Does a sum lie outside −limit to +limit? (R86, R89). -/
def saturates (limit z : Int) : Bool := decide (z < -limit ∨ limit < z)

/-- The net stage (R86). -/
def Tally.addNet (t : Tally) (delta : Int) : Tally :=
  { t with net := saturate 9999 (t.net + delta), unbalanced := t.unbalanced || saturates 9999 (t.net + delta) }

/-- The amount that the reconcile stage absorbs: the smaller magnitude where clip and working delta have opposite signs
(R87). -/
def absorbed (clip w : Int) : Int :=
  if (clip < 0 ∧ 0 < w) ∨ (0 < clip ∧ w < 0) then min clip.natAbs w.natAbs else 0

/-- A number moved towards zero by an amount (R87). -/
def towardsZero (z amount : Int) : Int := if z < 0 then z + amount else z - amount

/-- The clip after the reconcile stage, which STRICT passes over (R87). -/
def Tally.reconciledClip (t : Tally) (w : Int) : Int :=
  match t.mode with
  | .strict => t.clip
  | .reconcile => towardsZero t.clip (absorbed t.clip w)

/-- The working delta after the reconcile stage (R87). -/
def Tally.reconciledDelta (t : Tally) (w : Int) : Int :=
  match t.mode with
  | .strict => w
  | .reconcile => towardsZero w (absorbed t.clip w)

/-- Remaining after the clamp stage, for a target (R88). -/
def clampRemaining (capacity : Nat) (target : Int) : Nat :=
  if target < 0 then 0 else if (capacity : Int) < target then capacity else target.toNat

/-- The excess of the clamp stage (R88). -/
def clampExcess (capacity : Nat) (target : Int) : Int :=
  if target < 0 then target else if (capacity : Int) < target then target - capacity else 0

/-- The outcome of the clamp stage (R88). -/
def clampOutcome (capacity : Nat) (target : Int) : SaleOutcome :=
  if target < 0 then .clampedLow else if (capacity : Int) < target then .clampedHigh else .applied

/-- The target of the clamp stage: remaining plus the working delta that reconcile leaves (R87, R88). -/
def Tally.target (t : Tally) (w : Int) : Int := t.remaining + t.reconciledDelta w

/-- The sum that the clip stage forms (R89). -/
def Tally.clipSum (t : Tally) (capacity : Nat) (w : Int) : Int :=
  t.reconciledClip w + clampExcess capacity (t.target w)

/-- Does the clip saturate? In RECONCILE alone (R89). -/
def Tally.clipSaturates (t : Tally) (capacity : Nat) (w : Int) : Bool :=
  match t.mode with
  | .strict => false
  | .reconcile => saturates 127 (t.clipSum capacity w)

/-- The reconcile, clamp and clip stages (R87 to R89). -/
def Tally.moveSeats (t : Tally) (capacity : Nat) (w : Int) : Tally :=
  { t with
    remaining := clampRemaining capacity (t.target w)
    clip := match t.mode with
      | .strict => 0
      | .reconcile => saturate 127 (t.clipSum capacity w)
    unbalanced := t.unbalanced || t.clipSaturates capacity w }

/-- The band stage, by its tests in order (R90). -/
def bandOf (st : Settings) (capacity remaining : Nat) : Band :=
  if remaining = 0 then .soldOut
  else if remaining ≤ st.fewSeats then .few
  else if capacity * st.fillingPercent ≤ (capacity - remaining) * 100 then .filling
  else .opened

/-- An opened tally (R96). -/
def Tally.open (st : Settings) (capacity : Nat) (mode : TallyMode) : Tally :=
  { remaining := capacity, clip := 0, net := 0, mode := mode, unbalanced := false, band := bandOf st capacity capacity,
    acked := bandOf st capacity capacity, departed := false, lastOutcome := none }

/-- A mode change (R99). -/
def Tally.changeMode (t : Tally) (capacity : Nat) (mode : TallyMode) : Tally :=
  { t with mode := mode, clip := 0, net := (t.remaining : Int) - capacity, unbalanced := false }

/-- An acknowledgement of a band (R95). -/
def Tally.acknowledge (t : Tally) (b : Band) : Tally := { t with acked := b, departed := decide (t.band ≠ b) }

/-! ### The stages on the state -/

/-- A tally record replaced. -/
def State.setTally (s : State) (x : Slot) (t : Tally) : State :=
  { s with tally := { s.tally with tallies := s.tally.tallies.write x t } }

/-- A tally record. -/
def State.tallyOf (s : State) (x : Slot) : Tally := s.tally.tallies.read x

/-- A show record. -/
def State.showOf (s : State) (x : Slot) : Show := s.board.shows.read x

/-- Is a slot occupied? (R58). -/
def State.occupied (s : State) (x : Slot) : Bool := (s.showOf x).state != .vacant

/-- A desk record replaced. -/
def State.setDesk (s : State) (k : Fin 16) (r : Desk) : State :=
  { s with tally := { s.tally with desks := s.tally.desks.write k r } }

/-- CLIP_LIMIT is set where a stage saturated (R86, R89). -/
def State.clipLimitIf (s : State) (saturated : Bool) : State := if saturated then s.setFlag .clipLimit else s

/-- The net stage (R86). -/
def State.netStage (s : State) (x : Slot) (delta : Int) : State :=
  (s.setTally x ((s.tallyOf x).addNet delta)).clipLimitIf (saturates 9999 ((s.tallyOf x).net + delta))

/-- The reconcile, clamp and clip stages with a capacity (R87 to R89). -/
def State.seatStages (s : State) (x : Slot) (capacity : Nat) (w : Int) : State :=
  (s.setTally x ((s.tallyOf x).moveSeats capacity w)).clipLimitIf ((s.tallyOf x).clipSaturates capacity w)

/-- The band stage with a capacity (R90). -/
def State.bandStage (s : State) (x : Slot) (capacity : Nat) : State :=
  s.setTally x { s.tallyOf x with band := bandOf s.settings capacity (s.tallyOf x).remaining }

/-- The departure stage, with its ALERT (R91, R92). -/
def State.departureStage (s : State) (x : Slot) : State :=
  let t := s.tallyOf x
  if t.band = t.acked then s.setTally x { t with departed := false }
  else if t.departed then s
  else
    ((s.setTally x { t with departed := true }).queueReport (.alert x t.acked t.band t.remaining)).setFlag .band

/-- A seat mark where remaining or the band differs from a former record (R93, R98). -/
def State.seatMarkIfMoved (s : State) (x : Slot) (before : Tally) : State :=
  if (s.tallyOf x).remaining = before.remaining ∧ (s.tallyOf x).band = before.band then s else s.seatMark x

/-! ### SALE -/

/-- The gate: the refusal it makes, if any (R85). -/
def State.saleGate (s : State) (x : Slot) : Option Reason :=
  if s.clock.state = .unset then some .dayClosed
  else if (s.showOf x).state = .vacant ∨ (s.showOf x).state = .retired then some .noShow
  else if (s.showOf x).salesClosed then some .salesClosed
  else none

/-- A repeat (R84). -/
def State.saleRepeat (s : State) (k : Fin 16) (x : Slot) : State :=
  let r := s.tally.desks.read k
  let s1 := s.setDesk k { r with repeats := min 255 (r.repeats + 1), lastOutcome := some .repeated }
  if s.occupied x then s1.setTally x { s.tallyOf x with lastOutcome := some .repeated } else s1

/-- The finish stage, less its seat mark (R93, steps 1 and 2). -/
def State.saleFinish (s : State) (k : Fin 16) (x : Slot) (o : SaleOutcome) : State :=
  (s.setTally x { s.tallyOf x with lastOutcome := some o }).setDesk k
    { s.tally.desks.read k with lastOutcome := some o, lastSlot := some x }

/-- Stages 4 to 10 of a SALE that has passed the gate (R86 to R93). -/
def State.saleApply (s : State) (k : Fin 16) (x : Slot) (delta : Int) : State :=
  let capacity := (s.showOf x).capacity
  let before := s.tallyOf x
  let outcome := clampOutcome capacity (before.target delta)
  (((((s.netStage x delta).seatStages x capacity delta).bandStage x capacity).departureStage x).saleFinish k x outcome).seatMarkIfMoved x before

/-- Stages 2 to 10 of a SALE (R83 to R93). -/
def State.takeSale (s : State) (tag : Byte) (k : Fin 16) (toggle : Bool) (x : Slot) (delta : Int) : State :=
  let r := s.tally.desks.read k
  if r.toggle = some toggle then s.saleRepeat k x
  else
    let s1 := s.setDesk k { r with toggle := some toggle }
    match s1.saleGate x with
    | some reason => s1.refuseKind .sale tag reason
    | none => s1.saleApply k x delta

/-! ### Acknowledgements, the board's requests, the recomputation -/

/-- ACKNOWLEDGE BAND (R95). -/
def State.acknowledge (s : State) (tag : Byte) (x : Slot) (b : Band) : State :=
  if s.occupied x then s.setTally x ((s.tallyOf x).acknowledge b) else s.refuseKind .acknowledgeBand tag .noShow

/-- The open tally request (R96). -/
def State.openTally (s : State) (x : Slot) (capacity : Nat) (mode : TallyMode) : State :=
  s.setTally x (Tally.open s.settings capacity mode)

/-- The zero tally request (R97). -/
def State.zeroTally (s : State) (x : Slot) : State := s.setTally x Tally.zeroed

/-- The capacity change request (R98). -/
def State.changeCapacity (s : State) (x : Slot) (old new : Nat) : State :=
  let before := s.tallyOf x
  (((s.seatStages x new ((new : Int) - old)).bandStage x new).departureStage x).seatMarkIfMoved x before

/-- A mode change (R99). -/
def State.changeMode (s : State) (x : Slot) (mode : TallyMode) : State :=
  s.setTally x ((s.tallyOf x).changeMode (s.showOf x).capacity mode)

/-- The recomputation at one slot (R102). -/
def State.recomputeBand (s : State) (x : Slot) : State :=
  if s.occupied x then
    let before := s.tallyOf x
    ((s.bandStage x (s.showOf x).capacity).departureStage x).seatMarkIfMoved x before
  else s

/-- The recomputation of every occupied slot's band, in ascending slot order (R102). -/
def State.recomputeBands (s : State) : State := (List.finRange 96).foldl State.recomputeBand s

/-- The sales of a show are open and it is LISTED or BOARDING (R100). -/
def State.modeOpen (s : State) (x : Slot) : Bool := (s.showOf x).state.upcoming && !(s.showOf x).salesClosed

/-- A TALLY image that has passed decoding: the refusal it meets, if any (R100). -/
def State.tallyWriteRefusal (s : State) (x : Slot) (img : Tally) : Option Reason :=
  if { img with mode := (s.tallyOf x).mode } ≠ s.tallyOf x then some .readOnly
  else if s.modeOpen x then none
  else some .showLive

end Sys2Proof.Machine
end

