-- ==== Sys2Proof/Machine/Board.lean ====
section
/-! DEFINITION. The show board's operations: thresholds, evaluation, the listing order, SHOW writes, clears (chapter 4, R55,
R56). -/

namespace Sys2Proof.Machine

/-! ### Thresholds and the next due minute (R55, R58) -/

/-- The boarding minute: start − boarding lead, taken as 0 if below 0 (R58). -/
def Show.boardingMinute (w : Show) : Nat := w.start - w.lead
/-- The close minute (R58). -/
def Show.closeMinute (w : Show) : Nat := w.start + w.closeOffset
/-- The retire minute (R58). -/
def Show.retireMinute (w : Show) : Nat := w.start + w.grace

/-- Occupied and not RETIRED. -/
def ShowState.unretired : ShowState → Bool
  | .vacant => false
  | .listed => true
  | .boarding => true
  | .started => true
  | .retired => false

/-- The pending thresholds of a show (R55). -/
def Show.thresholds (w : Show) : List Nat :=
  (if w.state = .listed then [w.boardingMinute] else []) ++
  (if w.state.upcoming then [w.start] else []) ++
  (if w.salesClosed then [] else [w.closeMinute]) ++
  (if w.state.unretired then [w.retireMinute] else [])

/-- The smallest pending threshold over the occupied, unretired slots, or none (R55). -/
def nextDueOf (shows : Table Show 96) : Option Nat :=
  ((List.finRange 96).flatMap fun x =>
    if (shows.read x).state.unretired then (shows.read x).thresholds else []).min?

/-- The next due minute is recomputed (R55). -/
def State.recomputeDue (s : State) : State :=
  { s with board := { s.board with nextDue := nextDueOf s.board.shows } }

/-! ### The listing order (R75) -/

/-- Does slot a sort before slot b? By start, then auditorium, then slot index (R75). -/
def sortsBefore (shows : Table Show 96) (a b : Slot) : Bool :=
  let wa := shows.read a
  let wb := shows.read b
  decide (wa.start < wb.start ∨ (wa.start = wb.start ∧
    (wa.auditorium < wb.auditorium ∨ (wa.auditorium = wb.auditorium ∧ a.val < b.val))))

/-- A slot is placed before the first entry that sorts after it (R75). -/
def placeIn (shows : Table Show 96) (order : List Slot) (x : Slot) : List Slot :=
  (order.takeWhile fun y => !sortsBefore shows x y) ++ [x] ++ order.dropWhile fun y => !sortsBefore shows x y

/-- The listing order replaced. -/
def State.setOrder (s : State) (o : List Slot) : State := { s with board := { s.board with order := o } }

/-- The slot is placed in the listing order (R75). -/
def State.placeSlot (s : State) (x : Slot) : State := s.setOrder (placeIn s.board.shows s.board.order x)

/-- The slot is removed from the listing order (R75). -/
def State.unplaceSlot (s : State) (x : Slot) : State := s.setOrder (s.board.order.filter fun y => y != x)

/-- A show record replaced. -/
def State.setShow (s : State) (x : Slot) (w : Show) : State :=
  { s with board := { s.board with shows := s.board.shows.write x w } }

/-! ### Evaluation (R68 to R70) -/

/-- The place of a state along LISTED, BOARDING, STARTED, RETIRED (R68). -/
def ShowState.rank : ShowState → Nat
  | .vacant => 0
  | .listed => 1
  | .boarding => 2
  | .started => 3
  | .retired => 4

/-- The furthest state whose condition holds at a minute, or none (R68). -/
def Show.furthest (w : Show) (m : Nat) : Option ShowState :=
  if w.retireMinute ≤ m then some .retired
  else if w.start ≤ m then some .started
  else if w.boardingMinute ≤ m then some .boarding
  else none

/-- The state after an evaluation at a minute: never further back than the present one (R68). -/
def Show.stateAt (w : Show) (m : Nat) : ShowState :=
  match w.furthest m with
  | some st => if w.state.rank < st.rank then st else w.state
  | none => w.state

/-- The effects of a change of state, in order (R68). The notices that leave at it leave together, with one notice change
(R119; log 30). -/
def State.stateEffects (s : State) (x : Slot) (old new : ShowState) : State :=
  let s1 := if new = .retired then s.unplaceSlot x else s
  let s2 := s1.removeNotices (Notice.leavesWith x (decide (old = .boarding)) (decide (new = .retired)))
  let s3 := if new = .boarding ∧ (s.showOf x).announce = true then s2.requestBoarding x else s2
  s3.listingChange.slotMark x

/-- The sales of a slot close: the flag, and the sales-closed request's seat mark (R70, R101). -/
def State.closeSales (s : State) (x : Slot) : State :=
  (s.setShow x { s.showOf x with salesClosed := true }).seatMark x

/-- The part of an evaluation that moves the state (R68). -/
def State.advanceShow (s : State) (x : Slot) (m : Nat) : State :=
  let w := s.showOf x
  if w.stateAt m ≠ w.state then
    (s.setShow x { w with state := w.stateAt m }).stateEffects x w.state (w.stateAt m)
  else s

/-- An occupied, unretired slot is evaluated at a minute (R68; log 33). -/
def State.evaluateSlot (s : State) (x : Slot) (m : Nat) : State :=
  let s1 := s.advanceShow x m
  if (s.showOf x).closeMinute ≤ m ∧ (s.showOf x).salesClosed = false then s1.closeSales x else s1

/-- A slot's turn in the evaluation at a minute boundary (R69). -/
def State.evaluateTurn (m : Nat) (s : State) (x : Slot) : State :=
  if (s.showOf x).state.unretired then s.evaluateSlot x m else s

/-- Every occupied, unretired slot is evaluated at a minute, in ascending slot order (R69). -/
def State.evaluateAll (s : State) (m : Nat) : State :=
  ((List.finRange 96).foldl (State.evaluateTurn m) s).recomputeDue

/-- The board at a minute boundary (R56). -/
def State.boardMinute (s : State) (m : Nat) (evaluating : Bool) : State :=
  match s.board.nextDue with
  | some due => if evaluating = true ∧ due ≤ m then s.evaluateAll m else s
  | none => s

/-- A minute boundary at minute m: the board, then the formatter (R42, R56, R133; log 5). The evaluating indication is
read at the raising. -/
def State.minuteBoundary (s : State) (m : Nat) : State := (s.boardMinute m s.clock.state.counts).minuteMarks m

/-! ### SHOW writes (R62 to R66) -/

/-- Do the intervals of two shows overlap? (R66). -/
def Show.overlaps (a b : Show) : Bool := decide (a.start < b.start + b.runtime ∧ b.start < a.start + a.runtime)

/-- The auditorium clash check (R66). -/
def State.clashes (s : State) (x : Slot) (img : Show) : Bool :=
  (List.finRange 96).any fun y =>
    y != x && (s.showOf y).state.unretired && (s.showOf y).auditorium == img.auditorium && img.overlaps (s.showOf y)

/-- The past check of an insert (R63). -/
def State.isPast (s : State) (img : Show) : Bool :=
  s.clock.state != .unset && decide (img.retireMinute ≤ s.clock.minute)

/-- May the fields of a live edit stand? Auditorium, start, runtime, lead, close offset, grace, capacity and the tally mode
must equal the record's (R65). -/
def State.liveEditOk (s : State) (x : Slot) (img : Show) (mode : TallyMode) : Bool :=
  let w := s.showOf x
  decide (img.auditorium = w.auditorium ∧ img.start = w.start ∧ img.runtime = w.runtime ∧ img.lead = w.lead ∧
    img.closeOffset = w.closeOffset ∧ img.grace = w.grace ∧ img.capacity = w.capacity ∧ mode = (s.tallyOf x).mode)

/-- The refusal that a SHOW image meets at the board, if any (R61, R63 to R65). -/
def State.showWriteRefusal (s : State) (x : Slot) : ShowWrite → Option Reason
  | .clear => none
  | .record img mode =>
    match (s.showOf x).state with
    | .vacant => if s.isPast img then some .showPast else if s.clashes x img then some .auditoriumClash else none
    | .listed => if s.clashes x img then some .auditoriumClash else none
    | .boarding => if s.liveEditOk x img mode then none else some .showLive
    | .started => if s.liveEditOk x img mode then none else some .showLive
    | .retired => some .showLive

/-- The clear of an occupied slot (R62). The boarding notice and the linked notices leave together, with one notice change
(R119; log 30). -/
def State.clearOccupied (s : State) (x : Slot) : State :=
  let s1 := s.removeNotices (Notice.leavesWith x (decide ((s.showOf x).state = .boarding)) true)
  let s2 := if s1.board.order.contains x then (s1.unplaceSlot x).listingChange else s1
  ((s2.zeroTally x).setShow x Show.vacant).slotMark x

/-- A slot clear (R62). -/
def State.clearSlot (s : State) (x : Slot) : State := if s.occupied x then s.clearOccupied x else s

/-- The evaluation at a write, while the clock counts (R63 to R65, R69). -/
def State.evaluateAtWrite (s : State) (x : Slot) : State :=
  if s.clock.state.counts then s.evaluateSlot x s.clock.minute else s

/-- Will the evaluation at a write move the slot's state? (R68, R69). -/
def State.writeMoves (s : State) (x : Slot) : Bool :=
  s.clock.state.counts && (s.showOf x).stateAt s.clock.minute != (s.showOf x).state

/-- The listing change that a write raises at its own step; where the evaluation of the same write moves the state, the
change raised there stands for both (R63 to R65, R76; log 20). -/
def State.writeListing (s : State) (x : Slot) (changed : Bool) : State :=
  if changed && !s.writeMoves x then s.listingChange else s

/-- An accepted insert (R63). -/
def State.insertShow (s : State) (x : Slot) (img : Show) (mode : TallyMode) : State :=
  let s1 := ((s.setShow x { img with state := .listed, salesClosed := false }).openTally x img.capacity mode).placeSlot x
  ((s1.writeListing x true).evaluateAtWrite x).slotMark x

/-- An accepted edit (R64). -/
def State.editShow (s : State) (x : Slot) (img : Show) (mode : TallyMode) : State :=
  let w := s.showOf x
  let s1 := s.setShow x { img with state := w.state, salesClosed := w.salesClosed }
  let s2 := if img.capacity ≠ w.capacity then s1.changeCapacity x w.capacity img.capacity else s1
  let s3 := if mode ≠ (s2.tallyOf x).mode then s2.changeMode x mode else s2
  let moved := decide (img.start ≠ w.start ∨ img.auditorium ≠ w.auditorium)
  let s4 := if moved then (s3.unplaceSlot x).placeSlot x else s3
  let s5 := s4.writeListing x (moved || decide (img.listingClass ≠ w.listingClass))
  (s5.evaluateAtWrite x).slotMark x

/-- An accepted live edit (R65). -/
def State.liveEditShow (s : State) (x : Slot) (img : Show) : State :=
  let w := s.showOf x
  let s1 := s.setShow x { w with
    title := img.title, badges := img.badges, listingClass := img.listingClass, announce := img.announce }
  let s2 := s1.writeListing x (decide (img.listingClass ≠ w.listingClass))
  let s3 := if w.state = .boarding ∧ img.announce ≠ w.announce then
      (if img.announce then s2.requestBoarding x else s2.withdrawBoarding x)
    else s2
  (s3.evaluateAtWrite x).slotMark x

/-- What the board does with a SHOW image that it accepts, by the slot's state (R61). -/
def State.disposeShow (s : State) (x : Slot) : ShowWrite → State
  | .clear => s.clearSlot x
  | .record img mode =>
    match (s.showOf x).state with
    | .vacant => s.insertShow x img mode
    | .listed => s.editShow x img mode
    | .boarding => s.liveEditShow x img
    | .started => s.liveEditShow x img
    | .retired => s

/-- An accepted SHOW image, with the next due minute recomputed (R61). -/
def State.takeShow (s : State) (x : Slot) (w : ShowWrite) : State := (s.disposeShow x w).recomputeDue

/-- An accepted TITLE image: a slot mark for every occupied slot that refers to it (R59, R77). The marks are raised in
ascending slot order: DESIGN CHOICE (log 5). -/
def State.takeTitle (s : State) (i : Fin 64) (t : Title) : State :=
  let s1 := { s with board := { s.board with titles := s.board.titles.write i t } }
  ((List.finRange 96).filter fun x => s1.occupied x && (s1.showOf x).title == i.val).foldl State.slotMark s1

end Sys2Proof.Machine
end

