-- ==== Sys2Proof/Machine/Clock.lean ====
section
/-! DEFINITION. The lobby clock's operations: counting, time marks, the day, the second divider (chapter 3). -/

namespace Sys2Proof.Machine

/-- The clock record replaced. -/
def State.setClock (s : State) (c : Clock) : State := { s with clock := c }

/-! ### Counting (R43 to R45) -/

/-- CLOCK_LOST, with the clock text change: the clock enters LOST (R44 step 4, R45). -/
def State.loseClock (s : State) : State :=
  ((s.setClock { s.clock with state := .lost }).setFlag .clockLost).clockTextChange

/-- R44, step 3. -/
def State.holdoverStep (s : State) : State :=
  if s.clock.state = .running ∧ 10 ≤ s.clock.sinceMark then
    (s.setClock { s.clock with state := .holdover }).setFlag .clockHoldover
  else s

/-- R44, step 4. -/
def State.lostStep (s : State) : State :=
  if s.clock.state = .holdover ∧ 60 ≤ s.clock.sinceMark then s.loseClock else s

/-- The business minute advances by counting: second 0, the minute boundary, the count, the states (R43, R44). -/
def State.advanceMinute (s : State) : State :=
  let s1 := (s.setClock { s.clock with minute := s.clock.minute + 1, second := 0 }).minuteBoundary (s.clock.minute + 1)
  ((s1.setClock { s1.clock with sinceMark := s1.clock.sinceMark + 1 }).holdoverStep).lostStep

/-- Is the time 2879:59? (R43). -/
def Clock.atEnd (c : Clock) : Bool := c.minute == Config.lastMinute && c.second == 59

/-- A second tick at the lobby clock (R43). -/
def State.tickClock (s : State) : State :=
  if s.clock.state.counts then
    if s.clock.atEnd then s.loseClock
    else if s.clock.second = 59 then s.advanceMinute
    else s.setClock { s.clock with second := s.clock.second + 1 }
  else s

/-- Can the business minute advance by counting? (R43; log 8). -/
def Clock.canAdvance (c : Clock) : Bool := c.state.counts && decide (c.minute < Config.lastMinute)

/-! ### Ticks (R41) -/

/-- A second tick at one receiver (R41). -/
def State.tickReceiver (s : State) : TickReceiver → State
  | .clock => s.tickClock
  | .notices => s.ageNotices
  | .compositor => s.tickCompositor

/-- The divider reaches zero: it is reloaded, and every tenth tenth tick is also a second tick (R41; log 7). -/
def Divider.tenth (v : Divider) : Divider :=
  { periods := Config.prescale, tenths := if 9 ≤ v.tenths then 0 else v.tenths + 1,
    secondDue := v.secondDue || decide (9 ≤ v.tenths) }

/-- A tenth tick at the chime lines (R41, R126). -/
def State.tickChimes (s : State) : State :=
  { s with notice := { s.notice with chimes := Table.tabulate fun i => (s.notice.chimes.read i).tick } }

/-! ### Time marks and the day (R47, R49, R50) -/

/-- A time mark that is taken (R47). -/
def State.takeMark (s : State) (minute second : Nat) : State :=
  let old := s.clock
  let s1 := s.setClock { old with state := .running, minute := minute, second := second, sinceMark := 0 }
  let s2 := if old.state = .lost then s1.clockTextChange else s1
  if minute ≠ old.minute ∨ old.state = .lost then s2.minuteBoundary minute else s2

/-- OPEN DAY that is taken (R49). -/
def State.takeOpen (s : State) (civilStart dayNumber : Nat) : State :=
  let s1 := s.setClock
    { state := .running, minute := 0, second := 0, civilStart := civilStart, dayNumber := dayNumber, sinceMark := 0 }
  ((s1.clockTextChange).minuteBoundary 0).markAllInUse

/-- The show board at CLOSE DAY: every occupied slot is cleared, in ascending slot order, and the next due minute is none
(R50, R62). -/
def State.closeBoard (s : State) : State :=
  let s1 := (List.finRange 96).foldl State.clearSlot s
  { s1 with board := { s1.board with nextDue := none } }

/-- The tally unit at CLOSE DAY: the last toggle of every desk returns to UNKNOWN (R50, R81). -/
def State.closeDesks (s : State) : State :=
  { s with tally := { s.tally with desks := Table.tabulate fun k => { s.tally.desks.read k with toggle := none } } }

/-- The lobby clock at CLOSE DAY (R50). -/
def State.closeClock (s : State) : State :=
  (s.setClock { s.clock with state := .unset, minute := 0, second := 0, sinceMark := 0 }).clockTextChange

/-- CLOSE DAY that is taken (R50). The notice unit acts first, so its one notice change covers the notices that the slot
clears name as well (R118, R119; log 5). Its dirty marks may set RENDER_BACKLOG: DEDUCED (log 43). -/
def State.takeClose (s : State) : State :=
  (((s.removeNotices Notice.endsWithDay).closeBoard).closeDesks).closeClock

end Sys2Proof.Machine
end

