-- ==== Sys2Proof/Machine/Entries.lean ====
section
/-! DEFINITION. The tables at the cursor: entry images read, WRITE ENTRY and READ ENTRIES (R18, R22 to R25, R54, R100, R142). -/

namespace Sys2Proof.Machine

/-! ### Reading (R25, R184) -/

/-- The notice at a position of the queue with its arrival number (R107, R120). -/
def noticeAt (q : List Notice) (i : Nat) : Option (Notice × Nat) :=
  (q[i]?).map fun n => (n, ((q.take i).filter fun m => m.cls == n.cls).length)

/-- An image of an entry that an index reaches. -/
def imageAt {n : Nat} (i : Nat) (f : Fin n → List Byte) : List Byte :=
  match fin? n i with
  | some k => f k
  | none => []

/-- The entry image of an entry as it stands (R25, R184). -/
def State.entryImage (s : State) (t : TableName) (i : Nat) : List Byte :=
  match t with
  | .settings => settingsImage s.settings s.clock
  | .show => imageAt i fun x : Slot => showImage (s.board.shows.read x) (s.tally.tallies.read x).mode
  | .tally => imageAt i fun x : Slot => tallyImage (s.tally.tallies.read x)
  | .title => imageAt i fun k : Fin 64 => titleImage k (s.board.titles.read k)
  | .template => imageAt i fun k : Fin 32 => templateImage (s.fmt.templates.read k)
  | .layout => imageAt i fun l : LayoutNo => layoutImage (s.comp.layouts.read l)
  | .region => imageAt i fun k : Fin 128 => regionImage (s.comp.regions.read k)
  | .palette => imageAt i fun k : Fin 16 => paletteImage (s.comp.palette.read k)
  | .glyph => imageAt i fun k : Fin 256 => glyphImage (s.comp.glyphs.read k)
  | .desk => imageAt i fun k : Fin 16 => deskImage (s.tally.desks.read k)
  | .notice => noticeImage (noticeAt s.notice.queue i)
  | .display => imageAt i fun d : DisplayNo => displayImage (s.comp.displays.read d) (s.notice.wake.getLsbD d.val)
  | .tile => imageAt i fun k : TileNo => tileImage k (s.fmt.tiles.read k)

/-- One turn of READ ENTRIES with an entry under the cursor and room for its report (R25, steps 3 and 4). -/
def State.reportEntry (s : State) (i : Nat) : State :=
  (s.queueReport (.entryData s.dir.cursor.table i (s.entryImage s.dir.cursor.table i))).advanceCursor

/-- The turns of READ ENTRIES (R25). -/
def State.readTurns : Nat → State → State
  | 0, s => s
  | n + 1, s =>
    match s.dir.cursor.index with
    | none => s
    | some i =>
      if s.rep.queue.length < Config.reportSize then State.readTurns n (s.reportEntry i) else s.setFlag .reportFull

/-- READ ENTRIES with its payload (R25; log 24). -/
def State.readEntries (s : State) (tag : Byte) : List Byte → State
  | [count] =>
    if count.toNat = 0 ∨ 8 < count.toNat then s.refuseKind .readEntries tag .badField
    else
      match s.dir.cursor.index with
      | none => s.refuseKind .readEntries tag .cursorEnd
      | some _ => s.readTurns count.toNat
  | _ => s.refuseKind .readEntries tag .badLength

/-! ### Writing (R18, R23, R24) -/

/-- A table that the cursor reads only (R18, R22). -/
def TableName.readOnly : TableName → Bool
  | .desk => true
  | .notice => true
  | .display => true
  | .tile => true
  | .settings => false
  | .show => false
  | .tally => false
  | .title => false
  | .template => false
  | .layout => false
  | .region => false
  | .palette => false
  | .glyph => false

/-- An accepted SETTINGS image: the fields, the recomputation of the bands, the marks of every tile in use (R54, R102,
R134; log 34). -/
def State.takeSettings (s : State) (st : Settings) : State := (({ s with settings := st }).recomputeBands).markAllInUse

/-- A WRITE ENTRY at SETTINGS (R23, R54). -/
def State.writeSettings (s : State) (tag : Byte) (img : List Byte) : State :=
  match settingsOfImage img with
  | some (st, civil, day) =>
    if civil = s.clock.civilStart ∧ day = s.clock.dayNumber then (s.takeSettings st).advanceCursor
    else s.refuseKind .writeEntry tag .readOnly
  | none => s.refuseKind .writeEntry tag .badField

/-- A WRITE ENTRY at SHOW (R61). -/
def State.writeShow (s : State) (tag : Byte) (x : Slot) (img : List Byte) : State :=
  match showOfImage img with
  | some w =>
    match s.showWriteRefusal x w with
    | some reason => s.refuseKind .writeEntry tag reason
    | none => (s.takeShow x w).advanceCursor
  | none => s.refuseKind .writeEntry tag .badField

/-- A WRITE ENTRY at TALLY (R100; log 14). -/
def State.writeTally (s : State) (tag : Byte) (x : Slot) (img : List Byte) : State :=
  match tallyOfImage (s.showOf x).capacity img with
  | some t =>
    match s.tallyWriteRefusal x t with
    | some reason => s.refuseKind .writeEntry tag reason
    | none => (s.changeMode x t.mode).advanceCursor
  | none => s.refuseKind .writeEntry tag .badField

/-- A WRITE ENTRY at TITLE (R59). -/
def State.writeTitle (s : State) (tag : Byte) (i : Fin 64) (img : List Byte) : State :=
  match titleOfImage img with
  | some t => (s.takeTitle i t).advanceCursor
  | none => s.refuseKind .writeEntry tag .badField

/-- An accepted TEMPLATE image: the template, then the marks of the tiles in use that have it (R142). -/
def State.takeTemplate (s : State) (i : Fin 32) (t : Template) : State :=
  ({ s with fmt := { s.fmt with templates := s.fmt.templates.write i t } }).templateMarks i

/-- A WRITE ENTRY at TEMPLATE (R142). -/
def State.writeTemplate (s : State) (tag : Byte) (i : Fin 32) (img : List Byte) : State :=
  match templateOfImage img with
  | some t => (s.takeTemplate i t).advanceCursor
  | none => s.refuseKind .writeEntry tag .badField

/-- A frame-aligned WRITE ENTRY whose image may break a range (R24). -/
def State.writeStaged (s : State) (tag : Byte) : Option StagedBody → State
  | some b => s.stageWrite tag b
  | none => s.refuseKind .writeEntry tag .badField

/-- An action at the entry that an index reaches. The cursor's index always reaches one. -/
def State.atEntry {n : Nat} (s : State) (i : Nat) (f : Fin n → State) : State :=
  match fin? n i with
  | some k => f k
  | none => s

/-- The fields and the disposal of a WRITE ENTRY at a writable entry, with an image of the right length (R18 steps 5 and 6,
R23, R24). -/
def State.writeAt (s : State) (tag : Byte) (t : TableName) (i : Nat) (img : List Byte) : State :=
  match t with
  | .settings => s.writeSettings tag img
  | .show => s.atEntry i fun x : Slot => s.writeShow tag x img
  | .tally => s.atEntry i fun x : Slot => s.writeTally tag x img
  | .title => s.atEntry i fun k : Fin 64 => s.writeTitle tag k img
  | .template => s.atEntry i fun k : Fin 32 => s.writeTemplate tag k img
  | .layout => s.atEntry i fun l : LayoutNo => s.writeStaged tag ((layoutOfImage img).map (StagedBody.writeLayout l))
  | .region => s.atEntry i fun k : Fin 128 => s.writeStaged tag ((regionOfImage img).map (StagedBody.writeRegion k))
  | .palette => s.atEntry i fun k : Fin 16 => s.writeStaged tag (some (.writePalette k (paletteOfImage img)))
  | .glyph => s.atEntry i fun k : Fin 256 => s.writeStaged tag (some (.writeGlyph k (glyphOfImage img)))
  | .desk => s
  | .notice => s
  | .display => s
  | .tile => s

/-- WRITE ENTRY (R18, R22 to R24). -/
def State.writeEntry (s : State) (tag : Byte) (img : List Byte) : State :=
  match s.dir.cursor.index with
  | none => s.refuseKind .writeEntry tag .cursorEnd
  | some i =>
    if s.dir.cursor.table.readOnly then s.refuseKind .writeEntry tag .readOnly
    else if img.length = s.dir.cursor.table.imageLength then s.writeAt tag s.dir.cursor.table i img
    else s.refuseKind .writeEntry tag .badLength

end Sys2Proof.Machine
end

