-- ==== Sys2Proof/Machine/Resets.lean ====
section
/-! DEFINITION. RESTART and power-on reset, block by block (R16, R38, R39, R57, R79, R105, R127, R148, R165, R179). -/

namespace Sys2Proof.Machine

/-- The feed receiver at RESTART: its counts alone (R16). -/
def FeedReceiver.restart (f : FeedReceiver) : FeedReceiver := { f with malformedCount := 0, checkFailCount := 0 }

/-- The report side at RESTART, before RESTARTED is set (R38): the mask, the lane and the upstream ready stay. -/
def ReportUnit.restart (r : ReportUnit) : ReportUnit :=
  { r with flags := 0, queue := [], owed := false, chain := [], lastWinner := .chainSide }

/-- The show board at RESTART: the titles stay (R79). -/
def Board.restart (b : Board) : Board :=
  { shows := Table.fill 96 Show.vacant, titles := b.titles, order := [], nextDue := none }

/-- The tile formatter at RESTART: the templates stay (R148). -/
def Formatter.restart (f : Formatter) : Formatter :=
  { tiles := Table.fill 160 Tile.reset, templates := f.templates, queue := [], engine := none, sweep := 0 }

/-- A port at RESTART: it goes on sending where its panel is sensed (R177; log 32). -/
def Port.restart (p : Port) (sensed : Bool) : Port := { p with sending := p.sending && sensed }

/-- The compositor at RESTART: layouts, regions, palette, glyphs and the latched colours stay (R165, R179). -/
def Compositor.restart (c : Compositor) (sense : BitVec 12) : Compositor :=
  { layouts := c.layouts, regions := c.regions, inUse := Table.fill 16 0, pages := Table.fill 128 PageState.inactive,
    tickers := Table.fill 12 Ticker.stopped, displays := displaysReset sense, palette := c.palette, glyphs := c.glyphs,
    latched := c.latched, tileNeeded := 0,
    ports := Table.tabulate fun d => (c.ports.read d).restart (sense.getLsbD d.val) }

/-- Every block's runtime state at RESTART, before RESTARTED is set (R38). The divider and the SETTINGS entry stay. -/
def State.restartBlocks (s : State) : State :=
  { feed := s.feed.restart, dir := DirectiveUnit.reset, rep := s.rep.restart, clock := Clock.reset, divider := s.divider,
    settings := s.settings, board := s.board.restart, tally := TallyUnit.reset, notice := NoticeUnit.reset,
    fmt := s.fmt.restart, comp := s.comp.restart s.sense, sense := s.sense, pending := s.pending }

/-- RESTART: the blocks, then RESTARTED, whose STATUS report is queued if the mask enables it (R38). -/
def State.restart (s : State) : State := s.restartBlocks.setFlag .restarted

/-- Power-on reset and its release: every block, the straps and senses sampled; the upstream ready is a pin and stays, and
the STATUS report is granted if it is given (R39; log 28). -/
def State.powerOnReset (s : State) (straps : Fin 8) (sense : BitVec 12) : State :=
  let p := State.powerOn straps sense
  ({ p with rep := { p.rep with upstreamReady := s.rep.upstreamReady }, pending := s.pending }).tryGrant

end Sys2Proof.Machine
end

