-- ==== Sys2Proof/Machine/Directives.lean ====
section
/-! DEFINITION. The directives: decoding of payloads and disposal (R17 to R22, R181 and the owners' chapters). Each handler
takes a state whose span prefix is already consumed, and the prefix that was held where the directive is display-addressed. -/

namespace Sys2Proof.Machine

/-- MARK TIME (R47). -/
def State.markTime (s : State) (tag : Byte) : List Byte → State
  | [m1, m0, second] =>
    if half m1 m0 ≤ Config.lastMinute ∧ second.toNat ≤ 59 then
      if s.clock.state = .unset then s.refuseKind .markTime tag .dayClosed
      else s.takeMark (half m1 m0) second.toNat
    else s.refuseKind .markTime tag .badField
  | _ => s.refuseKind .markTime tag .badLength

/-- OPEN DAY (R49). -/
def State.openDay (s : State) (tag : Byte) : List Byte → State
  | [c1, c0, d1, d0] =>
    if half c1 c0 ≤ 1439 then
      if s.clock.state = .unset then s.takeOpen (half c1 c0) (half d1 d0) else s.refuseKind .openDay tag .dayOpen
    else s.refuseKind .openDay tag .badField
  | _ => s.refuseKind .openDay tag .badLength

/-- CLOSE DAY (R50). -/
def State.closeDay (s : State) (tag : Byte) : List Byte → State
  | [] => if s.clock.state = .unset then s.refuseKind .closeDay tag .dayClosed else s.takeClose
  | _ :: _ => s.refuseKind .closeDay tag .badLength

/-- SALE: its range stage, then the stages of the tally unit (R83). -/
def State.sale (s : State) (tag : Byte) : List Byte → State
  | [desk, toggle, slot, delta] =>
    match fin? 16 desk.toNat, fin? 2 toggle.toNat, fin? 96 slot.toNat with
    | some k, some g, some x => s.takeSale tag k (g == 1) x delta.toInt
    | _, _, _ => s.refuseKind .sale tag .badField
  | _ => s.refuseKind .sale tag .badLength

/-- ACKNOWLEDGE BAND (R95). -/
def State.acknowledgeBand (s : State) (tag : Byte) : List Byte → State
  | [slot, band] =>
    match fin? 96 slot.toNat, Band.ofCode band.toNat with
    | some x, some b => s.acknowledge tag x b
    | _, _ => s.refuseKind .acknowledgeBand tag .badField
  | _ => s.refuseKind .acknowledgeBand tag .badLength

/-! ### POST NOTICE (R108 to R110, R181) -/

/-- Does a POST NOTICE payload pass the length test? It rests on the fragment index (R181). -/
def postLengthOk (p : List Byte) : Bool :=
  match p with
  | [] => false
  | index :: _ =>
    if index.toNat = 0 then p.length == 40
    else if index.toNat ≤ 2 then p.length == 26
    else p.length == 40 || p.length == 26

/-- A linked slot from its byte; none is a BAD_FIELD (R108, R180). -/
def linkedSlot? (b : Byte) : Option (Option Slot) := optionalSlot b

/-- The codes of a fragment under a declared length: those positions that the text reaches (R108). -/
def fragmentCodes (positions : List Byte) (before declared : Nat) : List Byte := positions.take (declared - before)

/-- The partial post that a fragment 0 opens; none is a BAD_FIELD (R108, R109, R181). -/
def fragmentZero (held : Option (Fin 12)) (tag : Byte) (p : List Byte) : Option PartialPost := do
  let at' := imageByte p
  let packed := (at' 2).toNat
  let cls ← NoticeClass.ofCode (packed % 8)
  let range ← rangeField held (at' 5)
  let linked ← linkedSlot? (at' 6)
  let declared := (at' 7).toNat
  let text := fragmentCodes (p.drop 8) 0 declared
  if packed < 128 ∧ packed / 16 ≤ 3 ∧ half (at' 3) (at' 4) ≤ 3600 ∧ (1 ≤ declared ∧ declared ≤ 80) ∧ (0 : Byte) ∉ text then
    some
      { notice :=
          { id := at' 1, cls := cls, takeover := decide (packed / 8 % 2 = 1 ∧ cls = .urgent), strikes := packed / 16,
            lifetime := half (at' 3) (at' 4), target := displaySet range, linked := linked, text := text },
        declared := declared, expected := 1, tag := tag }
  else none

/-- The post buffer replaced. -/
def State.setPost (s : State) (p : Option PartialPost) : State := { s with notice := { s.notice with post := p } }

/-- A completed desk post is placed, or the completing fragment is refused QUEUE_FULL (R109, R110, R112). -/
def State.placePost (s : State) (tag : Byte) (n : Notice) : State :=
  match s.placeNotice n with
  | some s' => s'
  | none => s.refuseKind .postNotice tag .queueFull

/-- A fragment 0 that has passed decoding (R109). -/
def State.takeFragmentZero (s : State) (tag : Byte) (p : PartialPost) : State :=
  if 160 ≤ p.notice.id.toNat then s.refuseKind .postNotice tag .reservedId
  else if p.declared ≤ 32 then (s.setPost none).placePost tag p.notice
  else s.setPost (some p)

/-- The codes of text before a fragment 1 or 2 (R108). -/
def codesBefore (index : Nat) : Nat := if index ≤ 1 then 32 else 56

/-- A fragment 1 or 2 that has passed decoding (R110). -/
def State.takeFragmentMore (s : State) (tag : Byte) (index : Nat) (id : Byte) (positions : List Byte) : State :=
  match s.notice.post with
  | none => s.refuseKind .postNotice tag .badField
  | some p =>
    let more := fragmentCodes positions (codesBefore index) p.declared
    let text := p.notice.text ++ more
    if id ≠ p.notice.id ∨ index ≠ p.expected ∨ (0 : Byte) ∈ more then
      (s.setPost none).refuseKind .postNotice tag .badField
    else if text.length = p.declared then (s.setPost none).placePost tag { p.notice with text := text }
    else s.setPost (some { p with notice := { p.notice with text := text }, expected := 2 })

/-- POST NOTICE (R108). -/
def State.postNotice (s : State) (held : Option (Fin 12)) (tag : Byte) (p : List Byte) : State :=
  if postLengthOk p then
    let index := (imageByte p 0).toNat
    if index = 0 then
      match fragmentZero held tag p with
      | some post => s.takeFragmentZero tag post
      | none => s.refuseKind .postNotice tag .badField
    else if index ≤ 2 then s.takeFragmentMore tag index (imageByte p 1) (p.drop 2)
    else s.refuseKind .postNotice tag .badField
  else s.refuseKind .postNotice tag .badLength

/-- WITHDRAW NOTICE (R116). -/
def State.withdrawNotice (s : State) (tag : Byte) : List Byte → State
  | [id] =>
    if (liveNotice s.notice.queue id).isSome then s.removeNotices fun n => n.id == id
    else s.refuseKind .withdrawNotice tag .notFound
  | _ => s.refuseKind .withdrawNotice tag .badLength

/-- DRIVE CHIME LINE (R124). -/
def State.driveChimeLine (s : State) (tag : Byte) : List Byte → State
  | [line, mode, level, pitch] =>
    match fin? 2 line.toNat, ChimeMode.ofCode mode.toNat, fin? 2 level.toNat, Pitch.ofCode pitch.toNat with
    | some i, some m, some v, some h => s.setChime i ((s.notice.chimes.read i).driveTo m (v == 1) h)
    | _, _, _, _ => s.refuseKind .driveChimeLine tag .badField
  | _ => s.refuseKind .driveChimeLine tag .badLength

/-! ### The directive unit's own directives (R20, R22, R31, R32, R38) -/

/-- SET CURSOR (R22). -/
def State.setCursor (s : State) (tag : Byte) : List Byte → State
  | [code, index] =>
    match TableName.ofCode code.toNat with
    | some t =>
      if index.toNat < t.entries then
        { s with dir := { s.dir with cursor := { table := t, index := some index.toNat } } }
      else s.refuseKind .setCursor tag .badField
    | none => s.refuseKind .setCursor tag .badField
  | _ => s.refuseKind .setCursor tag .badLength

/-- REQUEST STATUS (R32). -/
def State.requestStatus (s : State) (tag : Byte) : List Byte → State
  | [] => s.queueStatus
  | _ :: _ => s.refuseKind .requestStatus tag .badLength

/-- SET ATTENTION MASK (R31, R181). -/
def State.setAttentionMask (s : State) (tag : Byte) : List Byte → State
  | [m1, m0] =>
    if half m1 m0 < 16384 then s.setMask (BitVec.ofNat 14 (half m1 m0))
    else s.refuseKind .setAttentionMask tag .badField
  | _ => s.refuseKind .setAttentionMask tag .badLength

/-- RESTART (R38). -/
def State.takeRestart (s : State) (tag : Byte) : List Byte → State
  | [] => s.restart
  | _ :: _ => s.refuseKind .restart tag .badLength

/-- SPAN (R20). -/
def State.takeSpan (s : State) (tag : Byte) : List Byte → State
  | [span] =>
    match fin? 12 span.toNat with
    | some n => { s with dir := { s.dir with span := some n } }
    | none => s.refuseKind .span tag .badField
  | _ => s.refuseKind .span tag .badLength

/-! ### The staged display directives (R168) -/

/-- SET DISPLAY MODE (R168). -/
def State.setDisplayMode (s : State) (held : Option (Fin 12)) (tag : Byte) : List Byte → State
  | [range, mode] =>
    match rangeField held range, DisplayMode.ofDirectiveCode mode.toNat with
    | some ds, some m => s.stage .setDisplayMode tag (.displayMode ds m)
    | _, _ => s.refuseKind .setDisplayMode tag .badField
  | _ => s.refuseKind .setDisplayMode tag .badLength

/-- SELECT LAYOUT (R154). -/
def State.selectLayout (s : State) (held : Option (Fin 12)) (tag : Byte) : List Byte → State
  | [range, layout] =>
    match rangeField held range, fin? 16 layout.toNat with
    | some ds, some l => s.stage .selectLayout tag (.selectLayout ds l)
    | _, _ => s.refuseKind .selectLayout tag .badField
  | _ => s.refuseKind .selectLayout tag .badLength

/-- SELECT PROGRAM (R168). -/
def State.selectProgram (s : State) (held : Option (Fin 12)) (tag : Byte) : List Byte → State
  | [range, lane] =>
    match rangeField held range, Lane.ofCode lane.toNat with
    | some ds, some x => s.stage .selectProgram tag (.selectProgram ds x)
    | _, _ => s.refuseKind .selectProgram tag .badField
  | _ => s.refuseKind .selectProgram tag .badLength

/-- SET DISPLAY MASKS (R168). -/
def State.setDisplayMasks (s : State) (held : Option (Fin 12)) (tag : Byte) : List Byte → State
  | [range, attract, wake] =>
    match rangeField held range, classSet? attract, classSet? wake with
    | some ds, some a, some w => s.stage .setDisplayMasks tag (.displayMasks ds a w)
    | _, _, _ => s.refuseKind .setDisplayMasks tag .badField
  | _ => s.refuseKind .setDisplayMasks tag .badLength

/-! ### Arrival (R17, R18, R20) -/

/-- A directive of a known kind, with the prefix that it consumed (R18). -/
def State.carryOut (s : State) (k : DirectiveKind) (held : Option (Fin 12)) (tag : Byte) (p : List Byte) : State :=
  match k with
  | .markTime => s.markTime tag p
  | .openDay => s.openDay tag p
  | .closeDay => s.closeDay tag p
  | .sale => s.sale tag p
  | .acknowledgeBand => s.acknowledgeBand tag p
  | .postNotice => s.postNotice held tag p
  | .withdrawNotice => s.withdrawNotice tag p
  | .driveChimeLine => s.driveChimeLine tag p
  | .setCursor => s.setCursor tag p
  | .writeEntry => s.writeEntry tag p
  | .readEntries => s.readEntries tag p
  | .requestStatus => s.requestStatus tag p
  | .setAttentionMask => s.setAttentionMask tag p
  | .span => s.takeSpan tag p
  | .restart => s.takeRestart tag p
  | .setDisplayMode => s.setDisplayMode held tag p
  | .selectLayout => s.selectLayout held tag p
  | .selectProgram => s.selectProgram held tag p
  | .setDisplayMasks => s.setDisplayMasks held tag p

/-- The arrival of a directive: it consumes the held span prefix, and an unassigned kind is refused UNKNOWN_KIND
(R18, R20). -/
def State.directive (s : State) (kind tag : Byte) (p : List Byte) : State :=
  match DirectiveKind.ofCode kind with
  | some k => s.consumeSpan.carryOut k s.dir.span tag p
  | none => s.consumeSpan.refuse kind tag .unknownKind

end Sys2Proof.Machine
end

