-- ==== Sys2Proof/Machine/DirectiveCommands.lean ====
section
/-! DEFINITION. The meanings of the directive commands: the arrival of a directive of a known kind, which consumes the held
span prefix (R17, R18, R20; log 9). -/

namespace Sys2Proof.Machine

/-- MARK_TIME (R47). -/
def execMarkTime (tag : Byte) (payload : List Byte) (s : State) : Host.Outcome State Fault Refusal :=
  .next (s.consumeSpan.markTime tag payload)

/-- OPEN_DAY (R49). -/
def execOpenDay (tag : Byte) (payload : List Byte) (s : State) : Host.Outcome State Fault Refusal :=
  .next (s.consumeSpan.openDay tag payload)

/-- CLOSE_DAY (R50). -/
def execCloseDay (tag : Byte) (payload : List Byte) (s : State) : Host.Outcome State Fault Refusal :=
  .next (s.consumeSpan.closeDay tag payload)

/-- SALE (R83 to R93). -/
def execSale (tag : Byte) (payload : List Byte) (s : State) : Host.Outcome State Fault Refusal :=
  .next (s.consumeSpan.sale tag payload)

/-- ACKNOWLEDGE_BAND (R95). -/
def execAcknowledgeBand (tag : Byte) (payload : List Byte) (s : State) : Host.Outcome State Fault Refusal :=
  .next (s.consumeSpan.acknowledgeBand tag payload)

/-- POST_NOTICE_FRAGMENT_0: a POST NOTICE, which follows its fragment index (R108, R109; log 9). -/
def execPostNoticeFragment0 (tag : Byte) (payload : List Byte) (s : State) : Host.Outcome State Fault Refusal :=
  .next (s.consumeSpan.postNotice s.dir.span tag payload)

/-- POST_NOTICE_FRAGMENT_1_2: a POST NOTICE, which follows its fragment index (R108, R110; log 9). -/
def execPostNoticeFragment12 (tag : Byte) (payload : List Byte) (s : State) : Host.Outcome State Fault Refusal :=
  .next (s.consumeSpan.postNotice s.dir.span tag payload)

/-- WITHDRAW_NOTICE (R116). -/
def execWithdrawNotice (tag : Byte) (payload : List Byte) (s : State) : Host.Outcome State Fault Refusal :=
  .next (s.consumeSpan.withdrawNotice tag payload)

/-- DRIVE_CHIME_LINE (R124). -/
def execDriveChimeLine (tag : Byte) (payload : List Byte) (s : State) : Host.Outcome State Fault Refusal :=
  .next (s.consumeSpan.driveChimeLine tag payload)

/-- SET_CURSOR (R22). -/
def execSetCursor (tag : Byte) (payload : List Byte) (s : State) : Host.Outcome State Fault Refusal :=
  .next (s.consumeSpan.setCursor tag payload)

/-- WRITE_ENTRY_SETTINGS: a WRITE ENTRY, which follows the cursor (R23, R54; log 9). -/
def execWriteEntrySettings (tag : Byte) (payload : List Byte) (s : State) : Host.Outcome State Fault Refusal :=
  .next (s.consumeSpan.writeEntry tag payload)

/-- WRITE_ENTRY_SHOW: a WRITE ENTRY, which follows the cursor (R23, R61; log 9). -/
def execWriteEntryShow (tag : Byte) (payload : List Byte) (s : State) : Host.Outcome State Fault Refusal :=
  .next (s.consumeSpan.writeEntry tag payload)

/-- WRITE_ENTRY_TALLY: a WRITE ENTRY, which follows the cursor (R23, R100; log 9). -/
def execWriteEntryTally (tag : Byte) (payload : List Byte) (s : State) : Host.Outcome State Fault Refusal :=
  .next (s.consumeSpan.writeEntry tag payload)

/-- WRITE_ENTRY_TITLE: a WRITE ENTRY, which follows the cursor (R23, R59; log 9). -/
def execWriteEntryTitle (tag : Byte) (payload : List Byte) (s : State) : Host.Outcome State Fault Refusal :=
  .next (s.consumeSpan.writeEntry tag payload)

/-- WRITE_ENTRY_TEMPLATE: a WRITE ENTRY, which follows the cursor (R23, R142; log 9). -/
def execWriteEntryTemplate (tag : Byte) (payload : List Byte) (s : State) : Host.Outcome State Fault Refusal :=
  .next (s.consumeSpan.writeEntry tag payload)

/-- WRITE_ENTRY_STAGED: a WRITE ENTRY, which follows the cursor (R24; log 9). -/
def execWriteEntryStaged (tag : Byte) (payload : List Byte) (s : State) : Host.Outcome State Fault Refusal :=
  .next (s.consumeSpan.writeEntry tag payload)

/-- READ_ENTRIES (R25). -/
def execReadEntries (tag : Byte) (payload : List Byte) (s : State) : Host.Outcome State Fault Refusal :=
  .next (s.consumeSpan.readEntries tag payload)

/-- REQUEST_STATUS (R32). -/
def execRequestStatus (tag : Byte) (payload : List Byte) (s : State) : Host.Outcome State Fault Refusal :=
  .next (s.consumeSpan.requestStatus tag payload)

/-- SET_ATTENTION_MASK (R31). -/
def execSetAttentionMask (tag : Byte) (payload : List Byte) (s : State) : Host.Outcome State Fault Refusal :=
  .next (s.consumeSpan.setAttentionMask tag payload)

/-- RESTART (R38). -/
def execRestart (tag : Byte) (payload : List Byte) (s : State) : Host.Outcome State Fault Refusal :=
  .next (s.consumeSpan.takeRestart tag payload)

/-- SPAN (R20). -/
def execSpan (tag : Byte) (payload : List Byte) (s : State) : Host.Outcome State Fault Refusal :=
  .next (s.consumeSpan.takeSpan tag payload)

/-- SET_DISPLAY_MODE (R26, R168). -/
def execSetDisplayMode (tag : Byte) (payload : List Byte) (s : State) : Host.Outcome State Fault Refusal :=
  .next (s.consumeSpan.setDisplayMode s.dir.span tag payload)

/-- SELECT_LAYOUT (R26, R154). -/
def execSelectLayout (tag : Byte) (payload : List Byte) (s : State) : Host.Outcome State Fault Refusal :=
  .next (s.consumeSpan.selectLayout s.dir.span tag payload)

/-- SELECT_PROGRAM (R26, R168). -/
def execSelectProgram (tag : Byte) (payload : List Byte) (s : State) : Host.Outcome State Fault Refusal :=
  .next (s.consumeSpan.selectProgram s.dir.span tag payload)

/-- SET_DISPLAY_MASKS (R26, R168). -/
def execSetDisplayMasks (tag : Byte) (payload : List Byte) (s : State) : Host.Outcome State Fault Refusal :=
  .next (s.consumeSpan.setDisplayMasks s.dir.span tag payload)

end Sys2Proof.Machine
end

