-- ==== Sys2Proof/Machine/Frames.lean ====
section
/-! DEFINITION. The output frame start at the compositor: staged directives, modes, layouts, notice tiles, tickers
(R28, R153 to R156, R162, R167 to R171). -/

namespace Sys2Proof.Machine

/-- A display record replaced. -/
def State.setDisplay (s : State) (d : DisplayNo) (x : Display) : State :=
  { s with comp := { s.comp with displays := s.comp.displays.write d x } }

/-- A display record. -/
def State.display (s : State) (d : DisplayNo) : Display := s.comp.displays.read d

/-- The compositor's state replaced. -/
def State.setComp (s : State) (c : Compositor) : State := { s with comp := c }

/-! ### Staged LAYOUT and REGION writes (R153, R156) -/

/-- Do the checks of R153 pass for a layout, in the tables as the write would leave them? -/
def Compositor.writePasses (c : Compositor) (l : LayoutNo) : Bool :=
  c.inBounds l &&
  !(c.selected l && (List.finRange 16).any fun m => m != l && c.selected m && c.rangesMeet l m)

/-- The tiles that a write of a layout in use releases: in the former range and not in the new one (R156). -/
def releasedBy (before after : Compositor) (l : LayoutNo) : List TileNo :=
  (before.tileRange l).filter fun t => !after.inRange l t

/-- The tiles that a write of a layout in use binds: those with a binding that differs from the former one, and those of a
rewritten region (R156). -/
def boundBy (before after : Compositor) (l : LayoutNo) (rewritten : RegionNo → Bool) : List TileNo :=
  (after.tileRange l).filter fun t =>
    after.bindingAt l t != before.bindingAt l t ||
    (match after.bindingAt l t with
     | some b => rewritten b.region
     | none => false)

/-- Releases in the order of a list (R130). -/
def State.releaseAll (s : State) (ts : List TileNo) : State := ts.foldl State.releaseTile s

/-- Bindings in the order of a list, each with what the assignment gives it (R129, R152). -/
def State.bindAll (s : State) (l : LayoutNo) (ts : List TileNo) : State :=
  ts.foldl (fun s t => s.bindTile t (s.comp.bindingAt l t)) s

/-- The page state of a region after a write to its layout in use: started where the write rewrites it or brings it into
action as a LISTING region, inactive where it is not an acting LISTING region (R158). -/
def State.pageAfterWrite (before : Compositor) (rewritten : RegionNo → Bool) (l : LayoutNo) (s : State) (r : RegionNo) :
    State :=
  if s.comp.actingListing l r then
    if rewritten r || !before.actingListing l r then s.startPage l r else s
  else if (s.page l r).active then s.setPage l r PageState.inactive
  else s

/-- What an applied write changes at the tiles and pages of a layout in use (R156, R158; log 5, log 16). `rewritten` says
which regions the page rule takes as rewritten, `rebound` which regions' tiles are bound again. -/
def State.tilesAfterWrite (s : State) (before : Compositor) (l : LayoutNo) (rewritten rebound : RegionNo → Bool) : State :=
  if 0 < before.inUse.read l then
    let s1 := (List.finRange 8).foldl (State.pageAfterWrite before rewritten l) s
    (s1.releaseAll (releasedBy before s1.comp l)).bindAll l (boundBy before s1.comp l rebound)
  else s

/-- Does an applied REGION write change or rewrite its layout's ticker region? (R162). -/
def regionTouchesTicker (before after : Compositor) (l : LayoutNo) (r : RegionNo) : Bool :=
  before.tickerRegion l == some r || after.tickerRegion l == some r

/-- Does an applied LAYOUT write change which region is the layout's ticker region? (R162). -/
def layoutTouchesTicker (before after : Compositor) (l : LayoutNo) : Bool := before.tickerRegion l != after.tickerRegion l

/-- The state while staged directives land, with the layouts whose tickers are to be taken afresh (R162). -/
structure Landing where
  state : State
  fresh : BitVec 16
  deriving DecidableEq, Repr

/-- A landing with one more layout whose tickers are to be taken afresh, where a condition holds. -/
def Landing.freshIf (p : Landing) (l : LayoutNo) (c : Bool) : Landing :=
  if c then { p with fresh := p.fresh ||| BitVec.twoPow 16 l.val } else p

/-- A staged LAYOUT write lands (R149, R153, R156). -/
def State.landLayout (s : State) (tag : Byte) (l : LayoutNo) (img : Layout) : State :=
  let c := { s.comp with layouts := s.comp.layouts.write l img }
  if c.writePasses l then (s.setComp c).tilesAfterWrite s.comp l (fun _ => false) (fun _ => true)
  else s.refuseKind .writeEntry tag .tileRange

/-- A staged REGION write lands (R150, R153, R156). -/
def State.landRegion (s : State) (tag : Byte) (i : Fin 128) (img : Region) : State :=
  let l := regionLayout i
  let r := regionNumber i
  let c := { s.comp with regions := s.comp.regions.write i img }
  if c.writePasses l then (s.setComp c).tilesAfterWrite s.comp l (fun k => k == r) (fun k => k == r)
  else s.refuseKind .writeEntry tag .tileRange

/-! ### The display-addressed directives (R154, R168) -/

/-- SET DISPLAY MODE at one display (R168). -/
def Display.takeMode (x : Display) (m : DisplayMode) : Display :=
  if x.mode = .takeover then { x with saved := m } else { x with mode := m }

/-- Does a layout's range meet that of another layout selected by a display other than d? (R154). -/
def Compositor.selectionMeets (c : Compositor) (d : DisplayNo) (l : LayoutNo) : Bool :=
  (List.finRange 12).any fun e =>
    e != d && (c.displays.read e).layout != l && c.rangesMeet l (c.displays.read e).layout

/-- SELECT LAYOUT at one display (R154). -/
def State.selectAt (tag : Byte) (l : LayoutNo) (s : State) (d : DisplayNo) : State :=
  if s.comp.selectionMeets d l then s.refuseKind .selectLayout tag .tileRange
  else s.setDisplay d { s.display d with layout := l }

/-- A staged directive lands (R167 step 1, R168, R169). -/
def Landing.land (p : Landing) (x : Staged) : Landing :=
  let s := p.state
  match x.body with
  | .displayMode ds m => { p with state := ds.foldl (fun s d => s.setDisplay d ((s.display d).takeMode m)) s }
  | .selectLayout ds l => { p with state := ds.foldl (State.selectAt x.tag l) s }
  | .selectProgram ds lane =>
    { p with state := ds.foldl (fun s d => s.setDisplay d { s.display d with lane := lane }) s }
  | .displayMasks ds a w =>
    { p with state := ds.foldl (fun s d => s.setDisplay d { s.display d with attractPass := a, darkWake := w }) s }
  | .writeLayout l img =>
    let c := { s.comp with layouts := s.comp.layouts.write l img }
    ({ p with state := s.landLayout x.tag l img }).freshIf l (c.writePasses l && layoutTouchesTicker s.comp c l)
  | .writeRegion i img =>
    let c := { s.comp with regions := s.comp.regions.write i img }
    ({ p with state := s.landRegion x.tag i img }).freshIf (regionLayout i)
      (c.writePasses (regionLayout i) && regionTouchesTicker s.comp c (regionLayout i) (regionNumber i))
  | .writePalette k colour => { p with state := s.setComp { s.comp with palette := s.comp.palette.write k colour } }
  | .writeGlyph k glyph => { p with state := s.setComp { s.comp with glyphs := s.comp.glyphs.write k glyph } }

/-- Step 1: the directives handed over land in staging order (R28, R167). -/
def State.landStaged (s : State) : Landing :=
  s.dir.handed.foldl Landing.land { state := s.takeHanded, fresh := 0 }

/-! ### Colours and modes (R169, R170) -/

/-- Step 2: the five colour fields are latched (R167, R169). -/
def State.latchColours (s : State) : State := s.setComp { s.comp with latched := s.settings.colours }

/-- Entry into and return from TAKEOVER (R170, actions 1 and 2). -/
def Display.settleTakeover (x : Display) (notice : Option Notice) : Display :=
  match notice with
  | some _ => if x.mode = .takeover then x else { x with saved := x.mode, mode := .takeover }
  | none => if x.mode = .takeover then { x with mode := x.saved } else x

/-- Step 3 at one display (R170). -/
def State.settleMode (s : State) (d : DisplayNo) : State :=
  let notice := takeoverNotice s.notice.queue d
  let x := (s.display d).settleTakeover notice
  let wakes := decide (x.mode = .dark) && s.notice.wake.getLsbD d.val
  let y := if wakes then { x with mode := .live } else x
  let s1 := s.setDisplay d y
  let s2 := if wakes then s1.setFlag .displayWoke else s1
  let s3 := { s2 with notice := { s2.notice with wake := s2.notice.wake &&& ~~~(BitVec.twoPow 12 d.val) } }
  s3.setDisplay d { s3.display d with takeover := notice.map fun n => n.id }

/-- Step 3 of the output frame start (R167, R170). -/
def State.settleModes (s : State) : State := (List.finRange 12).foldl State.settleMode s

/-! ### Layouts in use (R155) -/

/-- The number of displays whose record names a layout (R155). -/
def Compositor.users (c : Compositor) (l : LayoutNo) : Nat :=
  ((List.finRange 12).filter fun d => (c.displays.read d).layout == l).length

/-- A layout leaves use (R155). -/
def State.leaveLayout (s : State) (l : LayoutNo) : State :=
  (List.finRange 8).foldl (fun s r => s.setPage l r PageState.inactive) (s.releaseAll (s.comp.tileRange l))

/-- A layout enters use (R155, R158). -/
def State.enterLayout (s : State) (l : LayoutNo) : State :=
  let s1 := ((List.finRange 8).filter fun r => s.comp.actingListing l r).foldl (fun s r => s.startPage l r) s
  s1.bindAll l (s1.comp.tileRange l)

/-- Does a layout leave use at the recount? (R155). -/
def Compositor.leaves (c : Compositor) (l : LayoutNo) : Bool := decide (0 < c.inUse.read l) && c.users l == 0

/-- Does a layout enter use at the recount? (R155). -/
def Compositor.enters (c : Compositor) (l : LayoutNo) : Bool := c.inUse.read l == 0 && decide (0 < c.users l)

/-- Step 4: the recount of the layouts in use (R155, R167). -/
def State.recountLayouts (s : State) : State :=
  let s1 := ((List.finRange 16).filter s.comp.leaves).foldl State.leaveLayout s
  let s2 := ((List.finRange 16).filter s.comp.enters).foldl State.enterLayout s1
  s2.setComp { s2.comp with inUse := Table.tabulate s2.comp.users }

/-! ### Notice tiles, tickers, banners, display changes (R162, R171) -/

/-- Does a display need its notice tile? (R171). -/
def Compositor.needsTile (c : Compositor) (d : DisplayNo) : Bool :=
  match (c.displays.read d).mode with
  | .takeover => true
  | .attract => true
  | .live => (c.tickerRegion (c.displays.read d).layout).isSome
  | .dark => false

/-- The class set of the ticker that a display has, or none (R162). -/
def Compositor.tickerWanted (c : Compositor) (d : DisplayNo) : Option ClassSet :=
  let x := c.displays.read d
  match x.mode with
  | .attract => some x.attractPass
  | .live => (c.tickerRegion x.layout).map fun r => (c.region x.layout r).tickerClasses
  | .takeover => none
  | .dark => none

/-- Did a display need its notice tile after the previous output frame start? (R171). -/
def Compositor.neededTile (c : Compositor) (d : DisplayNo) : Bool := c.tileNeeded.getLsbD d.val

/-- Does action 1 of step 5 bind the notice tile of a display? (R171). -/
def Compositor.bindsNotice (c : Compositor) (d : DisplayNo) : Bool := c.needsTile d && !c.neededTile d

/-- Action 1 of step 5: the notice tile (R171). -/
def State.settleTile (s : State) (d : DisplayNo) : State :=
  let needs := s.comp.needsTile d
  let mask := BitVec.twoPow 12 d.val
  let s1 := s.setComp { s.comp with
    tileNeeded := if needs then s.comp.tileNeeded ||| mask else s.comp.tileNeeded &&& ~~~mask }
  if s.comp.bindsNotice d then s1.bindTile (noticeTile d) none
  else if !needs && s.comp.neededTile d then s1.releaseTile (noticeTile d)
  else s1

/-- Action 2 of step 5: the ticker (R162, R171). -/
def State.settleTicker (s : State) (fresh : BitVec 16) (d : DisplayNo) : State :=
  let t := s.comp.tickers.read d
  match s.comp.tickerWanted d with
  | some cs =>
    if t.running = false ∨ t.classes ≠ cs ∨ fresh.getLsbD (s.display d).layout.val = true then s.startTicker d cs else s
  | none => s.setTicker d Ticker.stopped

/-- Action 3 of step 5: the banner (R171). -/
def State.settleBanner (s : State) (d : DisplayNo) : State :=
  s.setDisplay d { s.display d with
    banner := decide ((s.display d).mode = .attract) && (s.comp.tickers.read d).current.isSome }

/-- Do the fields of a display change differ? (R171). -/
def Display.changedFrom (x old : Display) : Bool :=
  decide (x.mode ≠ old.mode ∨ x.layout ≠ old.layout ∨ x.takeover ≠ old.takeover)

/-- Action 4 of step 5: the display change. At a tile that action 1 has just bound it changes nothing, also where the render
of that tile has started at once: R171 says so (log 41). At a tile that action 1 has just released while its render is in
flight it makes that render stale: DEDUCED (log 44). -/
def State.settleChange (s : State) (old : Display) (bound : Bool) (d : DisplayNo) : State :=
  if (s.display d).changedFrom old && !bound then s.displayChangeMark d else s

/-- Step 5 at one display (R171), with the display records as they stood before step 1. -/
def State.settleNotice (fresh : BitVec 16) (old : Table Display 12) (s : State) (d : DisplayNo) : State :=
  (((s.settleTile d).settleTicker fresh d).settleBanner d).settleChange (old.read d) (s.comp.bindsNotice d) d

/-- The compositor's handling of an output frame start, in five steps (R167). Step 5 takes the displays from D0 to D11:
DESIGN CHOICE (log 5). -/
def State.compositorStart (s : State) : State :=
  let landing := s.landStaged
  let s4 := ((landing.state.latchColours).settleModes).recountLayouts
  (List.finRange 12).foldl (State.settleNotice landing.fresh s.comp.displays) s4

/-- The output frame start at the compositor and the formatter, in the order that the event gives (R130, R139, R167;
log 6). -/
def State.frameStartHandling (s : State) (commitFirst : Bool) : State :=
  if commitFirst then s.commitTiles.compositorStart else s.compositorStart.commitTiles

end Sys2Proof.Machine
end

