-- ==== Sys2Proof/Machine/Compose.lean ====
section
/-! DEFINITION. Composing a line and sending it: pixels, glyphs, ports, panels (R172 to R178). -/

namespace Sys2Proof.Machine

/-- The lanes of an output line: a lane map with line y of the lanes, or no lane present (R172, R178). -/
abbrev LineLanes := Option (LaneMap × LaneLines)

/-- The pixel of a lane, or none where the lane is absent or NONE (R172). -/
def laneColour (lanes : LineLanes) (lane : Lane) (x : Fin 1920) : Option Colour :=
  match lanes with
  | none => none
  | some (map, lines) =>
    match lane with
    | .a => if map.a then some (lines.a.read x) else none
    | .b => if map.b then some (lines.b.read x) else none
    | .c => if map.c then some (lines.c.read x) else none
    | .d => if map.d then some (lines.d.read x) else none
    | .absent => none

/-- The colour of a palette entry (R169). -/
def Compositor.colour (c : Compositor) (i : ColourIndex) : Colour := c.palette.read i

/-- A colour where index 0 gives black: the backdrop and the takeover background (R172, R173). -/
def Compositor.colourOrBlack (c : Compositor) (i : ColourIndex) : Colour := if i = 0 then Colour.black else c.colour i

/-- A background where index 0 is transparent: regions and the banner (R174, R175). -/
def Compositor.paint (c : Compositor) (i : ColourIndex) (under : Colour) : Colour := if i = 0 then under else c.colour i

/-- The backdrop (R172). -/
def Compositor.backdrop (c : Compositor) : Colour := c.colourOrBlack c.latched.backdrop

/-- A lane's pixel, or the backdrop (R172). -/
def Compositor.lanePixel (c : Compositor) (lanes : LineLanes) (lane : Lane) (x : Fin 1920) : Colour :=
  (laneColour lanes lane x).getD c.backdrop

/-- Is the glyph pixel of a text position set? Past the text's end the code is 32 (R176). -/
def Compositor.glyphPixel (c : Compositor) (text : List Byte) (position row pixel : Nat) : Bool :=
  match fin? 256 (text.getD position space).toNat, fin? 24 row with
  | some code, some i => ((c.glyphs.read code).read i).getMsbD pixel
  | _, _ => false

/-- The committed text of a tile. -/
def State.committedText (s : State) (t : TileNo) : List Byte := (s.fmt.tiles.read t).committed

/-- A pixel of the takeover page (R173). -/
def State.takeoverPixel (s : State) (d : DisplayNo) (y x : Nat) : Colour :=
  let c := s.comp
  if 528 ≤ y ∧ y ≤ 551 ∧ c.glyphPixel (s.committedText (noticeTile d)) (x / 12) (y - 528) (x % 12) = true then
    c.colour c.latched.takeoverFg
  else c.colourOrBlack c.latched.takeoverBg

/-- A pixel of an ATTRACT display, over its base (R172, R174). -/
def State.attractPixel (s : State) (d : DisplayNo) (y x : Nat) (base : Colour) : Colour :=
  let c := s.comp
  if 1032 ≤ y ∧ (c.displays.read d).banner = true then
    if 1044 ≤ y ∧ y ≤ 1067 ∧ c.glyphPixel (s.committedText (noticeTile d)) (x / 12) (y - 1044) (x % 12) = true then
      c.colour c.latched.bannerFg
    else c.paint c.latched.bannerBg base
  else base

/-- Is a pixel in a region's rectangle? (R151). -/
def Region.covers (g : Region) (y x : Nat) : Bool :=
  decide (g.column ≤ x / 24 ∧ x / 24 < g.column + g.width ∧ g.row ≤ y / 24 ∧ y / 24 < g.row + g.height)

/-- A pixel of a text row of a region (R175, R176). -/
def Compositor.textPixel (c : Compositor) (g : Region) (text : List Byte) (y x : Nat) (under : Colour) : Colour :=
  if c.glyphPixel text ((x - 24 * g.column) / 12) (y % 24) ((x - 24 * g.column) % 12) then c.colour g.foreground
  else c.paint g.background under

/-- The text of a region's row: that of the tile which serves it (R152, R175). -/
def State.rowText (s : State) (l : LayoutNo) (r : RegionNo) (row : Nat) : List Byte :=
  match s.comp.rowTile l r row with
  | some t => s.committedText t
  | none => []

/-- The lane that a PROGRAM region shows on a display (R175). -/
def Region.laneOn (g : Region) (x : Display) : Lane :=
  match g.programLane with
  | some (some lane) => lane
  | some none => x.lane
  | none => .absent

/-- A pixel within a region, over what lies beneath (R175). -/
def State.regionPixel (s : State) (lanes : LineLanes) (d : DisplayNo) (r : RegionNo) (y : Nat) (x : Fin 1920)
    (under : Colour) : Colour :=
  let c := s.comp
  let l := (c.displays.read d).layout
  let g := c.region l r
  if g.covers y x then
    match g.kind with
    | .program => c.lanePixel lanes (g.laneOn (c.displays.read d)) x
    | .fill => c.paint g.background under
    | .listing => c.textPixel g (s.rowText l r (y / 24 - g.row)) y x under
    | .card => c.textPixel g (s.rowText l r (y / 24 - g.row)) y x under
    | .clock => c.textPixel g (s.rowText l r (y / 24 - g.row)) y x under
    | .ticker =>
      if c.tickerRegion l = some r then
        if y / 24 = g.row then c.textPixel g (s.committedText (noticeTile d)) y x under
        else c.paint g.background under
      else under
  else under

/-- A pixel of a LIVE display: its base with the acting regions over it, in ascending region index (R175). -/
def State.livePixel (s : State) (lanes : LineLanes) (d : DisplayNo) (y : Nat) (x : Fin 1920) (base : Colour) : Colour :=
  ((List.finRange 8).filter fun r => s.comp.acts (s.comp.displays.read d).layout r).foldl
    (fun under r => s.regionPixel lanes d r y x under) base

/-- A pixel of a display's output line, by its mode (R172). -/
def State.pixel (s : State) (lanes : LineLanes) (d : DisplayNo) (y : Nat) (x : Fin 1920) : Colour :=
  let base := s.comp.lanePixel lanes (s.comp.displays.read d).lane x
  match (s.comp.displays.read d).mode with
  | .dark => Colour.black
  | .takeover => s.takeoverPixel d y x
  | .attract => s.attractPixel d y x base
  | .live => s.livePixel lanes d y x base

/-- Line y of a display (R172). -/
def State.composeLine (s : State) (lanes : LineLanes) (d : DisplayNo) (y : Nat) : Table Colour 1920 :=
  Table.tabulate fun x => s.pixel lanes d y x

/-! ### Ports and panels (R177, R178; log 21) -/

/-- The ports replaced. -/
def State.setPorts (s : State) (f : DisplayNo → Port) : State :=
  { s with comp := { s.comp with ports := Table.tabulate f } }

/-- An output frame start at the ports: those with a panel send from it on; `closing` where an output frame end goes before
it at the same event (R15, R177, R178). -/
def State.portsStart (s : State) (closing : Bool) : State :=
  s.setPorts fun d =>
    let p := s.comp.ports.read d
    let present := (s.comp.displays.read d).panelPresent
    { sending := present,
      sent := (if closing && p.sending then [.frameEnd] else []) ++ (if present then [.frameStart] else []) }

/-- An output line at the ports (R172, R178). -/
def State.portsLine (s : State) (lanes : LineLanes) (y : Nat) : State :=
  s.setPorts fun d =>
    let p := s.comp.ports.read d
    { p with sent := if p.sending then [.line y (s.composeLine lanes d y)] else [] }

/-- An output frame end at the ports (R178). -/
def State.portsEnd (s : State) : State :=
  s.setPorts fun d =>
    let p := s.comp.ports.read d
    { p with sent := if p.sending then [.frameEnd] else [] }

/-- A panel removal, where a panel is present (R177; log 2). -/
def State.removePanel (s : State) (d : DisplayNo) : State :=
  if (s.display d).panelPresent then
    let s1 := s.setDisplay d { s.display d with panelPresent := false }
    let s2 := { s1 with
      comp := { s1.comp with ports := s1.comp.ports.write d { s1.comp.ports.read d with sending := false } }
      sense := s1.sense &&& ~~~(BitVec.twoPow 12 d.val) }
    s2.setFlag .displayLost
  else s

/-- A panel attachment, where no panel is present (R177; log 2). -/
def State.attachPanel (s : State) (d : DisplayNo) : State :=
  if (s.display d).panelPresent then s
  else
    let s1 := s.setDisplay d { s.display d with panelPresent := true }
    { s1 with sense := s1.sense ||| BitVec.twoPow 12 d.val }

end Sys2Proof.Machine
end

