-- ==== Sys2Proof/Machine/EventCommands.lean ====
section
/-! DEFINITION. The meanings of the device's own events: ticks, the clock, notices, chimes, pages, tickers, renders, the
return lane, panels (log 1, log 2, log 7, log 8). -/

namespace Sys2Proof.Machine

/-- TENTH_TICK (R41, R126). -/
def execTenthTick (s : State) : Host.Outcome State Fault Refusal :=
  .next ({ s with divider := s.divider.tenth }).tickChimes

/-- SECOND_TICK (R41, R43, R117, R159, R163). -/
def execSecondTick (order : TickOrder) (s : State) : Host.Outcome State Fault Refusal :=
  .next (order.receivers.foldl State.tickReceiver { s with divider := { s.divider with secondDue := false } })

/-- MINUTE_BOUNDARY: the business minute advances by counting (R42 to R44, R56). -/
def execMinuteBoundary (s : State) : Host.Outcome State Fault Refusal :=
  .next (if s.clock.canAdvance then s.advanceMinute else s)

/-- ENTER_HOLDOVER: the tenth unmarked minute (R44). -/
def execEnterHoldover (s : State) : Host.Outcome State Fault Refusal :=
  .next (if s.clock.state = .running ∧ s.clock.sinceMark = 9 ∧ s.clock.canAdvance = true then s.advanceMinute
         else s.holdoverStep)

/-- ENTER_LOST: the sixtieth unmarked minute (R44). -/
def execEnterLost (s : State) : Host.Outcome State Fault Refusal :=
  .next (if s.clock.state = .holdover ∧ s.clock.sinceMark = 59 ∧ s.clock.canAdvance = true then s.advanceMinute
         else s.lostStep)

/-- CLOCK_SATURATION (R45). -/
def execClockSaturation (s : State) : Host.Outcome State Fault Refusal :=
  .next (if s.clock.state.counts && s.clock.atEnd then s.loseClock else s)

/-- LIFETIME_EXPIRY (R117). -/
def execLifetimeExpiry (s : State) : Host.Outcome State Fault Refusal := .next (s.removeNotices Notice.expires)

/-- CHIME_PATTERN_START (R126). -/
def execChimePatternStart (line : Fin 2) (s : State) : Host.Outcome State Fault Refusal :=
  .next (if (s.notice.chimes.read line).mode = .tone then s.setChime line (s.notice.chimes.read line).startNext else s)

/-- CHIME_COUNTDOWN_EXPIRY (R126). -/
def execChimeCountdownExpiry (line : Fin 2) (s : State) : Host.Outcome State Fault Refusal :=
  .next (s.setChime line (s.notice.chimes.read line).expire)

/-- PAGE_TURN (R159). -/
def execPageTurn (layout : Fin 16) (region : Fin 8) (s : State) : Host.Outcome State Fault Refusal :=
  .next (if s.pageTurns layout region then s.turnPage layout region else s)

/-- TICKER_STEP (R163). -/
def execTickerStep (display : Fin 12) (s : State) : Host.Outcome State Fault Refusal :=
  .next (if s.tickerCounts display then s.stepTicker display else s)

/-- RENDER_START (R137). -/
def execRenderStart (s : State) : Host.Outcome State Fault Refusal := .next s.startRender

/-- RENDER_COMPLETION (R136, R138). -/
def execRenderCompletion (s : State) : Host.Outcome State Fault Refusal := .next s.completeRender

/-- CHAIN_PACKET_ARRIVAL (R35, R36). -/
def execChainPacketArrival (packet : List Byte) (s : State) : Host.Outcome State Fault Refusal :=
  .next (s.chainArrives packet)

/-- UPSTREAM_READY (R36). -/
def execUpstreamReady (s : State) : Host.Outcome State Fault Refusal := .next s.giveUpstreamReady

/-- UPSTREAM_READY_WITHDRAWAL (R37). -/
def execUpstreamReadyWithdrawal (s : State) : Host.Outcome State Fault Refusal := .next s.withdrawUpstreamReady

/-- TRANSMISSION_COMPLETION (R37). -/
def execTransmissionCompletion (s : State) : Host.Outcome State Fault Refusal := .next s.completeTransmission

/-- PANEL_REMOVAL (R177). -/
def execPanelRemoval (display : Fin 12) (s : State) : Host.Outcome State Fault Refusal := .next (s.removePanel display)

/-- PANEL_ATTACHMENT (R177). -/
def execPanelAttachment (display : Fin 12) (s : State) : Host.Outcome State Fault Refusal :=
  .next (s.attachPanel display)

end Sys2Proof.Machine
end

