-- ==== Sys2Proof/Machine/Feed.lean ====
section
/-! DEFINITION. The feed receiver: lock, the frame record, margin packets, output frames, the flywheel (chapter 1). -/

namespace Sys2Proof.Machine

/-- The feed receiver replaced. -/
def State.setFeed (s : State) (f : FeedReceiver) : State := { s with feed := f }

/-- An event of the feed is repeated on feed out, in every lock state (R11; log 22). -/
def State.repeatOut (s : State) (e : FeedEvent) : State := s.setFeed { s.feed with feedOut := .event e }

/-- A frame start taken into the frame record (R2). -/
def FrameRecord.start (count : Byte) (lanes : LaneMap) : FrameRecord :=
  { phase := .margin, count := count, lanes := lanes, marginPackets := 0, lineGroups := 0 }

/-- The record with its phase BETWEEN (R2). -/
def FrameRecord.leave (r : FrameRecord) : FrameRecord := { r with phase := .between }

/-- The frame record replaced. -/
def State.setRecord (s : State) (r : FrameRecord) : State := s.setFeed { s.feed with record := r }

/-- The candidate replaced (R3). -/
def State.setCandidate (s : State) (c : Candidate) : State := s.setFeed { s.feed with candidate := c }

/-- The output frame in progress replaced (R12 to R15). -/
def State.setOutput (s : State) (o : OutputFrame) : State := s.setFeed { s.feed with output := o }

/-- The frame timeout measurement runs exactly while LOCKED (R6, R16). -/
def FeedReceiver.frameTimeoutRunning (f : FeedReceiver) : Bool := f.lock == .locked

/-! ### Output frames (R12 to R15) -/

/-- An output frame end (R12, R14, R15, R178). -/
def State.outputEnd (s : State) : State := s.portsEnd.setOutput .closed

/-- Is an output frame in progress? -/
def OutputFrame.isOpen : OutputFrame → Bool
  | .closed => false
  | .feed _ => true
  | .completing _ => true
  | .flywheel _ => true

/-- An output frame start: one still open ends first, the ports start, the cadence is latched, and the compositor and the
formatter take it (R12, R13, R15, R167). -/
def State.outputStart (s : State) (o : OutputFrame) (commitFirst : Bool) : State :=
  ((s.portsStart s.feed.output.isOpen).setFeed
    { s.feed with output := o, latchedCadence := s.settings.cadence }).frameStartHandling commitFirst

/-- On leaving LOCKED the flywheel takes over the output frame in progress (R14). -/
def State.flywheelTakeover (s : State) : State :=
  match s.feed.output with
  | .feed k => if k < Config.lines then s.setOutput (.completing k) else s.outputEnd
  | .closed => s
  | .completing _ => s
  | .flywheel _ => s

/-! ### Malformed frames and losses of lock (R4 to R6) -/

/-- The malformed-frame count increments (R8). -/
def State.countMalformed (s : State) : State :=
  s.setFeed { s.feed with malformedCount := bump16 s.feed.malformedCount }

/-- A malformed frame in LOCKED: the five effects, in order (R4). -/
def State.malformedLocked (s : State) : State :=
  let s1 := s.countMalformed.setFlag .feedLost
  ((s1.setFeed { s1.feed with lock := .search }).lockLost).flywheelTakeover

/-- The phase is BETWEEN and the candidate is NONE (R4, R5). -/
def State.abandonFrame (s : State) : State :=
  s.setFeed { s.feed with record := s.feed.record.leave, candidate := .absent }

/-- A frame start is taken into the frame record as a new candidate (R3 to R5). -/
def State.followFrame (s : State) (count : Byte) (lanes : LaneMap) : State :=
  s.setFeed { s.feed with record := FrameRecord.start count lanes, candidate := .following }

/-! ### Feed events -/

/-- Symbol acquisition (R1, R3, R11). -/
def State.acquireSymbols (s : State) : State :=
  match s.feed.lock with
  | .noSignal => s.setFeed { s.feed with lock := .search, candidate := .absent, feedOut := .symbols }
  | .search => s
  | .locked => s

/-- Symbol loss (R1, R2, R11, R14, R29). -/
def State.loseSymbols (s : State) : State :=
  let s1 := s.setFeed { s.feed with
    lock := .noSignal, candidate := .absent, record := s.feed.record.leave, feedOut := .silent }
  match s.feed.lock with
  | .noSignal => s1
  | .search => s1
  | .locked => ((s1.setFlag .feedLost).lockLost).flywheelTakeover

/-- A frame start that completes lock acquisition (R3, R15). -/
def State.acquireLock (s : State) (count : Byte) (lanes : LaneMap) (commitFirst : Bool) : State :=
  (s.setFeed { s.feed with lock := .locked, candidate := .absent, record := FrameRecord.start count lanes }).outputStart
    (.feed 0) commitFirst

/-- A frame start in SEARCH (R3, R5). -/
def State.searchFrameStart (s : State) (count : Byte) (lanes : LaneMap) (commitFirst : Bool) : State :=
  match s.feed.candidate with
  | .absent => s.followFrame count lanes
  | .following => s.countMalformed.followFrame count lanes
  | .complete =>
    if count = s.feed.record.count + 1 then s.acquireLock count lanes commitFirst else s.followFrame count lanes

/-- A frame start in LOCKED (R4, R12). -/
def State.lockedFrameStart (s : State) (count : Byte) (lanes : LaneMap) (commitFirst : Bool) : State :=
  match s.feed.record.phase with
  | .between => (s.setRecord (FrameRecord.start count lanes)).outputStart (.feed 0) commitFirst
  | .margin => s.malformedLocked.followFrame count lanes
  | .active => s.malformedLocked.followFrame count lanes

/-- A feed frame start (R2 to R5, R11, R12, R15). -/
def State.takeFrameStart (s : State) (count : Byte) (lanes : LaneMap) (commitFirst : Bool) : State :=
  let s1 := s.repeatOut (.frameStart count lanes)
  match s.feed.lock with
  | .noSignal => s1
  | .search => s1.searchFrameStart count lanes commitFirst
  | .locked => s1.lockedFrameStart count lanes commitFirst

/-- A line group in the record (R2). -/
def FrameRecord.addLine (r : FrameRecord) : FrameRecord := { r with phase := .active, lineGroups := r.lineGroups + 1 }

/-- A line group of a LOCKED frame: line k goes to the compositor with the lanes of the lane map (R7, R12). -/
def State.lockedLine (s : State) (lines : LaneLines) : State :=
  let k := s.feed.record.lineGroups
  let s1 := s.setRecord s.feed.record.addLine
  if k < Config.lines then (s1.portsLine (some (s.feed.record.lanes, lines)) k).setOutput (.feed (k + 1)) else s1

/-- A line group (R2, R3, R7, R11, R12). -/
def State.takeLineGroup (s : State) (lines : LaneLines) : State :=
  let s1 := s.repeatOut (.lineGroup lines)
  match s.feed.lock with
  | .noSignal => s1
  | .search =>
    match s.feed.candidate with
    | .absent => s1
    | .following => s1.setRecord s.feed.record.addLine
    | .complete => s1
  | .locked =>
    match s.feed.record.phase with
    | .between => s1
    | .margin => s1.lockedLine lines
    | .active => s1.lockedLine lines

/-- A frame end of a frame in progress in LOCKED (R4, R12). -/
def State.lockedFrameEnd (s : State) : State :=
  if s.feed.record.lineGroups = Config.lines then
    ((s.setRecord s.feed.record.leave).outputEnd).frameClosed
  else s.malformedLocked.abandonFrame

/-- A frame end (R2 to R5, R7, R11, R12). -/
def State.takeFrameEnd (s : State) : State :=
  let s1 := s.repeatOut .frameEnd
  match s.feed.lock with
  | .noSignal => s1
  | .search =>
    match s.feed.candidate with
    | .absent => s1
    | .following =>
      if s.feed.record.lineGroups = Config.lines then
        s1.setFeed { s1.feed with record := s.feed.record.leave, candidate := .complete }
      else s1.countMalformed.abandonFrame
    | .complete => s1
  | .locked =>
    match s.feed.record.phase with
    | .between => s1
    | .margin => s1.lockedFrameEnd
    | .active => s1.lockedFrameEnd

/-- A frame timeout; none comes outside LOCKED (R6; log 2). -/
def State.frameTimeout (s : State) : State :=
  match s.feed.lock with
  | .noSignal => s
  | .search => s
  | .locked =>
    let s1 := s.setFlag .feedLost
    let s2 := s1.setFeed { s1.feed with lock := .search, candidate := .absent, record := s1.feed.record.leave }
    s2.lockLost.flywheelTakeover

/-! ### Margin packets (R9, R10, R181) -/

/-- Does a margin packet pass its check? (R9). -/
def packetOk (bytes : List Byte) : Bool :=
  let n := (imageByte bytes 4).toNat
  imageByte bytes 0 == 0x5C && decide (n ≤ Config.payloadLimit) && decide (bytes.length = 6 + n) && byteSum bytes == 0

/-- Is a checked packet addressed to a device? (R10). -/
def addressed (identity : Fin 8) (target : Byte) : Bool := target.toNat == identity.val || target.toNat == 15

/-- The payload of a margin packet (R181). -/
def packetPayload (bytes : List Byte) : List Byte := (bytes.drop 5).take (imageByte bytes 4).toNat

/-- A packet that fails its check (R9). -/
def State.failCheck (s : State) : State :=
  (s.setFeed { s.feed with checkFailCount := bump16 s.feed.checkFailCount }).setFlag .checkFail

/-- A packet taken in LOCKED and in MARGIN, up to the twenty-fourth (R9, R10). -/
def State.takePacket (s : State) (bytes : List Byte) : State :=
  if packetOk bytes then
    if addressed s.feed.identity (imageByte bytes 1) then
      s.directive (imageByte bytes 2) (imageByte bytes 3) (packetPayload bytes)
    else s
  else s.failCheck

/-- A margin packet counted into the frame record (R2). The twenty-fifth, which reveals the malformed frame, is counted too:
DESIGN CHOICE (log 38). -/
def FrameRecord.addPacket (r : FrameRecord) : FrameRecord := { r with marginPackets := r.marginPackets + 1 }

/-- A margin packet of the candidate frame in SEARCH (R3, R5; log 19). The twenty-fifth is counted in the frame record
(DESIGN CHOICE, log 38). -/
def State.searchPacket (s : State) : State :=
  match s.feed.candidate with
  | .absent => s
  | .following =>
    match s.feed.record.phase with
    | .between => s
    | .margin =>
      if s.feed.record.marginPackets < Config.marginLimit then s.setRecord s.feed.record.addPacket
      else ((s.setRecord s.feed.record.addPacket).countMalformed).abandonFrame
    | .active => s
  | .complete => s

/-- A margin packet in LOCKED (R4, R7, R9). The twenty-fifth is counted in the frame record (DESIGN CHOICE, log 38). -/
def State.lockedPacket (s : State) (bytes : List Byte) : State :=
  match s.feed.record.phase with
  | .between => s
  | .margin =>
    let s1 := s.setRecord s.feed.record.addPacket
    if s.feed.record.marginPackets < Config.marginLimit then s1.takePacket bytes else s1.malformedLocked.abandonFrame
  | .active => s

/-- A margin packet (R2, R7, R9 to R11). -/
def State.takeMarginPacket (s : State) (bytes : List Byte) : State :=
  let s1 := s.repeatOut (.marginPacket bytes)
  match s.feed.lock with
  | .noSignal => s1
  | .search => s1.searchPacket
  | .locked => s1.lockedPacket bytes

/-! ### The flywheel (R13, R14; log 23) -/

/-- Does the flywheel produce output frames of its own? Not LOCKED, and no feed output frame is being completed (R13). -/
def FeedReceiver.flywheelFree (f : FeedReceiver) : Bool :=
  f.lock != .locked &&
  (match f.output with
   | .closed => true
   | .feed _ => false
   | .completing _ => false
   | .flywheel _ => true)

/-- A flywheel frame start (R13). -/
def State.flywheelStart (s : State) (commitFirst : Bool) : State :=
  if s.feed.flywheelFree then s.outputStart (.flywheel 0) commitFirst else s

/-- A flywheel line, composed with no lane present (R13, R14). -/
def State.flywheelLine (s : State) : State :=
  match s.feed.output with
  | .closed => s
  | .feed _ => s
  | .completing k => if k < Config.lines then (s.portsLine none k).setOutput (.completing (k + 1)) else s
  | .flywheel k => if k < Config.lines then (s.portsLine none k).setOutput (.flywheel (k + 1)) else s

/-- A flywheel frame end (R13, R14). -/
def State.flywheelEnd (s : State) : State :=
  match s.feed.output with
  | .closed => s
  | .feed _ => s
  | .completing _ => s.outputEnd
  | .flywheel _ => s.outputEnd

end Sys2Proof.Machine
end

