-- ==== Sys2Proof/Machine/FeedCommands.lean ====
section
/-! DEFINITION. The meanings of the reset, feed and flywheel commands (chapter 1, R39). -/

namespace Sys2Proof.Machine

/-- POWER_ON_RESET (R16, R39, R57, R79, R105, R127, R148, R165, R179). -/
def execPowerOnReset (straps : Fin 8) (sense : BitVec 12) (s : State) : Host.Outcome State Fault Refusal :=
  .next (s.powerOnReset straps sense)

/-- SYMBOL_ACQUISITION (R1, R3). -/
def execSymbolAcquisition (s : State) : Host.Outcome State Fault Refusal := .next s.acquireSymbols

/-- SYMBOL_LOSS (R1, R2, R14, R29). -/
def execSymbolLoss (s : State) : Host.Outcome State Fault Refusal := .next s.loseSymbols

/-- FRAME_START (R2 to R5, R12, R15, R167). -/
def execFrameStart (count : Byte) (lanes : LaneMap) (commitFirst : Bool) (s : State) :
    Host.Outcome State Fault Refusal :=
  .next (s.takeFrameStart count lanes commitFirst)

/-- MARGIN_PACKET (R2, R4, R5, R7, R9, R10). -/
def execMarginPacket (bytes : List Byte) (s : State) : Host.Outcome State Fault Refusal :=
  .next (s.takeMarginPacket bytes)

/-- LINE_GROUP (R2, R7, R12, R172). -/
def execLineGroup (lines : LaneLines) (s : State) : Host.Outcome State Fault Refusal := .next (s.takeLineGroup lines)

/-- FRAME_END (R2, R4, R5, R12, R27). -/
def execFrameEnd (s : State) : Host.Outcome State Fault Refusal := .next s.takeFrameEnd

/-- FRAME_TIMEOUT (R6). -/
def execFrameTimeout (s : State) : Host.Outcome State Fault Refusal := .next s.frameTimeout

/-- FLYWHEEL_FRAME_START (R13, R167). -/
def execFlywheelFrameStart (commitFirst : Bool) (s : State) : Host.Outcome State Fault Refusal :=
  .next (s.flywheelStart commitFirst)

/-- FLYWHEEL_LINE (R13, R14, R172). -/
def execFlywheelLine (s : State) : Host.Outcome State Fault Refusal := .next s.flywheelLine

/-- FLYWHEEL_FRAME_END (R13, R14). -/
def execFlywheelFrameEnd (s : State) : Host.Outcome State Fault Refusal := .next s.flywheelEnd

end Sys2Proof.Machine
end

