-- ==== Sys2Proof/Machine/Dispatch.lean ====
section
/-! DEFINITION. The meaning of each command, one arm a constructor. -/

namespace Sys2Proof.Machine

/-- The effect of a command on everything but the queue of commands. -/
def exec (i : Instr) (s : State) : Host.Outcome State Fault Refusal :=
  match i with
  | .powerOnReset straps sense => Sys2Proof.Machine.execPowerOnReset straps sense s
  | .symbolAcquisition => Sys2Proof.Machine.execSymbolAcquisition s
  | .symbolLoss => Sys2Proof.Machine.execSymbolLoss s
  | .frameStart count lanes commitFirst => Sys2Proof.Machine.execFrameStart count lanes commitFirst s
  | .marginPacket bytes => Sys2Proof.Machine.execMarginPacket bytes s
  | .lineGroup lines => Sys2Proof.Machine.execLineGroup lines s
  | .frameEnd => Sys2Proof.Machine.execFrameEnd s
  | .frameTimeout => Sys2Proof.Machine.execFrameTimeout s
  | .flywheelFrameStart commitFirst => Sys2Proof.Machine.execFlywheelFrameStart commitFirst s
  | .flywheelLine => Sys2Proof.Machine.execFlywheelLine s
  | .flywheelFrameEnd => Sys2Proof.Machine.execFlywheelFrameEnd s
  | .markTime tag payload => Sys2Proof.Machine.execMarkTime tag payload s
  | .openDay tag payload => Sys2Proof.Machine.execOpenDay tag payload s
  | .closeDay tag payload => Sys2Proof.Machine.execCloseDay tag payload s
  | .sale tag payload => Sys2Proof.Machine.execSale tag payload s
  | .acknowledgeBand tag payload => Sys2Proof.Machine.execAcknowledgeBand tag payload s
  | .postNoticeFragment0 tag payload => Sys2Proof.Machine.execPostNoticeFragment0 tag payload s
  | .postNoticeFragment12 tag payload => Sys2Proof.Machine.execPostNoticeFragment12 tag payload s
  | .withdrawNotice tag payload => Sys2Proof.Machine.execWithdrawNotice tag payload s
  | .driveChimeLine tag payload => Sys2Proof.Machine.execDriveChimeLine tag payload s
  | .setCursor tag payload => Sys2Proof.Machine.execSetCursor tag payload s
  | .writeEntrySettings tag payload => Sys2Proof.Machine.execWriteEntrySettings tag payload s
  | .writeEntryShow tag payload => Sys2Proof.Machine.execWriteEntryShow tag payload s
  | .writeEntryTally tag payload => Sys2Proof.Machine.execWriteEntryTally tag payload s
  | .writeEntryTitle tag payload => Sys2Proof.Machine.execWriteEntryTitle tag payload s
  | .writeEntryTemplate tag payload => Sys2Proof.Machine.execWriteEntryTemplate tag payload s
  | .writeEntryStaged tag payload => Sys2Proof.Machine.execWriteEntryStaged tag payload s
  | .readEntries tag payload => Sys2Proof.Machine.execReadEntries tag payload s
  | .requestStatus tag payload => Sys2Proof.Machine.execRequestStatus tag payload s
  | .setAttentionMask tag payload => Sys2Proof.Machine.execSetAttentionMask tag payload s
  | .restart tag payload => Sys2Proof.Machine.execRestart tag payload s
  | .span tag payload => Sys2Proof.Machine.execSpan tag payload s
  | .setDisplayMode tag payload => Sys2Proof.Machine.execSetDisplayMode tag payload s
  | .selectLayout tag payload => Sys2Proof.Machine.execSelectLayout tag payload s
  | .selectProgram tag payload => Sys2Proof.Machine.execSelectProgram tag payload s
  | .setDisplayMasks tag payload => Sys2Proof.Machine.execSetDisplayMasks tag payload s
  | .tenthTick => Sys2Proof.Machine.execTenthTick s
  | .secondTick order => Sys2Proof.Machine.execSecondTick order s
  | .minuteBoundary => Sys2Proof.Machine.execMinuteBoundary s
  | .enterHoldover => Sys2Proof.Machine.execEnterHoldover s
  | .enterLost => Sys2Proof.Machine.execEnterLost s
  | .clockSaturation => Sys2Proof.Machine.execClockSaturation s
  | .lifetimeExpiry => Sys2Proof.Machine.execLifetimeExpiry s
  | .chimePatternStart line => Sys2Proof.Machine.execChimePatternStart line s
  | .chimeCountdownExpiry line => Sys2Proof.Machine.execChimeCountdownExpiry line s
  | .pageTurn layout region => Sys2Proof.Machine.execPageTurn layout region s
  | .tickerStep display => Sys2Proof.Machine.execTickerStep display s
  | .renderStart => Sys2Proof.Machine.execRenderStart s
  | .renderCompletion => Sys2Proof.Machine.execRenderCompletion s
  | .chainPacketArrival packet => Sys2Proof.Machine.execChainPacketArrival packet s
  | .upstreamReady => Sys2Proof.Machine.execUpstreamReady s
  | .upstreamReadyWithdrawal => Sys2Proof.Machine.execUpstreamReadyWithdrawal s
  | .transmissionCompletion => Sys2Proof.Machine.execTransmissionCompletion s
  | .panelRemoval display => Sys2Proof.Machine.execPanelRemoval display s
  | .panelAttachment display => Sys2Proof.Machine.execPanelAttachment display s

end Sys2Proof.Machine
end

