-- ==== Sys2Proof/Safety.lean ====
section
/-! DEFINITION. What holds in a safe state: the invariants that the spec states, block by block. Then the terms that the
statements use: what a command leaves alone, refusals, losses of lock, output frame starts, the row that a render finds, what
the layout records and the entry images say. -/

namespace Sys2Proof.Machine

/-! ### Seat tallies (R58, R80, R89, R91, R94) -/

/-- The tally of an occupied slot: its ranges, the empty clip of STRICT, departed exactly while the bands differ, and the
balance of a RECONCILE tally that is not unbalanced (R80, R89, R91, R94). -/
structure Tally.Fits (capacity : Nat) (t : Tally) : Prop where
  seats   : t.remaining ≤ capacity
  clip    : -127 ≤ t.clip ∧ t.clip ≤ 127
  net     : -9999 ≤ t.net ∧ t.net ≤ 9999
  strict  : t.mode = .strict → t.clip = 0
  departs : t.departed = true ↔ t.band ≠ t.acked
  balance : t.mode = .reconcile → t.unbalanced = false → (t.remaining : Int) + t.clip = capacity + t.net

/-- Every tally fits its show: zeroed while the slot is VACANT, within its limits while it is occupied (R80). -/
def State.TalliesFit (s : State) : Prop :=
  ∀ x : Slot,
    if (s.showOf x).state = .vacant then s.tallyOf x = Tally.zeroed
    else (1 ≤ (s.showOf x).capacity ∧ (s.showOf x).capacity ≤ 999) ∧ Tally.Fits (s.showOf x).capacity (s.tallyOf x)

/-! ### The listing order (R66, R75) -/

/-- The listing order holds every LISTED, BOARDING or STARTED slot exactly once and no other slot, sorted by start, then
auditorium, then slot index (R75). -/
structure Board.Ordered (b : Board) : Prop where
  once    : b.order.Nodup
  members : ∀ x : Slot, x ∈ b.order ↔ (b.shows.read x).state ≠ .vacant ∧ (b.shows.read x).state ≠ .retired
  sorted  : b.order.Pairwise fun x y =>
    let v := b.shows.read x
    let w := b.shows.read y
    v.start < w.start ∨
      (v.start = w.start ∧ (v.auditorium < w.auditorium ∨ (v.auditorium = w.auditorium ∧ x.val < y.val)))

/-- No two occupied, unretired slots in the same auditorium have overlapping intervals (R66). -/
def Board.NoClash (b : Board) : Prop :=
  ∀ x y : Slot, x ≠ y →
    let v := b.shows.read x
    let w := b.shows.read y
    v.state ≠ .vacant → v.state ≠ .retired → w.state ≠ .vacant → w.state ≠ .retired → v.auditorium = w.auditorium →
    ¬ (v.start < w.start + w.runtime ∧ w.start < v.start + v.runtime)

/-! ### The notice queue (R73, R106, R107) -/

/-- The notice queue holds at most 32 notices, never two with the same id, ordered by class priority (R107). -/
structure NoticesOrdered (q : List Notice) : Prop where
  room     : q.length ≤ 32
  distinct : (q.map Notice.id).Nodup
  classes  : q.Pairwise fun m n => m.cls.code ≤ n.cls.code

/-- A notice with id 160 + s is live only while slot s is BOARDING (R73); a partial post has no such id (R109). -/
structure State.BoardingNoticesFit (s : State) : Prop where
  live : ∀ x : Slot, (∃ n ∈ s.notice.queue, n.id = boardingId x) → (s.showOf x).state = .boarding
  post : ∀ p, s.notice.post = some p → p.notice.id.toNat < 160

/-- The notice unit: the queue's order and the boarding notices. -/
def State.NoticesFit (s : State) : Prop := NoticesOrdered s.notice.queue ∧ s.BoardingNoticesFit

/-! ### The render queue (R128, R135, R137) -/

/-- The render queue holds at most 16 tiles, no tile twice, exactly the QUEUED tiles; the engine's tile is the one RENDERING
tile; an idle engine leaves no tile waiting (R135, R137). -/
structure Formatter.Coherent (f : Formatter) : Prop where
  room      : f.queue.length ≤ 16
  once      : f.queue.Nodup
  queued    : ∀ t : TileNo, t ∈ f.queue ↔ (f.tiles.read t).state = .queued
  rendering : ∀ t : TileNo, (f.tiles.read t).state = .rendering ↔ ∃ r, f.engine = some r ∧ r.tile = t
  busy      : f.engine = none → f.queue = []

/-! ### Reports (R32, R34 to R36) -/

/-- The report queue holds at most 16 reports and at most one STATUS report; the chain buffer at most 4 packets; a STATUS
report is owed only at a full queue that holds none; no packet waits at an IDLE lane whose upstream ready is given. -/
structure ReportUnit.Coherent (r : ReportUnit) : Prop where
  reports  : r.queue.length ≤ 16
  oneStatus : (r.queue.filter fun x => x == Report.status).length ≤ 1
  packets  : r.chain.length ≤ 4
  owed     : r.owed = true → r.queue.length = 16 ∧ Report.status ∉ r.queue
  granted  : r.lane = .idle → r.upstreamReady = true → r.queue = [] ∧ r.chain = []

/-! ### Layouts (R149, R153, R154) -/

/-- Every layout's tile range ends at or below tile 147, and the tile ranges of two selected layouts share no tile
(R153, R154). -/
structure Compositor.RangesFit (c : Compositor) : Prop where
  bounds  : ∀ l : LayoutNo, c.inBounds l = true
  disjoint : ∀ l m : LayoutNo, l ≠ m → c.selected l = true → c.selected m = true → c.rangesMeet l m = false

/-! ### The clock (R40, R43 to R45) -/

/-- The ranges of the clock record, and what its state says of the minute and of the minutes since the last mark (R40). -/
structure Clock.InRange (c : Clock) : Prop where
  minute  : c.minute ≤ 2879
  second  : c.second ≤ 59
  civil   : c.civilStart ≤ 1439
  day     : c.dayNumber ≤ 65535
  unset   : c.state = .unset → c.minute = 0 ∧ c.second = 0 ∧ c.sinceMark = 0
  running : c.state = .running → c.sinceMark < 10
  holdover : c.state = .holdover → 10 ≤ c.sinceMark ∧ c.sinceMark < 60
  lost    : c.state = .lost → c.sinceMark ≤ 60

/-! ### The directive unit (R19, R22, R26, R29) -/

/-- Is a cursor position one that its table has? (R22). -/
def Cursor.InTable (c : Cursor) : Prop := ∀ i, c.index = some i → i < c.table.entries

/-- The staging queue, the cursor, the restore point and the refusal count are in their ranges (R19, R22, R26, R29). -/
structure DirectiveUnit.InRange (d : DirectiveUnit) : Prop where
  staging  : d.staging.length ≤ 8
  cursor   : d.cursor.InTable
  restore  : ∀ c, d.restorePoint = some c → c.InTable
  refusals : d.refusalCount ≤ 65535

/-! ### The feed receiver (R2 to R4, R8, R12, R14) -/

/-- The next line of the output frame in progress, if one is (R12 to R14). -/
def OutputFrame.next? : OutputFrame → Option Nat
  | .closed => none
  | .feed k => some k
  | .completing k => some k
  | .flywheel k => some k

/-- The counts are in range (R8); the candidate, the phase and the lock state agree (R2, R3); in LOCKED the output frame
follows the frame record, and outside LOCKED it does not follow the feed (R12, R14). -/
structure FeedReceiver.Coherent (f : FeedReceiver) : Prop where
  malformed : f.malformedCount ≤ 65535
  checks    : f.checkFailCount ≤ 65535
  silent    : f.lock = .noSignal → f.record.phase = .between
  search    : f.lock = .search → (f.candidate = .following ↔ f.record.phase ≠ .between)
  locked    : f.lock = .locked → f.output =
    if f.record.phase = .between then .closed else .feed (min f.record.lineGroups 1080)
  unlocked  : f.lock ≠ .locked → ∀ k, f.output ≠ .feed k
  margin    : f.record.phase = .margin → f.record.lineGroups = 0 ∧ f.record.marginPackets ≤ 24
  active    : f.record.phase = .active → 1 ≤ f.record.lineGroups ∧ f.record.marginPackets ≤ 24
  lines     : ∀ k, f.output.next? = some k → k ≤ 1080

/-! ### Displays and pages (R158, R160, R166, R168) -/

/-- The saved mode is LIVE, ATTRACT or DARK (R166), and no held SET DISPLAY MODE names TAKEOVER (R168). -/
structure State.ModesLegal (s : State) : Prop where
  saved  : ∀ d : DisplayNo, (s.display d).saved ≠ .takeover
  staged : ∀ x ∈ s.dir.staging, ∀ ds m, x.body = .displayMode ds m → m ≠ .takeover

/-- The page index of an active page state is below its page count (R158, R160). -/
def Compositor.PagesFit (c : Compositor) : Prop :=
  ∀ i : Fin 128, (c.pages.read i).active = true → (c.pages.read i).index < (c.pages.read i).count

/-! ### The ranges of the records -/

/-- The ranges of the SETTINGS entry (R54, R78, R82, R144, R162). -/
structure Settings.Fits (c : Settings) : Prop where
  strikes  : c.boardingStrikes ≤ 3
  few      : 1 ≤ c.fewSeats ∧ c.fewSeats ≤ 99
  filling  : 1 ≤ c.fillingPercent ∧ c.fillingPercent ≤ 99
  exact    : c.exactLimit ≤ 999
  step     : 1 ≤ c.step ∧ c.step ≤ 100
  ellipsis : c.ellipsis ≠ 0
  dwell    : 2 ≤ c.dwell ∧ c.dwell ≤ 30

/-- The ranges of an occupied show record (R58). -/
structure Show.InRange (w : Show) : Prop where
  auditorium : 1 ≤ w.auditorium ∧ w.auditorium ≤ 24
  title      : w.title ≤ 63
  start      : w.start ≤ 2879
  runtime    : 1 ≤ w.runtime ∧ w.runtime ≤ 360
  lead       : w.lead ≤ 60
  close      : w.closeOffset ≤ 60 ∧ w.closeOffset ≤ w.grace
  grace      : w.grace ≤ 120
  capacity   : 1 ≤ w.capacity ∧ w.capacity ≤ 999
  listing    : w.listingClass ≤ 3
  badges     : w.badges.length ≤ 3 ∧ (0 : Byte) ∉ w.badges

/-- A show record: zeroed while VACANT, in its ranges while occupied (R58). -/
def Show.Fits (w : Show) : Prop := if w.state = .vacant then w = Show.vacant else w.InRange

/-- The ranges of a title record (R59). -/
structure Title.Fits (t : Title) : Prop where
  length : t.text.length ≤ 32
  codes  : (0 : Byte) ∉ t.text
  rating : t.rating ≠ some 0

/-- The ranges of a notice's fields other than its text (R106). -/
structure Notice.FieldsFit (n : Notice) : Prop where
  strikes  : n.strikes ≤ 3
  lifetime : n.lifetime ≤ 3600
  target   : n.target ≠ 0
  takeover : n.takeover = true → n.cls = .urgent
  codes    : (0 : Byte) ∉ n.text

/-- The ranges of a live notice (R106). -/
structure Notice.Fits (n : Notice) : Prop where
  fields : n.FieldsFit
  length : 1 ≤ n.text.length ∧ n.text.length ≤ 80

/-- The ranges of a partial post: 32 codes before fragment 1, 56 before fragment 2, and more declared (R108 to R110). -/
structure PartialPost.Fits (p : PartialPost) : Prop where
  fields   : p.notice.FieldsFit
  held     : (p.expected = 1 ∧ p.notice.text.length = 32) ∨ (p.expected = 2 ∧ p.notice.text.length = 56)
  declared : p.notice.text.length < p.declared ∧ p.declared ≤ 80

/-- The ranges of a chime line, and a line in LEVEL with no pattern and no request (R124). -/
structure ChimeLine.Fits (l : ChimeLine) : Prop where
  level    : l.mode = .level → l.pattern = none ∧ l.requests = []
  requests : l.requests.length ≤ 4
  strikes  : ∀ n ∈ l.requests, 1 ≤ n ∧ n ≤ 3
  pattern  : ∀ p, l.pattern = some p → (1 ≤ p.strikesLeft ∧ p.strikesLeft ≤ 3) ∧ 1 ≤ p.countdown ∧ p.countdown ≤ 4

/-- The ranges of a template (R142), with a run at a field of every kind (log 13). -/
structure Template.Fits (t : Template) : Prop where
  count  : t.fields.length ≤ 8
  pool   : t.pool.length ≤ 16 ∧ (0 : Byte) ∉ t.pool
  widths : ∀ f ∈ t.fields, 1 ≤ f.width ∧ f.width ≤ 160
  runs   : ∀ f ∈ t.fields, f.runFirst ≤ 15 ∧ 1 ≤ f.runLength ∧ f.runLength ≤ 16 ∧
    (f.kind = .literal → f.runFirst + f.runLength ≤ t.pool.length)

/-- The ranges of a layout record (R149). -/
structure Layout.Fits (l : Layout) : Prop where
  base  : l.tileBase ≤ 147
  count : l.regionCount ≤ 8

/-- The upper ends of the ranges of a region record's fields (R150); a record that nothing has written has size 0. -/
structure Region.Fits (g : Region) : Prop where
  place    : g.column ≤ 79 ∧ g.row ≤ 44
  size     : g.width ≤ 80 ∧ g.height ≤ 45
  template : g.template ≤ 31

/-- The ranges of what a staged directive carries (R24, R149, R150). -/
def Staged.Fits (x : Staged) : Prop :=
  match x.body with
  | .writeLayout _ l => l.Fits
  | .writeRegion _ g => g.Fits
  | .displayMode _ _ => True
  | .selectLayout _ _ => True
  | .selectProgram _ _ => True
  | .displayMasks _ _ _ => True
  | .writePalette _ _ => True
  | .writeGlyph _ _ => True

/-- No tile text, and no text in the render engine, is longer than 160 codes (R147). -/
structure Formatter.TextsFit (f : Formatter) : Prop where
  tiles  : ∀ u : TileNo, (f.tiles.read u).committed.length ≤ 160 ∧ (f.tiles.read u).pendingText.length ≤ 160
  engine : ∀ r, f.engine = some r → r.text.length ≤ 160

/-- Settings, shows, titles, notices, the post buffer, the chime lines, the desks, templates, layouts and regions, with the
staged ones, and the tile texts are in their ranges. -/
structure State.RecordsFit (s : State) : Prop where
  settings : s.settings.Fits
  shows    : ∀ x : Slot, (s.showOf x).Fits
  titles   : ∀ i : Fin 64, (s.board.titles.read i).Fits
  templates : ∀ i : Fin 32, (s.fmt.templates.read i).Fits
  layouts  : ∀ l : LayoutNo, (s.comp.layouts.read l).Fits
  regions  : ∀ i : Fin 128, (s.comp.regions.read i).Fits
  staged   : ∀ x ∈ s.dir.staging, x.Fits
  texts    : s.fmt.TextsFit
  notices  : ∀ n ∈ s.notice.queue, n.Fits
  post     : ∀ p, s.notice.post = some p → p.Fits
  chimes   : ∀ i : Fin 2, (s.notice.chimes.read i).Fits
  desks    : ∀ k : Fin 16, (s.tally.desks.read k).repeats ≤ 255

/-! ### A safe state -/

/-- All the invariants together. -/
structure State.Safe (s : State) : Prop where
  feed     : s.feed.Coherent
  dir      : s.dir.InRange
  reports  : s.rep.Coherent
  clock    : s.clock.InRange
  ordered  : s.board.Ordered
  clashes  : s.board.NoClash
  tallies  : s.TalliesFit
  notices  : s.NoticesFit
  renders  : s.fmt.Coherent
  ranges   : s.comp.RangesFit
  pages    : s.comp.PagesFit
  modes    : s.ModesLegal
  records  : s.RecordsFit

/-! ### What a command leaves alone -/

/-- The blocks of the state. -/
inductive Block where
  | feed | dir | rep | clock | divider | settings | board | tally | notice | fmt | comp | sense
  deriving DecidableEq, Repr

/-- Every block outside a list, and the queue of commands, is the same in two states. -/
structure SameBut (ks : List Block) (s t : State) : Prop where
  feed     : Block.feed ∉ ks → t.feed = s.feed
  dir      : Block.dir ∉ ks → t.dir = s.dir
  rep      : Block.rep ∉ ks → t.rep = s.rep
  clock    : Block.clock ∉ ks → t.clock = s.clock
  divider  : Block.divider ∉ ks → t.divider = s.divider
  settings : Block.settings ∉ ks → t.settings = s.settings
  board    : Block.board ∉ ks → t.board = s.board
  tally    : Block.tally ∉ ks → t.tally = s.tally
  notice   : Block.notice ∉ ks → t.notice = s.notice
  fmt      : Block.fmt ∉ ks → t.fmt = s.fmt
  comp     : Block.comp ∉ ks → t.comp = s.comp
  sense    : Block.sense ∉ ks → t.sense = s.sense
  pending  : t.pending = s.pending

/-- What dirty marks and the render starts that they cause leave alone in the tile formatter (R131, R135, R137): the
templates, the sweep pointer, the render in flight, and every tile's committed text, pending text, ready flag and binding. -/
structure Formatter.MarkedFrom (f g : Formatter) : Prop where
  templates : g.templates = f.templates
  sweep     : g.sweep = f.sweep
  engine    : ∀ r, f.engine = some r → g.engine = some r
  tiles     : ∀ t : TileNo,
    (g.tiles.read t).committed = (f.tiles.read t).committed ∧
    (g.tiles.read t).pendingText = (f.tiles.read t).pendingText ∧
    (g.tiles.read t).ready = (f.tiles.read t).ready ∧
    (g.tiles.read t).binding = (f.tiles.read t).binding

/-- No grant can be made before the lane or the upstream ready changes: the lane is SENDING, or the upstream ready is not
given (R36). -/
def ReportUnit.Quiet (r : ReportUnit) : Prop := r.lane = .idle → r.upstreamReady = false

/-- The report side with nothing taken away: flags are set and reports are queued, and no more (R30, R32, R34). -/
structure ReportUnit.GrownFrom (r r' : ReportUnit) : Prop where
  mask     : r'.mask = r.mask
  chain    : r'.chain = r.chain
  lane     : r'.lane = r.lane
  winner   : r'.lastWinner = r.lastWinner
  ready    : r'.upstreamReady = r.upstreamReady
  flags    : ∀ f : AttentionFlag, f.isIn r.flags = true → f.isIn r'.flags = true
  queue    : r.queue <+: r'.queue

/-- What a command whose only marks and reports are consequences leaves alone: the blocks outside the list, the parts of the
formatter that marks do not touch, and, while no grant can be made, everything the report side held. -/
structure State.Leaves (ks : List Block) (s t : State) : Prop where
  blocks  : SameBut ks s t
  tiles   : s.fmt.MarkedFrom t.fmt
  reports : s.rep.Quiet → s.rep.GrownFrom t.rep

/-! ### Refusals (R19) and the directives of the commands -/

/-- A directive is refused: the count, the record and REFUSED, with the span prefix consumed and nothing else changed
(R19, R20). -/
structure State.Refused (s t : State) (kind tag : Byte) (reason : Reason) : Prop where
  dir     : t.dir = { s.dir with
    span := none
    refusalCount := min 65535 (s.dir.refusalCount + 1)
    lastRefusal := some { kind := kind, tag := tag, reason := reason } }
  flag    : s.rep.Quiet → AttentionFlag.refused.isIn t.rep.flags = true
  reports : s.rep.Quiet → s.rep.GrownFrom t.rep
  blocks  : SameBut [.dir, .rep] s t

/-- The command of a directive kind. A WRITE ENTRY and a POST NOTICE have several rows, which act alike (log 9); one of them
stands here. -/
def DirectiveKind.command (k : DirectiveKind) (tag : Byte) (payload : List Byte) : Instr :=
  match k with
  | .markTime => .markTime tag payload
  | .openDay => .openDay tag payload
  | .closeDay => .closeDay tag payload
  | .sale => .sale tag payload
  | .acknowledgeBand => .acknowledgeBand tag payload
  | .postNotice => .postNoticeFragment0 tag payload
  | .withdrawNotice => .withdrawNotice tag payload
  | .driveChimeLine => .driveChimeLine tag payload
  | .setCursor => .setCursor tag payload
  | .writeEntry => .writeEntryShow tag payload
  | .readEntries => .readEntries tag payload
  | .requestStatus => .requestStatus tag payload
  | .setAttentionMask => .setAttentionMask tag payload
  | .span => .span tag payload
  | .restart => .restart tag payload
  | .setDisplayMode => .setDisplayMode tag payload
  | .selectLayout => .selectLayout tag payload
  | .selectProgram => .selectProgram tag payload
  | .setDisplayMasks => .setDisplayMasks tag payload

/-- The payload length of a directive kind that has one length (R181). -/
def DirectiveKind.payloadLength : DirectiveKind → Option Nat
  | .markTime => some 3
  | .openDay => some 4
  | .closeDay => some 0
  | .sale => some 4
  | .acknowledgeBand => some 2
  | .postNotice => none
  | .withdrawNotice => some 1
  | .driveChimeLine => some 4
  | .setCursor => some 2
  | .writeEntry => none
  | .readEntries => some 1
  | .requestStatus => some 0
  | .setAttentionMask => some 2
  | .span => some 1
  | .restart => some 0
  | .setDisplayMode => some 2
  | .selectLayout => some 2
  | .selectProgram => some 2
  | .setDisplayMasks => some 3

/-! ### Losses of lock and output frames (R4, R6, R12 to R14, R29) -/

/-- The compositor with nothing but its ports changed. -/
def Compositor.SameButPorts (c c' : Compositor) : Prop := c' = { c with ports := c'.ports }

/-- What every loss of lock does at the directive unit and at the output frame in progress (R14, R29), and what it leaves
alone. -/
structure State.LosesLock (s t : State) : Prop where
  staging  : t.dir.staging = s.dir.staging.filter fun x => x.mark == .closed
  cursor   : t.dir.cursor = s.dir.restorePoint.getD s.dir.cursor
  restore  : t.dir.restorePoint = none
  span     : t.dir.span = none
  refusals : t.dir.refusalCount = s.dir.refusalCount ∧ t.dir.lastRefusal = s.dir.lastRefusal
  output   : t.feed.output =
    match s.feed.output with
    | .feed k => if k < 1080 then .completing k else .closed
    | .closed => .closed
    | .completing k => .completing k
    | .flywheel k => .flywheel k
  flags    : s.rep.Quiet →
    AttentionFlag.feedLost.isIn t.rep.flags = true ∧
    ((∃ x ∈ s.dir.staging, x.mark = .current) → AttentionFlag.stageDrop.isIn t.rep.flags = true)
  reports  : s.rep.Quiet → s.rep.GrownFrom t.rep
  screens  : s.comp.SameButPorts t.comp
  blocks   : SameBut [.feed, .dir, .rep, .comp] s t

/-- Does a command bring an output frame start? A flywheel frame start outside LOCKED with no feed frame being completed
(R13); a frame start taken in BETWEEN in LOCKED, or completing lock acquisition (R12). -/
def State.startsOutput (s : State) (c : Instr) : Prop :=
  (∃ b, c = .flywheelFrameStart b ∧ s.feed.lock ≠ .locked ∧ ∀ k, s.feed.output ≠ .feed k ∧ s.feed.output ≠ .completing k) ∨
  (∃ n l b, c = .frameStart n l b ∧
    ((s.feed.lock = .locked ∧ s.feed.record.phase = .between) ∨
     (s.feed.lock = .search ∧ s.feed.candidate = .complete ∧ n = s.feed.record.count + 1)))

/-! ### Evaluations and boarding notices (R56, R68 to R73, R107, R112, R114) -/

/-- What an evaluation at a minute makes of the record of an occupied, unretired show (R68, R70). -/
def Show.evaluatedAt (w : Show) (m : Nat) : Show := { w with
  state := if w.start + w.grace ≤ m then .retired
    else if w.start ≤ m then .started
    else if w.start - w.lead ≤ m ∧ w.state = .listed then .boarding else w.state
  salesClosed := w.salesClosed || decide (w.start + w.closeOffset ≤ m) }

/-- The board at a minute boundary that finds it evaluating (R56, R69): where the next due minute has come, every occupied,
unretired show is evaluated at the minute and the next due minute is recomputed; elsewhere the board stays. -/
structure State.EvaluatesBoard (s t : State) (m : Nat) : Prop where
  due   : ∀ due, s.board.nextDue = some due → due ≤ m →
    (∀ x : Slot, t.showOf x =
      if (s.showOf x).state = .vacant ∨ (s.showOf x).state = .retired then s.showOf x else (s.showOf x).evaluatedAt m) ∧
    t.board.nextDue = nextDueOf t.board.shows ∧ t.board.titles = s.board.titles
  early : (∀ due, s.board.nextDue = some due → m < due) → t.board = s.board

/-- A notice queue with a new notice placed (R107, R112): it joins at the end of its class, at a full queue in place of a
tail of a strictly lower class; none where the placement fails. -/
def queueWith (q : List Notice) (n : Notice) : Option (List Notice) :=
  let join (kept : List Notice) : List Notice :=
    (kept.filter fun m => m.cls.code ≤ n.cls.code) ++ [n] ++ kept.filter fun m => n.cls.code < m.cls.code
  if q.length < 32 then some (join q)
  else
    match q.getLast? with
    | some tail => if n.cls.code < tail.cls.code then some (join q.dropLast) else none
    | none => none

/-- The chime and wake requests of a notice's placement (R114, R123, R125). -/
structure State.CallsFor (s t : State) (n : Notice) : Prop where
  wake   : ∀ d : DisplayNo, t.notice.wake.getLsbD d.val =
    (s.notice.wake.getLsbD d.val || (n.target.getLsbD d.val && (s.display d).darkWake.getLsbD n.cls.code))
  chimes : ∀ i : Fin 2,
    let l := s.notice.chimes.read i
    t.notice.chimes.read i =
      if ((n.cls = .urgent ∧ i = 0) ∨ ((n.cls = .show ∨ n.cls = .desk) ∧ i = 1)) ∧ 1 ≤ n.strikes ∧ l.mode = .tone ∧
          l.requests.length < 4 then
        { l with requests := l.requests ++ [n.strikes] }
      else l

/-! ### Notice changes at the tickers (R119, R164) -/

/-- What a notice change makes of a ticker of a display concerned, with the display's eligible list after the event (R164). -/
def Ticker.judged (k : Ticker) (list : List Notice) (dwell : Nat) : Ticker :=
  let first : Ticker :=
    { k with current := list.head?.map Notice.id, countdown := if list = [] then 0 else dwell }
  match k.running, k.current with
  | false, _ => k
  | true, some id => if ∃ n ∈ list, n.id = id then k else first
  | true, none => if list = [] then k else first

/-- The tickers after one notice change: those of the displays concerned are judged by the queue that the event leaves
(R119, R164). -/
def State.TickersJudged (s t : State) (concerned : DisplayNo → Bool) : Prop :=
  ∀ d : DisplayNo,
    let k := s.comp.tickers.read d
    t.comp.tickers.read d =
      if concerned d = true then k.judged (eligibleNotices t.notice.queue d k.classes) s.settings.dwell else k

/-! ### Takeover notices and ticker regions (R122, R152) -/

/-- Does a notice take a display over? URGENT, with takeover set, targeting the display (R122). -/
def Notice.TakesOver (n : Notice) (d : DisplayNo) : Prop :=
  n.cls = .urgent ∧ n.takeover = true ∧ n.target.getLsbD d.val = true

/-- A notice is the first of a queue that takes a display over (R122). -/
def FirstTakeover (q : List Notice) (d : DisplayNo) (n : Notice) : Prop :=
  ∃ i : Nat, q[i]? = some n ∧ n.TakesOver d ∧ ∀ (j : Nat) (m : Notice), j < i → q[j]? = some m → ¬ m.TakesOver d

/-- A region acts as a TICKER: below the region count, of that kind (R149, R152). -/
def Compositor.ActsAsTicker (c : Compositor) (l : LayoutNo) (r : RegionNo) : Prop :=
  r.val < (c.layouts.read l).regionCount ∧ (c.region l r).kind = .ticker

/-- A region is its layout's ticker region: the first that acts as a TICKER (R152). -/
def Compositor.FirstTicker (c : Compositor) (l : LayoutNo) (r : RegionNo) : Prop :=
  c.ActsAsTicker l r ∧ ∀ q : RegionNo, q < r → ¬ c.ActsAsTicker l q

/-! ### The row that a render finds (R137, R140, R141, R146) -/

/-- A space row of a width, with a bound source (R146). -/
def RowBuild.Blank (row : RowBuild) (w : Nat) (bound : Option BoundSource) : Prop :=
  row = { text := List.replicate w 32, bound := bound, minutes := none }

/-- The row of template n and a slot: the text from the slot's records, the slot as the bound source, and as the minutes
shown the slot's MINUTES value, or blank where the template holds no MINUTES field (R137, R143). -/
structure State.ShowsSlot (s : State) (n : Nat) (x : Slot) (w : Nat) (row : RowBuild) : Prop where
  text    : ∀ (i : Fin 32) (j : Fin 64), i.val = n → j.val = (s.showOf x).title →
    row.text = buildRow s.settings s.clock
      { show? := some (s.showOf x, s.tallyOf x, s.board.titles.read j), notice := [] } (s.fmt.templates.read i) w
  bound   : row.bound = some (.slot x)
  minutes : ∀ i : Fin 32, i.val = n → row.minutes =
    if (∃ f ∈ (s.fmt.templates.read i).fields, f.kind = .minutes) ∧
        ((s.showOf x).state = .listed ∨ (s.showOf x).state = .boarding) ∧
        (s.clock.state = .running ∨ s.clock.state = .holdover) then
      some (min 999 ((s.showOf x).start - s.clock.minute))
    else none

/-- The row of a layout tile, by the kind of its binding's region (R140): the eligible show at page index × height + row for
LISTING; the fixed slot, or the first slot of the listing order that is LISTED or BOARDING in the auditorium, for CARD, with
template reference + row; the clock for CLOCK. -/
structure State.LayoutRowIs (s : State) (b : Binding) (row : RowBuild) : Prop where
  listing : let g := s.comp.region b.layout b.region
    let shown := (s.board.eligible g)[(s.page b.layout b.region).index * g.height + b.row]?
    g.kind = .listing → g.template ≤ 31 →
      (∀ x, shown = some x → s.ShowsSlot g.template x (2 * g.width) row) ∧ (shown = none → row.Blank (2 * g.width) none)
  fixed   : let g := s.comp.region b.layout b.region
    let n := g.template + b.row
    ∀ x : Slot, g.kind = .card → g.k0 = 0 → x.val = g.k1.toNat →
      ((s.showOf x).state ≠ .vacant → n ≤ 31 → s.ShowsSlot n x (2 * g.width) row) ∧
      ((s.showOf x).state = .vacant ∨ 31 < n → row.Blank (2 * g.width) (some (.slot x)))
  next    : let g := s.comp.region b.layout b.region
    let n := g.template + b.row
    let serves (x : Slot) : Prop := (s.showOf x).auditorium = g.k1.toNat ∧
      ((s.showOf x).state = .listed ∨ (s.showOf x).state = .boarding)
    g.kind = .card → g.k0 = 1 → 1 ≤ g.k1.toNat → g.k1.toNat ≤ 24 →
      (∀ (i : Nat) (x : Slot), s.board.order[i]? = some x → serves x →
        (∀ j y, j < i → s.board.order[j]? = some y → ¬ serves y) → n ≤ 31 → s.ShowsSlot n x (2 * g.width) row) ∧
      ((∀ x ∈ s.board.order, ¬ serves x) ∨ 31 < n → row.Blank (2 * g.width) none)
  clock   : let g := s.comp.region b.layout b.region
    ∀ i : Fin 32, g.kind = .clock → i.val = g.template →
      row.text = buildRow s.settings s.clock { show? := none, notice := [] } (s.fmt.templates.read i) (2 * g.width) ∧
      row.bound = none ∧ row.minutes = none

/-- A row that shows a notice in a text (R141). -/
def RowBuild.ShowsNotice (row : RowBuild) (n : Notice) (text : List Byte) : Prop :=
  row = { text := text, bound := some (.notice n.id), minutes := none }

/-- The row of the notice tile of a display, by the display's mode (R141): the takeover notice that the queue gives at the
render (DEDUCED: log 17), centred; the ticker's current notice, at the left; the TICKER region's template with that notice;
a space row where there is none. -/
structure State.NoticeRowIs (s : State) (d : DisplayNo) (row : RowBuild) : Prop where
  takeover : (s.display d).mode = .takeover →
    (∀ n, FirstTakeover s.notice.queue d n → row.ShowsNotice n (fitText s.settings.ellipsis .centre 160 n.text)) ∧
    ((∀ n ∈ s.notice.queue, ¬ n.TakesOver d) → row.Blank 160 none)
  attract  : let current := (s.comp.tickers.read d).current
    (s.display d).mode = .attract →
    (∀ n ∈ s.notice.queue, current = some n.id → row.ShowsNotice n (fitText s.settings.ellipsis .left 160 n.text)) ∧
    ((∀ n ∈ s.notice.queue, current ≠ some n.id) → row.Blank 160 none)
  live     : let current := (s.comp.tickers.read d).current
    ∀ (r : RegionNo) (i : Fin 32), (s.display d).mode = .live → s.comp.FirstTicker (s.display d).layout r →
      let g := s.comp.region (s.display d).layout r
      i.val = g.template →
      (∀ n ∈ s.notice.queue, current = some n.id → row.ShowsNotice n
        (buildRow s.settings s.clock { show? := none, notice := n.text } (s.fmt.templates.read i) (2 * g.width))) ∧
      ((∀ n ∈ s.notice.queue, current ≠ some n.id) → row.Blank (2 * g.width) none)
  other    : (s.display d).mode = .dark ∨
      ((s.display d).mode = .live ∧ ∀ r : RegionNo, ¬ s.comp.ActsAsTicker (s.display d).layout r) →
    row.Blank 160 none

/-- The row that a render of a tile finds (R137): a layout tile's by its binding (R140), a notice tile's by its display
(R141). -/
structure State.RowIs (s : State) (u : TileNo) (row : RowBuild) : Prop where
  layout : u.val < 148 → ∀ b, (s.fmt.tiles.read u).binding = some b → s.LayoutRowIs b row
  notice : ∀ d : DisplayNo, u.val = 148 + d.val → s.NoticeRowIs d row

/-! ### What follows from the layout and region records (R151 to R155) -/

/-- The text rows of a region: its declared height where it acts as LISTING, CARD or CLOCK, else none (R151, R152). -/
def Compositor.rowsOf (c : Compositor) (l : LayoutNo) (r : RegionNo) : Nat :=
  if r.val < (c.layouts.read l).regionCount ∧
      ((c.region l r).kind = .listing ∨ (c.region l r).kind = .card ∨ (c.region l r).kind = .clock) then
    (c.region l r).height
  else 0

/-- The tile that serves the first row of a region: the tile base and the text rows of the regions before it (R152). -/
def Compositor.firstTileOf (c : Compositor) (l : LayoutNo) (r : RegionNo) : Nat :=
  (c.layouts.read l).tileBase + (((List.finRange 8).filter fun q => q < r).map (c.rowsOf l)).sum

/-- The tile number past the last text row of a layout (R152). -/
def Compositor.pastTiles (c : Compositor) (l : LayoutNo) : Nat :=
  (c.layouts.read l).tileBase + ((List.finRange 8).map (c.rowsOf l)).sum

/-- What the records of a layout say of its tiles and of its selectors (R152 to R155): the tile range and the binding of each
tile in it, the tile of a row, a range that meets another, the users, and the bounds and overlap checks of a write. -/
structure Compositor.LayoutReads (c : Compositor) (l : LayoutNo) : Prop where
  tiles   : ∀ u : TileNo, c.inRange l u = true ↔
    (c.layouts.read l).tileBase ≤ u.val ∧ u.val < c.pastTiles l ∧ u.val < 148
  binding : ∀ (u : TileNo) (b : Binding), c.bindingAt l u = some b ↔
    b.layout = l ∧ b.row < c.rowsOf l b.region ∧ u.val = c.firstTileOf l b.region + b.row ∧ u.val < 148
  serving : ∀ (r : RegionNo) (k : Nat) (u : TileNo), c.rowTile l r k = some u ↔
    k < c.rowsOf l r ∧ u.val = c.firstTileOf l r + k ∧ u.val < 148
  meets   : ∀ m : LayoutNo, c.rangesMeet l m = true ↔ ∃ u : TileNo, c.inRange l u = true ∧ c.inRange m u = true
  users   : c.users l = ((List.finRange 12).filter fun d => (c.displays.read d).layout == l).length
  selected : c.selected l = true ↔ ∃ d : DisplayNo, (c.displays.read d).layout = l
  bounds  : c.inBounds l = true ↔ c.pastTiles l ≤ 148
  writes  : c.writePasses l = true ↔ c.pastTiles l ≤ 148 ∧
    ∀ d e : DisplayNo, (c.displays.read d).layout = l → (c.displays.read e).layout ≠ l →
      c.rangesMeet l (c.displays.read e).layout = false

/-! ### Dirty marks (R131, R135, R137) -/

/-- The CLEAN tiles of a condition, in ascending tile number: those that its marks make DIRTY (R131). -/
def Formatter.roused (f : Formatter) (p : TileNo → Bool) : List TileNo :=
  (List.finRange 160).filter fun u => p u && (f.tiles.read u).state == .clean

/-- The tile whose render starts at the marks of a condition: the first one roused, where the engine is idle (R135). -/
def Formatter.starts (f : Formatter) (p : TileNo → Bool) : Option TileNo :=
  match f.engine with
  | none => (f.roused p).head?
  | some _ => none

/-- The tiles that would wait in the render queue after the marks of a condition, had it room for all (R135). -/
def Formatter.waits (f : Formatter) (p : TileNo → Bool) : List TileNo :=
  match f.engine with
  | none => (f.roused p).tail
  | some _ => f.queue ++ f.roused p

/-- What the dirty marks of one event do, at the tiles of a condition and at every other (R131, R135, R137): a CLEAN tile
starts, or joins the queue while it holds fewer than 16, or stays DIRTY with RENDER_BACKLOG set; a RENDERING tile is made
stale; every other tile stays. What State.renderRow finds is said by State.RowIs. -/
structure State.Marks (s t : State) (p : TileNo → Bool) : Prop where
  queue   : t.fmt.queue = (s.fmt.waits p).take 16
  engine  : t.fmt.engine =
    match s.fmt.engine with
    | some r => some r
    | none => (s.fmt.starts p).map fun u => { tile := u, text := (s.renderRow u).text }
  tiles   : ∀ u : TileNo, t.fmt.tiles.read u =
    let x := s.fmt.tiles.read u
    if p u = false then x
    else if x.state = .rendering then { x with stale := true }
    else if x.state ≠ .clean then x
    else if s.fmt.starts p = some u then
      { x with state := .rendering, stale := false, released := false, bound := (s.renderRow u).bound
               minutes := (s.renderRow u).minutes }
    else if u ∈ (s.fmt.waits p).take 16 then { x with state := .queued }
    else { x with state := .dirty }
  backlog : if (s.fmt.waits p).length ≤ 16 then t.rep = s.rep
    else s.rep.Quiet → AttentionFlag.renderBacklog.isIn t.rep.flags = true ∧ s.rep.GrownFrom t.rep
  others  : t.fmt.templates = s.fmt.templates ∧ t.fmt.sweep = s.fmt.sweep
  blocks  : SameBut [.rep, .fmt] s t

/-- A tile in use that one or more marks have reached: it waits to be rendered, is rendered from now on, or has its render
made stale (R131). -/
def Tile.Remade (x y : Tile) : Prop :=
  x.state ≠ .idle → y.state ≠ .idle ∧ y.state ≠ .clean ∧ (x.state = .rendering → y.stale = true)

/-! ### Bindings and releases at an output frame start (R129, R130, R139) -/

/-- A tile that an output frame start binds: in use and to be rendered; a render in flight is stale and not released
(R129). -/
def Tile.Entered (x y : Tile) : Prop :=
  y.state ≠ .idle ∧ y.state ≠ .clean ∧
  (x.state = .rendering → y.state = .rendering ∧ y.stale = true ∧ y.released = false)

/-- A tile that an output frame start releases: not ready, and IDLE unless its render is in flight (R130). -/
def Tile.Left (x y : Tile) : Prop :=
  y.ready = false ∧ (x.state = .rendering → y.state = .rendering ∧ y.released = true) ∧
  (x.state ≠ .rendering → y.state = .idle)

/-- A tile that an output frame start only commits (R139). -/
def Tile.committedTile (x : Tile) : Tile :=
  if x.ready = true then { x with committed := x.pendingText, ready := false } else x

/-! ### Staged directives that land together (R28, R153, R154, R167 to R169) -/

/-- SELECT LAYOUT at one display, with a count of the refusals (R154). -/
def Compositor.selectedAt (l : LayoutNo) (p : Compositor × Nat) (d : DisplayNo) : Compositor × Nat :=
  if p.1.selectionMeets d l then (p.1, p.2 + 1)
  else ({ p.1 with displays := p.1.displays.write d { p.1.displays.read d with layout := l } }, p.2)

/-- The compositor's records after one staged directive, with a count of the TILE_RANGE refusals (R153, R154, R168, R169).
The tiles and pages of R156 are another matter. -/
def Compositor.landed (p : Compositor × Nat) (x : Staged) : Compositor × Nat :=
  let c := p.1
  let each (ds : List DisplayNo) (f : Display → Display) : Compositor :=
    { c with displays := ds.foldl (fun t d => t.write d (f (t.read d))) c.displays }
  match x.body with
  | .displayMode ds m => (each ds fun y => if y.mode = .takeover then { y with saved := m } else { y with mode := m }, p.2)
  | .selectLayout ds l => ds.foldl (Compositor.selectedAt l) p
  | .selectProgram ds lane => (each ds fun y => { y with lane := lane }, p.2)
  | .displayMasks ds a w => (each ds fun y => { y with attractPass := a, darkWake := w }, p.2)
  | .writeLayout l img =>
    let v := { c with layouts := c.layouts.write l img }
    if v.writePasses l then (v, p.2) else (c, p.2 + 1)
  | .writeRegion i img =>
    let v := { c with regions := c.regions.write i img }
    if v.writePasses (regionLayout i) then (v, p.2) else (c, p.2 + 1)
  | .writePalette k colour => ({ c with palette := c.palette.write k colour }, p.2)
  | .writeGlyph k glyph => ({ c with glyphs := c.glyphs.write k glyph }, p.2)

/-- The directives that the next output frame start takes: those marked CLOSED, in staging order (R28). -/
def State.handedOver (s : State) : List Staged := s.dir.staging.filter fun x => x.mark == .closed

/-- Does a staged directive write a LAYOUT or REGION entry? -/
def Staged.writesLayout (x : Staged) : Bool :=
  match x.body with
  | .writeLayout _ _ => true
  | .writeRegion _ _ => true
  | .displayMode _ _ => false
  | .selectLayout _ _ => false
  | .selectProgram _ _ => false
  | .displayMasks _ _ _ => false
  | .writePalette _ _ => false
  | .writeGlyph _ _ => false

/-! ### Images that decoding refuses (R61, R150) -/

/-- A SHOW image with present 1 that breaks a range, or one with another present byte (R58, R61, R184). No state byte breaks
one: DEDUCED (log 15). -/
def BadShowImage (img : List Byte) : Prop :=
  let at' (i : Nat) : Nat := (imageByte img i).toNat
  let half' (i : Nat) : Nat := half (imageByte img i) (imageByte img (i + 1))
  1 < at' 0 ∨
  (at' 0 = 1 ∧
    (at' 2 = 0 ∨ 24 < at' 2 ∨ 63 < at' 3 ∨ 2879 < half' 4 ∨ half' 6 = 0 ∨ 360 < half' 6 ∨ 60 < at' 8 ∨ 60 < at' 9 ∨
     120 < at' 10 ∨ at' 10 < at' 9 ∨ half' 11 = 0 ∨ 999 < half' 11 ∨ 3 < at' 13 ∨ 7 < at' 14 ∨ 3 < at' 15 ∨
     ∃ i, i < at' 15 ∧ at' (16 + i) = 0))

/-- A REGION image that breaks a range, or has a code that is not assigned (R150, R182, R184; log 12, log 39). -/
def BadRegionImage (img : List Byte) : Prop :=
  let at' (i : Nat) : Nat := (imageByte img i).toNat
  5 < at' 0 ∨ 79 < at' 1 ∨ 44 < at' 2 ∨ at' 3 = 0 ∨ 80 < at' 3 ∨ at' 4 = 0 ∨ 45 < at' 4 ∨ 15 < at' 5 ∨ 15 < at' 6 ∨
  31 < at' 7 ∨
  (at' 0 = 0 ∧ (at' 8 = 4 ∨ 5 < at' 8)) ∨
  (at' 0 = 1 ∧ (15 < at' 8 ∨ at' 9 = 0 ∨ 24 < at' 9 ∨ at' 10 = 0 ∨ 24 < at' 10 ∨ at' 10 < at' 9 ∨ 1 < at' 11 ∨
    60 < at' 12)) ∨
  (at' 0 = 2 ∧ (1 < at' 8 ∨ (at' 8 = 0 ∧ 95 < at' 9) ∨ (at' 8 = 1 ∧ (at' 9 = 0 ∨ 24 < at' 9)))) ∨
  (at' 0 = 3 ∧ 15 < at' 8)

/-- A TITLE image that breaks a range (R59, R184). -/
def BadTitleImage (img : List Byte) : Prop :=
  let at' (i : Nat) : Nat := (imageByte img i).toNat
  32 < at' 0 ∨ 1 < at' 1 ∨ (at' 1 = 1 ∧ at' 2 = 0) ∨ ∃ i, i < at' 0 ∧ at' (3 + i) = 0

/-- A TEMPLATE image that breaks a range within its field count (R142, R182, R184). -/
def BadTemplateImage (img : List Byte) : Prop :=
  let at' (i : Nat) : Nat := (imageByte img i).toNat
  ∃ j, j < 8 ∧ (∀ i, i ≤ j → at' (3 * i) ≠ 255) ∧
    (12 < at' (3 * j) % 16 ∨ 2 < at' (3 * j) / 16 ∨ at' (3 * j + 1) = 0 ∨ 160 < at' (3 * j + 1) ∨
     (at' (3 * j) % 16 = 12 ∧
      ∃ i, i < at' (3 * j + 2) / 16 + at' (3 * j + 2) % 16 + 1 ∧ (16 ≤ i ∨ at' (24 + i) = 0)))

/-- A SETTINGS image that breaks a range or has a code that is not assigned (R13, R54, R78, R82, R144, R162, R169, R182). -/
def BadSettingsImage (img : List Byte) : Prop :=
  let at' (i : Nat) : Nat := (imageByte img i).toNat
  let half' (i : Nat) : Nat := half (imageByte img i) (imageByte img (i + 1))
  at' 0 ∉ [24, 25, 30, 50, 60] ∨ 1 < at' 1 ∨ 1439 < half' 2 ∨ 3 < at' 6 ∨ at' 7 = 0 ∨ 99 < at' 7 ∨ at' 8 = 0 ∨
  99 < at' 8 ∨ 999 < half' 9 ∨ at' 11 = 0 ∨ 100 < at' 11 ∨ at' 12 = 0 ∨ at' 13 < 2 ∨ 30 < at' 13 ∨
  ∃ i, i < 5 ∧ 15 < at' (14 + i)

/-- The two's complement value of a two-byte field (R180). -/
def signedField (hi lo : Byte) : Int := if half hi lo < 32768 then (half hi lo : Int) else (half hi lo : Int) - 65536

/-- A TALLY image that breaks a range or has a code that is not assigned, at a show of a capacity (R80, R100, R182; log 14). -/
def BadTallyImage (capacity : Nat) (img : List Byte) : Prop :=
  let at' (i : Nat) : Nat := (imageByte img i).toNat
  let net := signedField (imageByte img 3) (imageByte img 4)
  capacity < half (imageByte img 0) (imageByte img 1) ∨ at' 2 = 128 ∨ net < -9999 ∨ 9999 < net ∨ 1 < at' 5 ∨ 3 < at' 6 ∨
  3 < at' 7 ∨ 3 < at' 8 ∨ 4 < at' 9

/-! ### What an entry image spells (R180, R182, R184)

Each of these says, byte by byte, that an image spells a record, of an image written and of an image read alike. -/

/-- The SETTINGS image of the settings, with a civil start and a day number (R54, R184). -/
structure Settings.SpelledBy (c : Settings) (civil day : Nat) (img : List Byte) : Prop where
  codes    : (imageByte img 0).toNat = c.cadence.code ∧ (imageByte img 1).toNat = c.timeForm.code
  clock    : half (imageByte img 2) (imageByte img 3) = civil ∧ half (imageByte img 4) (imageByte img 5) = day
  strikes  : (imageByte img 6).toNat = c.boardingStrikes
  bands    : (imageByte img 7).toNat = c.fewSeats ∧ (imageByte img 8).toNat = c.fillingPercent
  exact    : half (imageByte img 9) (imageByte img 10) = c.exactLimit
  step     : (imageByte img 11).toNat = c.step
  ellipsis : imageByte img 12 = c.ellipsis
  dwell    : (imageByte img 13).toNat = c.dwell
  colours  : (imageByte img 14).toNat = c.colours.backdrop.val ∧ (imageByte img 15).toNat = c.colours.takeoverFg.val ∧
    (imageByte img 16).toNat = c.colours.takeoverBg.val ∧ (imageByte img 17).toNat = c.colours.bannerFg.val ∧
    (imageByte img 18).toNat = c.colours.bannerBg.val

/-- The SHOW image of an occupied show's record and tally mode, but for the state and sales-closed bits (R60, R184; that any
state byte is taken is log 15). -/
structure Show.SpelledBy (w : Show) (mode : TallyMode) (img : List Byte) : Prop where
  present  : imageByte img 0 = 1
  place    : (imageByte img 2).toNat = w.auditorium ∧ (imageByte img 3).toNat = w.title
  times    : half (imageByte img 4) (imageByte img 5) = w.start ∧ half (imageByte img 6) (imageByte img 7) = w.runtime
  offsets  : (imageByte img 8).toNat = w.lead ∧ (imageByte img 9).toNat = w.closeOffset ∧ (imageByte img 10).toNat = w.grace
  capacity : half (imageByte img 11) (imageByte img 12) = w.capacity
  listing  : (imageByte img 13).toNat = w.listingClass
  bits     : (imageByte img 14).toNat % 2 = (if w.announce = true then 1 else 0) ∧
    (imageByte img 14).toNat / 4 = if mode = .reconcile then 1 else 0
  badges   : (imageByte img 15).toNat = w.badges.length ∧
    ∀ i, i < w.badges.length → w.badges[i]? = some (imageByte img (16 + i))

/-- The TALLY image of a tally (R104, R184). -/
structure Tally.SpelledBy (t : Tally) (img : List Byte) : Prop where
  remaining : half (imageByte img 0) (imageByte img 1) = t.remaining
  clip      : (imageByte img 2).toInt = t.clip
  net       : signedField (imageByte img 3) (imageByte img 4) = t.net
  mode      : (imageByte img 5).toNat = t.mode.code
  bits      : (imageByte img 6).toNat = (if t.unbalanced = true then 1 else 0) + if t.departed = true then 2 else 0
  bands     : (imageByte img 7).toNat = t.band.code ∧ (imageByte img 8).toNat = t.acked.code
  outcome   : (imageByte img 9).toNat = outcomeCode t.lastOutcome

/-- The TITLE image of a title (R59, R184). -/
structure Title.SpelledBy (t : Title) (img : List Byte) : Prop where
  length : (imageByte img 0).toNat = t.text.length
  rating : match t.rating with
    | some r => imageByte img 1 = 1 ∧ imageByte img 2 = r
    | none => imageByte img 1 = 0
  codes  : ∀ i, i < t.text.length → t.text[i]? = some (imageByte img (3 + i))

/-- The TEMPLATE image of a template: its field records up to the first that opens with FFh, and its literal pool up to the
first 0 (R142, R184). The third byte of a record is its run whatever its kind: DEDUCED (log 13). -/
structure Template.SpelledBy (t : Template) (img : List Byte) : Prop where
  fields : ∀ j, j < t.fields.length → ∃ f, t.fields[j]? = some f ∧
    (imageByte img (3 * j)).toNat = f.kind.code + 16 * f.align.code ∧ (imageByte img (3 * j + 1)).toNat = f.width ∧
    (imageByte img (3 * j + 2)).toNat / 16 = f.runFirst ∧ (imageByte img (3 * j + 2)).toNat % 16 + 1 = f.runLength
  count  : t.fields.length ≤ 8 ∧ (t.fields.length < 8 → imageByte img (3 * t.fields.length) = 0xFF)
  pool   : ∀ i, i < t.pool.length → t.pool[i]? = some (imageByte img (24 + i)) ∧ imageByte img (24 + i) ≠ 0
  length : t.pool.length ≤ 16 ∧ (t.pool.length < 16 → imageByte img (24 + t.pool.length) = 0)

/-- The REGION image of a region, with every kind byte as it was written (R150, R184). -/
structure Region.SpelledBy (g : Region) (img : List Byte) : Prop where
  kind     : (imageByte img 0).toNat = g.kind.code
  place    : (imageByte img 1).toNat = g.column ∧ (imageByte img 2).toNat = g.row
  size     : (imageByte img 3).toNat = g.width ∧ (imageByte img 4).toNat = g.height
  colours  : (imageByte img 5).toNat = g.foreground.val ∧ (imageByte img 6).toNat = g.background.val
  template : (imageByte img 7).toNat = g.template
  bytes    : imageByte img 8 = g.k0 ∧ imageByte img 9 = g.k1 ∧ imageByte img 10 = g.k2 ∧ imageByte img 11 = g.k3 ∧
    imageByte img 12 = g.k4

/-- The GLYPH image of a glyph: pixel p of row r is bit 12 × (r mod 2) + p of group r / 2, the most significant bit of each
byte first (R184). -/
def Glyph.SpelledBy (g : Glyph) (img : List Byte) : Prop :=
  ∀ (r : Fin 24) (p : Fin 12),
    let bit := 12 * (r.val % 2) + p.val
    (g.read r).getMsbD p.val = (imageByte img (3 * (r.val / 2) + bit / 8)).getMsbD (bit % 8)

end Sys2Proof.Machine
end

