-- ==== Sys2Proof/Certificates/Slice0/Obligations.lean ====
section
/-! DEFINITION. The statements for the provers, one Prop each. -/

section
open Sys2Proof Sys2Proof.Machine

/-! ### The machine -/

/-- Step takes the command at the front of the queue and runs it with the queue's rest; on an empty queue the device idles.
The queue and the idling are the model's (log 3, log 31). -/
def Obligations.StepRunsFrontCommand : Prop :=
  (∀ (c : Instr) (rest : List Instr) (s : State),
    step { s with pending := c :: rest } = exec c { s with pending := rest }) ∧
  ∀ s : State, s.pending = [] → step s = .next s

/-- Every command runs in every state, and none touches the queue of commands (section 2.1: the directive unit is not busy
at any time; the other events are taken whole; that an event whose premise fails changes nothing is log 2). -/
def Obligations.EveryCommandRuns : Prop :=
  ∀ (c : Instr) (s : State), ∃ t, exec c s = .next t ∧ t.pending = s.pending

/-! ### Resets -/

/-- The state right after power-on reset meets every invariant, with any straps and any panels; so does State.reset. -/
def Obligations.PowerOnIsSafe : Prop :=
  (∀ (straps : Fin 8) (sense : BitVec 12), (State.powerOn straps sense).Safe) ∧ State.reset.Safe

/-- What POWER_ON_RESET leaves (R16, R39, R57, R79, R105, R127, R148, R165, R179), with the STATUS report queued for
RESTARTED granted at once where the upstream ready is given. That the ready pin and the queue of commands keep their values
is log 28. -/
def Obligations.PowerOnResetValues : Prop :=
  ∀ (straps : Fin 8) (sense : BitVec 12) (s : State), ∃ t, exec (.powerOnReset straps sense) s = .next t ∧
    t.pending = s.pending ∧ t.sense = sense ∧
    (t.feed.lock = .noSignal ∧ t.feed.identity = straps ∧ t.feed.output = .closed ∧
      t.feed.malformedCount = 0 ∧ t.feed.checkFailCount = 0 ∧
      t.feed.record = { phase := .between, count := 0, lanes := LaneMap.none, marginPackets := 0, lineGroups := 0 }) ∧
    t.dir = { staging := [], restorePoint := none, span := none, cursor := { table := .settings, index := some 0 },
              refusalCount := 0, lastRefusal := none } ∧
    t.rep =
      (if s.rep.upstreamReady = true then
        { flags := 0, mask := 1, queue := [], owed := false, chain := [],
          lane := .sending
            (returnPacket straps 0x01 ([0, 1] ++ List.replicate 17 0 ++ [BitVec.ofNat 8 straps.val])),
          lastWinner := .chainSide, upstreamReady := true }
      else
        { flags := 1, mask := 1, queue := [.status], owed := false, chain := [], lane := .idle,
          lastWinner := .chainSide, upstreamReady := false }) ∧
    t.clock = { state := .unset, minute := 0, second := 0, civilStart := 0, dayNumber := 0, sinceMark := 0 } ∧
    t.divider.periods = 2700000 ∧
    t.settings =
      { cadence := .fps30, timeForm := .hour24, boardingStrikes := 1, fewSeats := 20, fillingPercent := 75,
        exactLimit := 30, step := 10, ellipsis := 126, dwell := 6,
        colours := { backdrop := 0, takeoverFg := 15, takeoverBg := 1, bannerFg := 15, bannerBg := 1 } } ∧
    (∀ x : Slot, t.showOf x = Show.vacant ∧ t.tallyOf x = Tally.zeroed) ∧
    (∀ i : Fin 64, t.board.titles.read i = { text := [], rating := none }) ∧
    t.board.order = [] ∧ t.board.nextDue = none ∧
    (∀ k : Fin 16, t.tally.desks.read k = { toggle := none, repeats := 0, lastSlot := none, lastOutcome := none }) ∧
    t.notice.queue = [] ∧ t.notice.post = none ∧ t.notice.wake = 0 ∧
    (∀ i : Fin 2, t.notice.chimes.read i =
      { mode := .level, level := false, pitch := .low, pattern := none, requests := [] }) ∧
    (∀ k : TileNo, t.fmt.tiles.read k = Tile.reset) ∧
    (∀ n : Fin 32, t.fmt.templates.read n = { fields := [], pool := [] }) ∧
    t.fmt.queue = [] ∧ t.fmt.engine = none ∧ t.fmt.sweep = 0 ∧
    (∀ l : LayoutNo, t.comp.layouts.read l = { tileBase := 0, regionCount := 0 } ∧ t.comp.inUse.read l = 0) ∧
    (∀ i : Fin 128, t.comp.regions.read i = Region.reset ∧
      t.comp.pages.read i = { active := false, index := 0, count := 1, countdown := 0 }) ∧
    (∀ k : Fin 16, t.comp.palette.read k = if k = 15 then Colour.white else Colour.black) ∧
    (∀ (c : Fin 256) (row : Fin 24), (t.comp.glyphs.read c).read row = 0) ∧
    ∀ d : DisplayNo,
      t.display d = { mode := .live, saved := .live, layout := 0, lane := .absent, attractPass := 0, darkWake := 0,
                      takeover := none, banner := false, panelPresent := sense.getLsbD d.val } ∧
      (t.comp.tickers.read d).running = false ∧ (t.comp.tickers.read d).current = none

/-- What RESTART leaves and what it keeps (R16, R38, R57, R79, R105, R127, R148, R165, R179). The STATUS report queued for
RESTARTED waits while no grant can be made, and is granted at once at an idle lane with the upstream ready given (R32, R33,
R36). -/
def Obligations.RestartValues : Prop :=
  ∀ (tag : Byte) (s : State), ∃ t, exec (.restart tag []) s = .next t ∧
    SameBut [.feed, .dir, .rep, .clock, .board, .tally, .notice, .fmt, .comp] s t ∧
    t.feed = { s.feed with malformedCount := 0, checkFailCount := 0 } ∧
    t.dir = { staging := [], restorePoint := none, span := none, cursor := { table := .settings, index := some 0 },
              refusalCount := 0, lastRefusal := none } ∧
    t.rep.mask = s.rep.mask ∧ t.rep.chain = [] ∧ t.rep.owed = false ∧ t.rep.lastWinner = .chainSide ∧
    t.rep.upstreamReady = s.rep.upstreamReady ∧
    (s.rep.Quiet ∨ AttentionFlag.restarted.isIn s.rep.mask = false → t.rep.lane = s.rep.lane ∧ t.rep.flags = 1 ∧
      t.rep.queue = if AttentionFlag.restarted.isIn s.rep.mask = true then [.status] else []) ∧
    (s.rep.lane = .idle → s.rep.upstreamReady = true → AttentionFlag.restarted.isIn s.rep.mask = true →
      t.rep.queue = [] ∧ t.rep.flags = 0 ∧
      t.rep.lane = .sending (returnPacket s.feed.identity 0x01
        ([0, 1, BitVec.ofNat 8 s.feed.lock.code] ++ List.replicate 16 0 ++ [BitVec.ofNat 8 s.feed.identity.val]))) ∧
    t.clock = { state := .unset, minute := 0, second := 0, civilStart := 0, dayNumber := 0, sinceMark := 0 } ∧
    (∀ x : Slot, t.showOf x = Show.vacant ∧ t.tallyOf x = Tally.zeroed) ∧
    t.board.titles = s.board.titles ∧ t.board.order = [] ∧ t.board.nextDue = none ∧
    (∀ k : Fin 16, t.tally.desks.read k = { toggle := none, repeats := 0, lastSlot := none, lastOutcome := none }) ∧
    t.notice.queue = [] ∧ t.notice.post = none ∧ t.notice.wake = 0 ∧
    (∀ i : Fin 2, t.notice.chimes.read i =
      { mode := .level, level := false, pitch := .low, pattern := none, requests := [] }) ∧
    (∀ k : TileNo, t.fmt.tiles.read k = Tile.reset) ∧ t.fmt.templates = s.fmt.templates ∧
    t.fmt.queue = [] ∧ t.fmt.engine = none ∧ t.fmt.sweep = 0 ∧
    t.comp.layouts = s.comp.layouts ∧ t.comp.regions = s.comp.regions ∧ t.comp.palette = s.comp.palette ∧
    t.comp.glyphs = s.comp.glyphs ∧ (∀ l : LayoutNo, t.comp.inUse.read l = 0) ∧
    (∀ i : Fin 128, t.comp.pages.read i = { active := false, index := 0, count := 1, countdown := 0 }) ∧
    ∀ d : DisplayNo,
      t.display d = { mode := .live, saved := .live, layout := 0, lane := .absent, attractPass := 0, darkWake := 0,
                      takeover := none, banner := false, panelPresent := s.sense.getLsbD d.val } ∧
      (t.comp.tickers.read d).running = false ∧ (t.comp.tickers.read d).current = none

/-! ### Invariants that every step keeps -/

/-- The feed receiver stays coherent: its counts, its phase and candidate, and the output frame that follows its record (R2,
R3, R8, R12, R14). -/
def Obligations.FeedStaysCoherent : Prop :=
  ∀ s t : State, s.feed.Coherent → step s = .next t → t.feed.Coherent

/-- The staging queue, the cursor, the restore point and the refusal count stay in range (R19, R22, R26, R29). -/
def Obligations.DirectiveUnitStaysInRange : Prop :=
  ∀ s t : State, s.dir.InRange → step s = .next t → t.dir.InRange

/-- The report queue, the owed mark, the chain buffer and the lane stay coherent: at most one STATUS report, one owed only
at a full queue without it, and no packet left waiting at an idle lane with the ready given (R32, R34 to R36). -/
def Obligations.ReportsStayCoherent : Prop :=
  ∀ s t : State, s.rep.Coherent → step s = .next t → t.rep.Coherent

/-- The clock record stays in range, and its state agrees with the minutes since the last mark (R40, R43 to R45). -/
def Obligations.ClockStaysInRange : Prop :=
  ∀ s t : State, s.clock.InRange → step s = .next t → t.clock.InRange

/-- The listing order holds every LISTED, BOARDING or STARTED slot exactly once and no other slot, sorted (R75). -/
def Obligations.ListingStaysOrdered : Prop :=
  ∀ s t : State, s.board.Ordered → step s = .next t → t.board.Ordered

/-- No two occupied, unretired slots in the same auditorium come to overlap (R66). -/
def Obligations.NoClashArises : Prop :=
  ∀ s t : State, s.board.NoClash → step s = .next t → t.board.NoClash

/-- Every tally stays within its show's limits, STRICT tallies keep clip 0, departed follows the bands, and a RECONCILE
tally that is not unbalanced stays balanced (R80, R89, R91, R94). -/
def Obligations.TalliesStayFit : Prop :=
  ∀ s t : State, s.TalliesFit → step s = .next t → t.TalliesFit

/-- The notice queue keeps at most 32 notices, distinct ids and its class order (R107), and a boarding notice is live only
while its slot is BOARDING (R73). -/
def Obligations.NoticesStayFit : Prop :=
  ∀ s t : State, s.NoticesFit → step s = .next t → t.NoticesFit

/-- The render queue holds exactly the QUEUED tiles, each once, at most 16; the engine's tile alone is RENDERING; an idle
engine leaves no tile waiting (R128, R135, R137). -/
def Obligations.RendersStayCoherent : Prop :=
  ∀ s t : State, s.fmt.Coherent → step s = .next t → t.fmt.Coherent

/-- Every layout stays within the layout tiles, and the tile ranges of two selected layouts share no tile (R153, R154). -/
def Obligations.RangesStayFit : Prop :=
  ∀ s t : State, s.comp.RangesFit → step s = .next t → t.comp.RangesFit

/-- The page index of every active page state stays below its page count (R158 to R160). -/
def Obligations.PagesStayFit : Prop :=
  ∀ s t : State, s.comp.PagesFit → step s = .next t → t.comp.PagesFit

/-- No saved mode and no held SET DISPLAY MODE is ever TAKEOVER (R166, R168). -/
def Obligations.ModesStayLegal : Prop :=
  ∀ s t : State, s.ModesLegal → step s = .next t → t.ModesLegal

/-- Settings, shows, titles, notices, the post buffer, chime lines, desks, templates, layouts and regions, with the staged
ones, and the tile texts stay in the ranges of their tables, a run at a field of every kind (log 13) among them (R24, R54,
R58, R59, R78, R81, R82, R106, R109, R124, R142, R144, R147, R149, R150, R162). -/
def Obligations.RecordsStayInRange : Prop :=
  ∀ s t : State, s.RecordsFit → step s = .next t → t.RecordsFit

/-! ### Rules about the whole device -/

/-- A show's state moves only forward and its closed sales are never reopened, unless its slot becomes VACANT (R68, R70). -/
def Obligations.ShowsMoveForward : Prop :=
  ∀ (s t : State) (x : Slot), step s = .next t → (s.showOf x).state ≠ .vacant →
    (t.showOf x).state = .vacant ∨
    ((s.showOf x).state.rank ≤ (t.showOf x).state.rank ∧
      ((s.showOf x).salesClosed = true → (t.showOf x).salesClosed = true))

/-- Once the sales of a STARTED or RETIRED show have closed, its remaining, clip and net keep their values until the slot
becomes VACANT (R101). -/
def Obligations.ClosedSalesFreezeTally : Prop :=
  ∀ (s t : State) (x : Slot), step s = .next t → (s.showOf x).salesClosed = true →
    (s.showOf x).state = .started ∨ (s.showOf x).state = .retired →
    (t.showOf x).state = .vacant ∨
    ((t.tallyOf x).remaining = (s.tallyOf x).remaining ∧ (t.tallyOf x).clip = (s.tallyOf x).clip ∧
      (t.tallyOf x).net = (s.tallyOf x).net)

/-- A tile's committed text changes only at an output frame start, to its former pending text, or by a reset, which empties
it (R130, R139). -/
def Obligations.CommittedTextChangesAtFrameStarts : Prop :=
  ∀ (c : Instr) (s t : State) (k : TileNo), exec c s = .next t →
    (t.fmt.tiles.read k).committed ≠ (s.fmt.tiles.read k).committed →
    (s.startsOutput c ∧ (t.fmt.tiles.read k).committed = (s.fmt.tiles.read k).pendingText) ∨
    ((t.fmt.tiles.read k).committed = [] ∧
      ((∃ straps sense, c = .powerOnReset straps sense) ∨ (∃ tag, c = .restart tag []) ∨
       (∃ bytes, c = .marginPacket bytes ∧ imageByte bytes 2 = 0x3F#8)))

/-- Immediately after an output frame start a display is in TAKEOVER if and only if a live URGENT notice with the takeover
flag targets it; its record names the takeover notice, and every wake request is consumed (R122, R170). The takeover notice
of a display is the first in queue order that is URGENT, has takeover set and targets it, and there is none where no live
notice is so (R122). -/
def Obligations.TakeoverFollowsNotices : Prop :=
  (∀ (q : List Notice) (d : DisplayNo),
    (∀ n, takeoverNotice q d = some n ↔ FirstTakeover q d n) ∧
    (takeoverNotice q d = none ↔ ∀ n ∈ q, ¬ n.TakesOver d)) ∧
  ∀ (c : Instr) (s t : State), s.ModesLegal → s.startsOutput c → exec c s = .next t →
    t.notice.queue = s.notice.queue ∧ t.notice.wake = 0 ∧
    ∀ d : DisplayNo,
      ((t.display d).mode = .takeover ↔
        ∃ n ∈ s.notice.queue, n.cls = .urgent ∧ n.takeover = true ∧ n.target.getLsbD d.val = true) ∧
      (t.display d).takeover = (takeoverNotice s.notice.queue d).map fun n => n.id

/-! ### The feed receiver -/

/-- Every event of the program feed is repeated on feed out, in every state (R11; what is held is the last event, log
22). -/
def Obligations.FeedEventsRepeated : Prop :=
  ∀ s : State,
    (∀ n l b, ∃ t, exec (.frameStart n l b) s = .next t ∧ t.feed.feedOut = .event (.frameStart n l)) ∧
    (∀ bytes, ∃ t, exec (.marginPacket bytes) s = .next t ∧ t.feed.feedOut = .event (.marginPacket bytes)) ∧
    (∀ lines, ∃ t, exec (.lineGroup lines) s = .next t ∧ t.feed.feedOut = .event (.lineGroup lines)) ∧
    ∃ t, exec .frameEnd s = .next t ∧ t.feed.feedOut = .event .frameEnd

/-- Symbol acquisition and loss and the frame timeout (R1, R6, R14, R29): the lock state, the candidate and the phase; from
LOCKED a loss of lock, which drops the CURRENT directives, sets the cursor back and passes the output frame on. That an
event whose premise fails changes nothing is the model's (log 2), and so is what feed out holds between events (log 22). -/
def Obligations.LockLosses : Prop :=
  (∀ s : State, s.feed.lock = .noSignal →
    exec .symbolAcquisition s =
      .next { s with feed := { s.feed with lock := .search, candidate := .absent, feedOut := .symbols } }) ∧
  (∀ s : State, s.feed.lock ≠ .noSignal → exec .symbolAcquisition s = .next s) ∧
  (∀ s : State, s.feed.lock ≠ .locked →
    exec .symbolLoss s =
      .next { s with feed := { s.feed with
        lock := .noSignal, candidate := .absent, record := { s.feed.record with phase := .between },
        feedOut := .silent } }) ∧
  (∀ s : State, s.feed.lock = .locked → ∃ t, exec .symbolLoss s = .next t ∧ s.LosesLock t ∧
    t.feed = { s.feed with
      lock := .noSignal, candidate := .absent, record := { s.feed.record with phase := .between }, feedOut := .silent,
      output := t.feed.output }) ∧
  (∀ s : State, s.feed.lock = .locked → ∃ t, exec .frameTimeout s = .next t ∧ s.LosesLock t ∧
    t.feed = { s.feed with
      lock := .search, candidate := .absent, record := { s.feed.record with phase := .between },
      output := t.feed.output }) ∧
  ∀ s : State, s.feed.lock ≠ .locked → exec .frameTimeout s = .next s

/-- SEARCH (R2, R3, R5, R12, R13, R15, R177, R178). With a COMPLETE candidate, the frame start with the next count completes
lock acquisition and is the output frame start, with the latched cadence and each port's frame start after the cut frame's
end; any other count makes a new candidate, not counted as malformed. Of the candidate: what is followed and counted, what
is malformed, and what is only repeated. That the twenty-fifth margin packet is counted in the frame record is the model's
(log 38). -/
def Obligations.SearchAndLock : Prop :=
  (∀ (s : State) (n : Byte) (l : LaneMap) (b : Bool), s.feed.lock = .search → s.feed.candidate = .complete →
    (n = s.feed.record.count + 1 → ∃ t, exec (.frameStart n l b) s = .next t ∧
      t.feed = { s.feed with
        lock := .locked, candidate := .absent, feedOut := .event (.frameStart n l), output := .feed 0,
        record := { phase := .margin, count := n, lanes := l, marginPackets := 0, lineGroups := 0 },
        latchedCadence := s.settings.cadence } ∧
      (∀ d : DisplayNo, t.comp.ports.read d =
        { sending := (s.display d).panelPresent
          sent := (if s.feed.output ≠ .closed ∧ (s.comp.ports.read d).sending = true then [.frameEnd] else []) ++
            (if (s.display d).panelPresent = true then [.frameStart] else []) }) ∧
      SameBut [.feed, .dir, .rep, .notice, .fmt, .comp] s t) ∧
    (n ≠ s.feed.record.count + 1 →
      exec (.frameStart n l b) s =
        .next { s with feed := { s.feed with
          feedOut := .event (.frameStart n l), candidate := .following,
          record := { phase := .margin, count := n, lanes := l, marginPackets := 0, lineGroups := 0 } } })) ∧
  ∀ s : State, s.feed.lock = .search →
    (∀ n l b, s.feed.candidate = .absent →
      exec (.frameStart n l b) s =
        .next { s with feed := { s.feed with
          feedOut := .event (.frameStart n l), candidate := .following,
          record := { phase := .margin, count := n, lanes := l, marginPackets := 0, lineGroups := 0 } } }) ∧
    (∀ n l b, s.feed.candidate = .following →
      exec (.frameStart n l b) s =
        .next { s with feed := { s.feed with
          feedOut := .event (.frameStart n l), candidate := .following,
          malformedCount := min 65535 (s.feed.malformedCount + 1),
          record := { phase := .margin, count := n, lanes := l, marginPackets := 0, lineGroups := 0 } } }) ∧
    (∀ lines, exec (.lineGroup lines) s =
      .next { s with feed := { s.feed with
        feedOut := .event (.lineGroup lines),
        record := if s.feed.candidate = .following then
            { s.feed.record with phase := .active, lineGroups := s.feed.record.lineGroups + 1 }
          else s.feed.record } }) ∧
    (s.feed.candidate = .following → s.feed.record.lineGroups = 1080 →
      exec .frameEnd s =
        .next { s with feed := { s.feed with
          feedOut := .event .frameEnd, candidate := .complete, record := { s.feed.record with phase := .between } } }) ∧
    (s.feed.candidate = .following → s.feed.record.lineGroups ≠ 1080 →
      exec .frameEnd s =
        .next { s with feed := { s.feed with
          feedOut := .event .frameEnd, candidate := .absent, malformedCount := min 65535 (s.feed.malformedCount + 1),
          record := { s.feed.record with phase := .between } } }) ∧
    (s.feed.candidate ≠ .following →
      exec .frameEnd s = .next { s with feed := { s.feed with feedOut := .event .frameEnd } }) ∧
    (∀ bytes, s.feed.candidate = .following → s.feed.record.phase = .margin → s.feed.record.marginPackets < 24 →
      exec (.marginPacket bytes) s =
        .next { s with feed := { s.feed with
          feedOut := .event (.marginPacket bytes),
          record := { s.feed.record with marginPackets := s.feed.record.marginPackets + 1 } } }) ∧
    (∀ bytes, s.feed.candidate = .following → s.feed.record.phase = .margin → 24 ≤ s.feed.record.marginPackets →
      exec (.marginPacket bytes) s =
        .next { s with feed := { s.feed with
          feedOut := .event (.marginPacket bytes), candidate := .absent,
          malformedCount := min 65535 (s.feed.malformedCount + 1),
          record := { s.feed.record with
            phase := .between, marginPackets := s.feed.record.marginPackets + 1 } } }) ∧
    ∀ bytes, s.feed.candidate ≠ .following →
      exec (.marginPacket bytes) s = .next { s with feed := { s.feed with feedOut := .event (.marginPacket bytes) } }

/-- A malformed frame in LOCKED at each of the three events that reveal it (R4): the count, FEED_LOST, SEARCH, the loss of
lock at the directive unit, the output frame passed to the flywheel, and the record and candidate that the event leaves.
That the twenty-fifth margin packet is counted in the frame record is the model's (log 38). -/
def Obligations.MalformedInLocked : Prop :=
  ∀ s : State, s.feed.lock = .locked → s.feed.record.phase ≠ .between →
    (∀ n l b, ∃ t, exec (.frameStart n l b) s = .next t ∧ s.LosesLock t ∧
      t.feed = { s.feed with
        lock := .search, candidate := .following, malformedCount := min 65535 (s.feed.malformedCount + 1),
        feedOut := .event (.frameStart n l), output := t.feed.output,
        record := { phase := .margin, count := n, lanes := l, marginPackets := 0, lineGroups := 0 } }) ∧
    (s.feed.record.lineGroups ≠ 1080 → ∃ t, exec .frameEnd s = .next t ∧ s.LosesLock t ∧
      t.feed = { s.feed with
        lock := .search, candidate := .absent, malformedCount := min 65535 (s.feed.malformedCount + 1),
        feedOut := .event .frameEnd, output := t.feed.output, record := { s.feed.record with phase := .between } }) ∧
    ∀ bytes, s.feed.record.phase = .margin → 24 ≤ s.feed.record.marginPackets →
      ∃ t, exec (.marginPacket bytes) s = .next t ∧ s.LosesLock t ∧
        t.feed = { s.feed with
          lock := .search, candidate := .absent, malformedCount := min 65535 (s.feed.malformedCount + 1),
          feedOut := .event (.marginPacket bytes), output := t.feed.output,
          record := { s.feed.record with
            phase := .between, marginPackets := s.feed.record.marginPackets + 1 } }

/-- A well-formed frame in LOCKED (R2, R7, R12, R13, R15, R20, R27, R28, R172, R177, R178): the frame start taken in BETWEEN
opens the frame record and the output frame, with the latched cadence, takes the CLOSED directives, and starts the frame at
the port of every panel that is present; line group k is output line k on every port that sends, composed with the frame's
lanes; a line group past the 1080th is counted and not handed on; the well-formed frame end closes the output frame, marks
every held directive CLOSED and drops the restore point and the span prefix; line groups and frame ends in BETWEEN, and a
margin packet outside MARGIN, are repeated and no more. The ports' contents are log 21. -/
def Obligations.LockedFrame : Prop :=
  ∀ s : State, s.feed.lock = .locked →
    (∀ lines, s.feed.record.phase ≠ .between → s.feed.record.lineGroups < 1080 →
      exec (.lineGroup lines) s =
        .next { s with
          feed := { s.feed with
            feedOut := .event (.lineGroup lines), output := .feed (s.feed.record.lineGroups + 1),
            record := { s.feed.record with phase := .active, lineGroups := s.feed.record.lineGroups + 1 } }
          comp := { s.comp with ports := Table.tabulate fun d => { s.comp.ports.read d with
            sent := if (s.comp.ports.read d).sending = true then
                [.line s.feed.record.lineGroups
                  (s.composeLine (some (s.feed.record.lanes, lines)) d s.feed.record.lineGroups)]
              else [] } } }) ∧
    (∀ lines, s.feed.record.phase ≠ .between → 1080 ≤ s.feed.record.lineGroups →
      exec (.lineGroup lines) s =
        .next { s with feed := { s.feed with
          feedOut := .event (.lineGroup lines),
          record := { s.feed.record with phase := .active, lineGroups := s.feed.record.lineGroups + 1 } } }) ∧
    (s.feed.record.phase ≠ .between → s.feed.record.lineGroups = 1080 →
      exec .frameEnd s =
        .next { s with
          feed := { s.feed with
            feedOut := .event .frameEnd, output := .closed, record := { s.feed.record with phase := .between } }
          dir := { s.dir with
            staging := s.dir.staging.map fun x => { x with mark := .closed }, restorePoint := none, span := none }
          comp := { s.comp with ports := Table.tabulate fun d => { s.comp.ports.read d with
            sent := if (s.comp.ports.read d).sending = true then [.frameEnd] else [] } } }) ∧
    (s.feed.record.phase = .between →
      (∀ n l b, ∃ t, exec (.frameStart n l b) s = .next t ∧
        t.feed = { s.feed with
          feedOut := .event (.frameStart n l), output := .feed 0, latchedCadence := s.settings.cadence,
          record := { phase := .margin, count := n, lanes := l, marginPackets := 0, lineGroups := 0 } } ∧
        (∀ d : DisplayNo, t.comp.ports.read d =
          { sending := (s.display d).panelPresent
            sent := (if s.feed.output ≠ .closed ∧ (s.comp.ports.read d).sending = true then [.frameEnd] else []) ++
              (if (s.display d).panelPresent = true then [.frameStart] else []) }) ∧
        t.dir.staging = (s.dir.staging.filter fun x => x.mark == .current) ∧
        SameBut [.feed, .dir, .rep, .notice, .fmt, .comp] s t) ∧
      (∀ lines, exec (.lineGroup lines) s =
        .next { s with feed := { s.feed with feedOut := .event (.lineGroup lines) } }) ∧
      exec .frameEnd s = .next { s with feed := { s.feed with feedOut := .event .frameEnd } }) ∧
    ∀ bytes, s.feed.record.phase ≠ .margin →
      exec (.marginPacket bytes) s = .next { s with feed := { s.feed with feedOut := .event (.marginPacket bytes) } }

/-- The flywheel outside LOCKED (R12 to R14, R28, R139, R177, R178): its frame start opens an output frame, latches the
cadence, takes the CLOSED directives from the staging queue, commits the ready tiles where the commit is taken first, and
starts the frame at the port of every panel that is present; its lines follow in order with no lane present, also for a
frame of the feed that it completes; its frame end closes the frame. The model's own: in LOCKED, and while a frame of the
feed is completed, no flywheel frame starts (log 23); a line or end of no such frame changes nothing (log 2); a frame end is
taken at any line (log 1); the ports hold what the last event sent (log 21). -/
def Obligations.FlywheelFrames : Prop :=
  ∀ s : State,
    (∀ b, s.startsOutput (.flywheelFrameStart b) → ∃ t, exec (.flywheelFrameStart b) s = .next t ∧
      t.feed = { s.feed with output := .flywheel 0, latchedCadence := s.settings.cadence } ∧
      t.dir.staging = (s.dir.staging.filter fun x => x.mark == .current) ∧
      t.comp.latched = s.settings.colours ∧
      (b = true → ∀ k : TileNo, (t.fmt.tiles.read k).committed =
        if (s.fmt.tiles.read k).ready = true then (s.fmt.tiles.read k).pendingText
        else (s.fmt.tiles.read k).committed) ∧
      (∀ d : DisplayNo, t.comp.ports.read d =
        { sending := (s.display d).panelPresent
          sent := (if s.feed.output ≠ .closed ∧ (s.comp.ports.read d).sending = true then [.frameEnd] else []) ++
            (if (s.display d).panelPresent = true then [.frameStart] else []) }) ∧
      SameBut [.feed, .dir, .rep, .notice, .fmt, .comp] s t) ∧
    (∀ b, ¬ s.startsOutput (.flywheelFrameStart b) → exec (.flywheelFrameStart b) s = .next s) ∧
    (∀ k, k < 1080 → s.feed.output = .flywheel k ∨ s.feed.output = .completing k →
      exec .flywheelLine s =
        .next { s with
          feed := { s.feed with
            output := if s.feed.output = .flywheel k then .flywheel (k + 1) else .completing (k + 1) }
          comp := { s.comp with ports := Table.tabulate fun d => { s.comp.ports.read d with
            sent := if (s.comp.ports.read d).sending = true then [.line k (s.composeLine none d k)] else [] } } }) ∧
    (∀ k, s.feed.output = .flywheel k ∨ s.feed.output = .completing k →
      exec .flywheelFrameEnd s =
        .next { s with
          feed := { s.feed with output := .closed }
          comp := { s.comp with ports := Table.tabulate fun d => { s.comp.ports.read d with
            sent := if (s.comp.ports.read d).sending = true then [.frameEnd] else [] } } }) ∧
    (s.feed.output = .closed ∨ (∃ k, s.feed.output = .feed k) →
      exec .flywheelLine s = .next s ∧ exec .flywheelFrameEnd s = .next s)

/-- A margin packet in LOCKED and MARGIN, up to the twenty-fourth (R2, R8 to R11, R17, R18, R181): one that fails its check
raises the check-failure count and CHECK_FAIL; one for another identity changes nothing more; an addressed one of an
unassigned kind is refused UNKNOWN_KIND; one of an assigned kind is the command of its kind, with its tag and payload, on
the state with the packet counted and repeated. That one row stands for every row of WRITE ENTRY and of POST NOTICE,
whatever the cursor and the fragment index, is the model's (log 9). -/
def Obligations.MarginPackets : Prop :=
  (∀ (s : State) (bytes : List Byte),
    s.feed.lock = .locked → s.feed.record.phase = .margin → s.feed.record.marginPackets < 24 →
    let s1 : State := { s with feed := { s.feed with
      feedOut := .event (.marginPacket bytes),
      record := { s.feed.record with marginPackets := s.feed.record.marginPackets + 1 } } }
    let n := (imageByte bytes 4).toNat
    let fails := imageByte bytes 0 ≠ 0x5C#8 ∨ 40 < n ∨ bytes.length ≠ 6 + n ∨ byteSum bytes ≠ 0
    let own := (imageByte bytes 1).toNat = s.feed.identity.val ∨ (imageByte bytes 1).toNat = 15
    (fails → ∃ t, exec (.marginPacket bytes) s = .next t ∧
      t.feed = { s1.feed with checkFailCount := min 65535 (s.feed.checkFailCount + 1) } ∧
      (s.rep.Quiet → AttentionFlag.checkFail.isIn t.rep.flags = true ∧ s.rep.GrownFrom t.rep) ∧
      SameBut [.feed, .rep] s t) ∧
    (¬ fails → ¬ own → exec (.marginPacket bytes) s = .next s1) ∧
    (¬ fails → own → DirectiveKind.ofCode (imageByte bytes 2) = none → ∃ t, exec (.marginPacket bytes) s = .next t ∧
      s1.Refused t (imageByte bytes 2) (imageByte bytes 3) .unknownKind)) ∧
  ∀ (s : State) (k : DirectiveKind) (target tag check : Byte) (payload : List Byte),
    s.feed.lock = .locked → s.feed.record.phase = .margin → s.feed.record.marginPackets < 24 →
    target.toNat = s.feed.identity.val ∨ target.toNat = 15 → payload.length ≤ 40 →
    let bytes := [0x5C, target, k.code, tag, BitVec.ofNat 8 payload.length] ++ payload ++ [check]
    byteSum bytes = 0 →
    exec (.marginPacket bytes) s =
      exec (k.command tag payload) { s with feed := { s.feed with
        feedOut := .event (.marginPacket bytes),
        record := { s.feed.record with marginPackets := s.feed.record.marginPackets + 1 } } }

/-! ### The directive unit -/

/-- What decoding refuses by length and cursor (R18 to R20, R22, R181): a payload length other than the kind's is refused
BAD_LENGTH; a WRITE ENTRY at "end" CURSOR_END, at a read-only table READ_ONLY, with another image length BAD_LENGTH; a POST
NOTICE of a length that its fragment index does not take BAD_LENGTH. Each registers one refusal, consumes the span prefix
and changes nothing else. That the rows of WRITE ENTRY and of POST NOTICE act alike, at any cursor and any fragment index,
is the model's (log 9), and so is the refusal of an empty POST NOTICE (log 35). -/
def Obligations.DecodingRefuses : Prop :=
  (∀ (s : State) (k : DirectiveKind) (n : Nat) (tag : Byte) (p : List Byte), k.payloadLength = some n → p.length ≠ n →
    ∃ t, exec (k.command tag p) s = .next t ∧ s.Refused t k.code tag .badLength) ∧
  (∀ (s : State) (c : Instr) (tag : Byte) (p : List Byte),
    c ∈ [Instr.writeEntrySettings tag p, .writeEntryShow tag p, .writeEntryTally tag p, .writeEntryTitle tag p,
         .writeEntryTemplate tag p, .writeEntryStaged tag p] →
    (s.dir.cursor.index = none → ∃ t, exec c s = .next t ∧ s.Refused t 0x31 tag .cursorEnd) ∧
    (s.dir.cursor.index ≠ none → s.dir.cursor.table ∈ [TableName.desk, .notice, .display, .tile] →
      ∃ t, exec c s = .next t ∧ s.Refused t 0x31 tag .readOnly) ∧
    (s.dir.cursor.index ≠ none → s.dir.cursor.table ∉ [TableName.desk, .notice, .display, .tile] →
      p.length ≠ s.dir.cursor.table.imageLength →
      ∃ t, exec c s = .next t ∧ s.Refused t 0x31 tag .badLength)) ∧
  ∀ (s : State) (c : Instr) (tag : Byte) (p : List Byte),
    c ∈ [Instr.postNoticeFragment0 tag p, .postNoticeFragment12 tag p] →
    p = [] ∨ (p.head? = some 0 ∧ p.length ≠ 40) ∨ ((p.head? = some 1 ∨ p.head? = some 2) ∧ p.length ≠ 26) ∨
      (p.length ≠ 40 ∧ p.length ≠ 26) →
    ∃ t, exec c s = .next t ∧ s.Refused t 0x20 tag .badLength

/-- SET CURSOR and SPAN (R20, R22): the cursor takes the table and the index, the prefix takes the span, and values out of
range are refused BAD_FIELD. A display range is the base and span further displays, counted upward modulo 12, none twice
(R21). -/
def Obligations.CursorAndSpan : Prop :=
  (∀ (s : State) (tag : Byte),
    (∀ (code index : Byte) (table : TableName), TableName.ofCode code.toNat = some table →
      index.toNat < table.entries →
      exec (.setCursor tag [code, index]) s =
        .next { s with dir := { s.dir with span := none, cursor := { table := table, index := some index.toNat } } }) ∧
    (∀ (code index : Byte),
      (12 < code.toNat ∨ ∃ table, TableName.ofCode code.toNat = some table ∧ table.entries ≤ index.toNat) →
      ∃ t, exec (.setCursor tag [code, index]) s = .next t ∧ s.Refused t 0x30 tag .badField) ∧
    (∀ n : Fin 12, exec (.span tag [BitVec.ofNat 8 n.val]) s =
      .next { s with dir := { s.dir with span := some n } }) ∧
    ∀ n : Byte, 11 < n.toNat → ∃ t, exec (.span tag [n]) s = .next t ∧ s.Refused t 0x3A tag .badField) ∧
  ∀ base span : Nat, base ≤ 11 → span ≤ 11 →
    (rangeOf base span).length = span + 1 ∧ (rangeOf base span).Nodup ∧
    ∀ i, i ≤ span → ((rangeOf base span)[i]?).map Fin.val = some ((base + i) % 12)

/-- The four display directives are staged at the tail, marked CURRENT, with the range fixed at arrival from the base, the
own span or the held prefix; a range byte, a mode, a layout, a lane or a class set out of its range is refused BAD_FIELD; a
full queue refuses each of them STAGE_FULL and sets STAGE_DROP (R18, R20, R21, R26, R154, R168). -/
def Obligations.StagedDirectives : Prop :=
  ∀ (s : State) (tag range : Byte),
    let ds := rangeOf (range.toNat % 16) (match s.dir.span with | some h => h.val | none => range.toNat / 16)
    let staged (kind : Byte) (body : StagedBody) : State :=
      { s with dir := { s.dir with
        span := none, staging := s.dir.staging ++ [{ kind := kind, tag := tag, mark := .current, body := body }] } }
    (range.toNat % 16 ≤ 11 → range.toNat / 16 ≤ 3 → s.dir.staging.length < 8 →
      (∀ (m : Byte) (mode : DisplayMode), DisplayMode.ofDirectiveCode m.toNat = some mode →
        exec (.setDisplayMode tag [range, m]) s = .next (staged 0x40 (.displayMode ds mode))) ∧
      (∀ l : LayoutNo, exec (.selectLayout tag [range, BitVec.ofNat 8 l.val]) s =
        .next (staged 0x41 (.selectLayout ds l))) ∧
      (∀ (c : Byte) (lane : Lane), Lane.ofCode c.toNat = some lane →
        exec (.selectProgram tag [range, c]) s = .next (staged 0x42 (.selectProgram ds lane))) ∧
      ∀ a w : Byte, a.toNat < 16 → w.toNat < 16 →
        exec (.setDisplayMasks tag [range, a, w]) s =
          .next (staged 0x43 (.displayMasks ds (BitVec.ofNat 4 a.toNat) (BitVec.ofNat 4 w.toNat)))) ∧
    (range.toNat % 16 ≤ 11 → range.toNat / 16 ≤ 3 → 8 ≤ s.dir.staging.length →
      ∀ m l lane a w : Byte, m.toNat ≤ 2 → l.toNat ≤ 15 → lane.toNat ≤ 4 → a.toNat ≤ 15 → w.toNat ≤ 15 →
      ∀ c kind, (c, kind) ∈ [(Instr.setDisplayMode tag [range, m], (0x40 : Byte)), (.selectLayout tag [range, l], 0x41),
          (.selectProgram tag [range, lane], 0x42), (.setDisplayMasks tag [range, a, w], 0x43)] →
        ∃ t, exec c s = .next t ∧ s.Refused t kind tag .stageFull ∧
          (s.rep.Quiet → AttentionFlag.stageDrop.isIn t.rep.flags = true)) ∧
    ∀ x y : Byte,
      let badRange := 11 < range.toNat % 16 ∨ 3 < range.toNat / 16
      (badRange ∨ 2 < x.toNat →
        ∃ t, exec (.setDisplayMode tag [range, x]) s = .next t ∧ s.Refused t 0x40 tag .badField) ∧
      (badRange ∨ 15 < x.toNat →
        ∃ t, exec (.selectLayout tag [range, x]) s = .next t ∧ s.Refused t 0x41 tag .badField) ∧
      (badRange ∨ 4 < x.toNat →
        ∃ t, exec (.selectProgram tag [range, x]) s = .next t ∧ s.Refused t 0x42 tag .badField) ∧
      (badRange ∨ 15 < x.toNat ∨ 15 < y.toNat →
        ∃ t, exec (.setDisplayMasks tag [range, x, y]) s = .next t ∧ s.Refused t 0x43 tag .badField)

/-- A frame-aligned WRITE ENTRY is staged with its table, index and image; the cursor advances at once, to "end" from the
last entry, and the restore point takes the former cursor where it was absent; a full queue refuses it STAGE_FULL, at any of
the four tables, and the cursor stays; a LAYOUT or REGION image out of range is refused BAD_FIELD (R22, R24, R26, R29, R149,
R150, R169). Which REGION bytes are checked is the model's in part (log 12, log 39). -/
def Obligations.StagedWrites : Prop :=
  ∀ (s : State) (tag : Byte),
    let taken (body : StagedBody) (next : Option Nat) : State :=
      { s with dir := { s.dir with
        span := none, staging := s.dir.staging ++ [{ kind := 0x31, tag := tag, mark := .current, body := body }],
        restorePoint := some (s.dir.restorePoint.getD s.dir.cursor),
        cursor := { table := s.dir.cursor.table, index := next } } }
    let next (i n : Nat) : Option Nat := if i + 1 < n then some (i + 1) else none
    (s.dir.staging.length < 8 →
      (∀ (l : LayoutNo) (base count : Byte), s.dir.cursor = { table := .layout, index := some l.val } →
        base.toNat ≤ 147 → count.toNat ≤ 8 →
        exec (.writeEntryStaged tag [base, count]) s =
          .next (taken (.writeLayout l { tileBase := base.toNat, regionCount := count.toNat }) (next l.val 16))) ∧
      (∀ (i : Fin 128) (img : List Byte) (g : Region), s.dir.cursor = { table := .region, index := some i.val } →
        img.length = 13 → regionOfImage img = some g →
        exec (.writeEntryStaged tag img) s = .next (taken (.writeRegion i g) (next i.val 128))) ∧
      (∀ (i : Fin 16) (r g b : Byte), s.dir.cursor = { table := .palette, index := some i.val } →
        exec (.writeEntryStaged tag [r, g, b]) s =
          .next (taken (.writePalette i { red := r, green := g, blue := b }) (next i.val 16))) ∧
      ∀ (i : Fin 256) (img : List Byte), s.dir.cursor = { table := .glyph, index := some i.val } → img.length = 36 →
        exec (.writeEntryStaged tag img) s = .next (taken (.writeGlyph i (glyphOfImage img)) (next i.val 256))) ∧
    (8 ≤ s.dir.staging.length → ∀ img : List Byte,
      (∃ l : LayoutNo, s.dir.cursor = { table := .layout, index := some l.val } ∧ img.length = 2 ∧
        (imageByte img 0).toNat ≤ 147 ∧ (imageByte img 1).toNat ≤ 8) ∨
      (∃ i : Fin 128, s.dir.cursor = { table := .region, index := some i.val } ∧ img.length = 13 ∧ ¬ BadRegionImage img) ∨
      (∃ i : Fin 16, s.dir.cursor = { table := .palette, index := some i.val } ∧ img.length = 3) ∨
      (∃ i : Fin 256, s.dir.cursor = { table := .glyph, index := some i.val } ∧ img.length = 36) →
      ∃ t, exec (.writeEntryStaged tag img) s = .next t ∧ s.Refused t 0x31 tag .stageFull ∧
        (s.rep.Quiet → AttentionFlag.stageDrop.isIn t.rep.flags = true)) ∧
    (∀ (l : LayoutNo) (base count : Byte), s.dir.cursor = { table := .layout, index := some l.val } →
      147 < base.toNat ∨ 8 < count.toNat →
      ∃ t, exec (.writeEntryStaged tag [base, count]) s = .next t ∧ s.Refused t 0x31 tag .badField) ∧
    ∀ (i : Fin 128) (img : List Byte), s.dir.cursor = { table := .region, index := some i.val } → img.length = 13 →
      BadRegionImage img →
      ∃ t, exec (.writeEntryStaged tag img) s = .next t ∧ s.Refused t 0x31 tag .badField

/-- An output frame start with the directives handed over to it (R28, R153, R154, R155, R167 to R170). With one: it lands,
the colours are latched, each display's mode follows from the mode asked for, its takeover notice and its wake request, and
the layouts in use are recounted; a selection or a write whose tile range does not pass is refused TILE_RANGE, with REFUSED
set; a DARK display that its wake request turns LIVE sets DISPLAY_WOKE. With several, and with a SELECT LAYOUT over several
displays: they land one after another, in staging order and in range order, each on what the one before it left, and each
refused one is registered. -/
def Obligations.StagedApplied : Prop :=
  (∀ (c : Instr) (s : State) (x : Staged), s.startsOutput c → s.ModesLegal →
    s.handedOver = [x] →
    let taken (d : DisplayNo) : Prop :=
      ∃ n ∈ s.notice.queue, n.cls = .urgent ∧ n.takeover = true ∧ n.target.getLsbD d.val = true
    let former (d : DisplayNo) : DisplayMode :=
      if (s.display d).mode = .takeover then (s.display d).saved else (s.display d).mode
    let asked (d : DisplayNo) : DisplayMode :=
      match x.body with
      | .displayMode ds m => if d ∈ ds then m else former d
      | _ => former d
    let passes (v : Compositor) (l : LayoutNo) : Prop :=
      v.pastTiles l ≤ 148 ∧ (v.selected l = true → ∀ m, m ≠ l → v.selected m = true → v.rangesMeet l m = false)
    let refusedBy (t : State) (kind : Byte) : Prop :=
      t.dir.lastRefusal = some { kind := kind, tag := x.tag, reason := .tileRange } ∧
      t.dir.refusalCount = min 65535 (s.dir.refusalCount + 1) ∧
      (s.rep.Quiet → AttentionFlag.refused.isIn t.rep.flags = true)
    let woken (d : DisplayNo) : Prop :=
      ¬ taken d ∧ asked d = .dark ∧ s.notice.wake.getLsbD d.val = true
    ∃ t, exec c s = .next t ∧
      (s.rep.Quiet → s.rep.GrownFrom t.rep ∧
        (AttentionFlag.displayWoke.isIn t.rep.flags = true ↔
          AttentionFlag.displayWoke.isIn s.rep.flags = true ∨ ∃ d, woken d)) ∧
      t.dir.staging = (s.dir.staging.filter fun y => y.mark == .current) ∧
      t.comp.latched = s.settings.colours ∧
      (∀ d : DisplayNo,
        (t.display d).mode =
          (if taken d then .takeover
          else if asked d = .dark ∧ s.notice.wake.getLsbD d.val = true then .live else asked d) ∧
        (taken d → (t.display d).saved = asked d) ∧
        (t.display d).panelPresent = (s.display d).panelPresent ∧
        (t.display d).lane =
          (match x.body with
          | .selectProgram ds lane => if d ∈ ds then lane else (s.display d).lane
          | _ => (s.display d).lane) ∧
        ((t.display d).attractPass, (t.display d).darkWake) =
          (match x.body with
          | .displayMasks ds a w => if d ∈ ds then (a, w) else ((s.display d).attractPass, (s.display d).darkWake)
          | _ => ((s.display d).attractPass, (s.display d).darkWake))) ∧
      t.comp.palette =
        (match x.body with
        | .writePalette k colour => s.comp.palette.write k colour
        | _ => s.comp.palette) ∧
      t.comp.glyphs =
        (match x.body with
        | .writeGlyph k glyph => s.comp.glyphs.write k glyph
        | _ => s.comp.glyphs) ∧
      (∀ e l, x.body = .selectLayout [e] l →
        let blocked := ∃ f : DisplayNo, f ≠ e ∧ (s.display f).layout ≠ l ∧ s.comp.rangesMeet l (s.display f).layout = true
        (blocked → refusedBy t 0x41 ∧ ∀ d, (t.display d).layout = (s.display d).layout) ∧
        (¬ blocked → ∀ d, (t.display d).layout = if d = e then l else (s.display d).layout)) ∧
      (∀ l img, x.body = .writeLayout l img →
        let v : Compositor := { s.comp with layouts := s.comp.layouts.write l img }
        (passes v l → t.comp.layouts = v.layouts) ∧
        (¬ passes v l → refusedBy t 0x31 ∧ t.comp.layouts = s.comp.layouts)) ∧
      (∀ i img, x.body = .writeRegion i img →
        let v : Compositor := { s.comp with regions := s.comp.regions.write i img }
        (passes v (regionLayout i) → t.comp.regions = v.regions) ∧
        (¬ passes v (regionLayout i) → refusedBy t 0x31 ∧ t.comp.regions = s.comp.regions)) ∧
      ∀ l : LayoutNo, t.comp.inUse.read l = ((List.finRange 12).filter fun d => (t.display d).layout == l).length) ∧
  ∀ (c : Instr) (s : State), s.startsOutput c → s.ModesLegal →
    let taken (d : DisplayNo) : Prop :=
      ∃ n ∈ s.notice.queue, n.cls = .urgent ∧ n.takeover = true ∧ n.target.getLsbD d.val = true
    let landed := s.handedOver.foldl Compositor.landed (s.comp, 0)
    let asked (d : DisplayNo) : DisplayMode :=
      if (landed.1.displays.read d).mode = .takeover then (landed.1.displays.read d).saved
      else (landed.1.displays.read d).mode
    let woken (d : DisplayNo) : Prop :=
      ¬ taken d ∧ asked d = .dark ∧ s.notice.wake.getLsbD d.val = true
    ∃ t, exec c s = .next t ∧
      (s.rep.Quiet → s.rep.GrownFrom t.rep ∧
        (AttentionFlag.displayWoke.isIn t.rep.flags = true ↔
          AttentionFlag.displayWoke.isIn s.rep.flags = true ∨ ∃ d, woken d) ∧
        (AttentionFlag.refused.isIn t.rep.flags = true ↔
          AttentionFlag.refused.isIn s.rep.flags = true ∨ 0 < landed.2)) ∧
      t.comp.layouts = landed.1.layouts ∧ t.comp.regions = landed.1.regions ∧ t.comp.palette = landed.1.palette ∧
      t.comp.glyphs = landed.1.glyphs ∧
      (∀ d : DisplayNo,
        let y := landed.1.displays.read d
        (t.display d).layout = y.layout ∧ (t.display d).lane = y.lane ∧ (t.display d).attractPass = y.attractPass ∧
        (t.display d).darkWake = y.darkWake ∧
        (t.display d).mode =
          (if taken d then .takeover
          else if asked d = .dark ∧ s.notice.wake.getLsbD d.val = true then .live else asked d)) ∧
      (landed.2 = 0 → t.dir.refusalCount = s.dir.refusalCount ∧ t.dir.lastRefusal = s.dir.lastRefusal) ∧
      (0 < landed.2 → t.dir.refusalCount = min 65535 (s.dir.refusalCount + landed.2) ∧
        ∃ x ∈ s.handedOver, ∃ kind ∈ [(0x31 : Byte), 0x41],
          t.dir.lastRefusal = some { kind := kind, tag := x.tag, reason := .tileRange })

/-- READ ENTRIES queues one ENTRY DATA report for each entry from the cursor on, in index order, with the images as they
stand, and the cursor moves past them (R22, R25, R34, R36). It stops at "end", which is no refusal, and at a full report
queue, where REPORT_FULL is set and the cursor stays at the entry not reported. At an idle lane with the ready given the
first report is granted at once. A count outside 1 to 8 is refused BAD_FIELD and a cursor at "end" CURSOR_END; that
BAD_FIELD comes first where both hold is the model's (log 24). -/
def Obligations.ReadEntriesReports : Prop :=
  ∀ (s : State) (tag count : Byte),
    (∀ i, s.dir.cursor.index = some i → i < s.dir.cursor.table.entries → 1 ≤ count.toNat → count.toNat ≤ 8 →
      let left := min count.toNat (s.dir.cursor.table.entries - i)
      let room := 16 - s.rep.queue.length
      let report (j : Nat) : Report := .entryData s.dir.cursor.table (i + j) (s.entryImage s.dir.cursor.table (i + j))
      let moved (n : Nat) : DirectiveUnit := { s.dir with
        span := none
        cursor := { table := s.dir.cursor.table
                    index := if i + n < s.dir.cursor.table.entries then some (i + n) else none } }
      (s.rep.Quiet → left ≤ room →
        exec (.readEntries tag [count]) s =
          .next { s with
            dir := moved left
            rep := { s.rep with queue := s.rep.queue ++ (List.range left).map report } }) ∧
      (s.rep.Quiet → room < left → ∃ t, exec (.readEntries tag [count]) s = .next t ∧
        t.dir = moved room ∧ t.rep.queue = s.rep.queue ++ (List.range room).map report ∧
        AttentionFlag.reportFull.isIn t.rep.flags = true ∧ s.rep.GrownFrom t.rep ∧ SameBut [.dir, .rep] s t) ∧
      (s.rep.lane = .idle → s.rep.upstreamReady = true → s.rep.queue = [] → s.rep.chain = [] → s.rep.owed = false →
        exec (.readEntries tag [count]) s =
          .next { s with
            dir := moved left
            rep := { s.rep with
              lane := .sending ((report 0).packet s.statusView s.rep.flags)
              queue := ((List.range left).map report).drop 1 } })) ∧
    (count.toNat = 0 ∨ 8 < count.toNat →
      ∃ t, exec (.readEntries tag [count]) s = .next t ∧ s.Refused t 0x32 tag .badField) ∧
    (1 ≤ count.toNat → count.toNat ≤ 8 → s.dir.cursor.index = none →
      ∃ t, exec (.readEntries tag [count]) s = .next t ∧ s.Refused t 0x32 tag .cursorEnd)

/-- SET ATTENTION MASK replaces the mask; a field with a bit outside the flags is refused BAD_FIELD; a newly enabled flag
that is set counts as a change, which queues a STATUS report, sends it at once at an idle lane with the ready given or, at a
full queue, owes one with REPORT_FULL; disabling clears no flag and withdraws no report; power-on reset enables RESTARTED
alone; RESTART and CLOSE DAY keep the mask (R31, R32, R36). That several such flags queue one STATUS report together is the
model's (log 42). -/
def Obligations.MaskReplaced : Prop :=
  (∀ (s : State) (tag m1 m0 : Byte), 16384 ≤ half m1 m0 →
    ∃ t, exec (.setAttentionMask tag [m1, m0]) s = .next t ∧ s.Refused t 0x39 tag .badField) ∧
  (∀ (s : State) (tag m1 m0 : Byte), half m1 m0 < 16384 →
    let m := BitVec.ofNat 14 (half m1 m0)
    let fresh := ∃ f : AttentionFlag, f.isIn m = true ∧ f.isIn s.rep.mask = false ∧ f.isIn s.rep.flags = true
    let taken (r : ReportUnit) : State := { s with dir := { s.dir with span := none }, rep := r }
    (∃ t, exec (.setAttentionMask tag [m1, m0]) s = .next t ∧ t.rep.mask = m ∧ t = taken t.rep) ∧
    (¬ fresh ∨ .status ∈ s.rep.queue →
      exec (.setAttentionMask tag [m1, m0]) s = .next (taken { s.rep with mask := m })) ∧
    (fresh → .status ∉ s.rep.queue → s.rep.queue.length < 16 → s.rep.Quiet →
      exec (.setAttentionMask tag [m1, m0]) s =
        .next (taken { s.rep with mask := m, queue := s.rep.queue ++ [.status], owed := false })) ∧
    (fresh → s.rep.queue = [] → s.rep.chain = [] → s.rep.lane = .idle → s.rep.upstreamReady = true →
      exec (.setAttentionMask tag [m1, m0]) s =
        .next (taken { s.rep with
          mask := m, flags := 0, owed := false, lane := .sending (Report.status.packet s.statusView s.rep.flags) })) ∧
    (fresh → .status ∉ s.rep.queue → 16 ≤ s.rep.queue.length →
      exec (.setAttentionMask tag [m1, m0]) s =
        .next (taken { s.rep with mask := m, flags := AttentionFlag.reportFull.setIn s.rep.flags, owed := true }))) ∧
  (∀ (s : State) (straps : Fin 8) (sense : BitVec 12), ∃ t, exec (.powerOnReset straps sense) s = .next t ∧
    ∀ f : AttentionFlag, f.isIn t.rep.mask = true ↔ f = .restarted) ∧
  ∀ (s : State) (tag : Byte),
    (∃ t, exec (.restart tag []) s = .next t ∧ t.rep.mask = s.rep.mask) ∧
    ∃ t, exec (.closeDay tag []) s = .next t ∧ t.rep.mask = s.rep.mask

/-- The return lane (R32, R33, R35 to R37): at a transmission completion and when the upstream ready is given, the one side
that waits is granted, a contested grant goes to the side that did not win the last one, a STATUS report's flags are
cleared, and an owed STATUS report takes the freed place; a withdrawal stops only later grants; a chain packet joins the
tail of the chain buffer, or is sent at once by an idle lane. -/
def Obligations.LaneEvents : Prop :=
  ∀ s : State,
    let sent (r : ReportUnit) (h : Report) (q : List Report) (winner : Side) : ReportUnit :=
      { r with
        lane := .sending (h.packet s.statusView s.rep.flags)
        flags := if h = .status then 0 else s.rep.flags
        queue := if s.rep.owed = true then q ++ [.status] else q
        owed := false
        lastWinner := winner
        upstreamReady := true }
    let forwarded (r : ReportUnit) (p : List Byte) (ps : List (List Byte)) (winner : Side) : ReportUnit :=
      { r with lane := .sending p, chain := ps, lastWinner := winner, upstreamReady := true }
    let grants (c : Instr) : Prop :=
      (s.rep.queue = [] → s.rep.chain = [] →
        exec c s = .next { s with rep := { s.rep with lane := .idle, upstreamReady := true } }) ∧
      (∀ h q, s.rep.queue = h :: q → s.rep.chain = [] →
        exec c s = .next { s with rep := sent s.rep h q s.rep.lastWinner }) ∧
      (∀ p ps, s.rep.queue = [] → s.rep.chain = p :: ps →
        exec c s = .next { s with rep := forwarded s.rep p ps s.rep.lastWinner }) ∧
      (∀ h q p ps, s.rep.queue = h :: q → s.rep.chain = p :: ps →
        exec c s = .next { s with rep :=
          if s.rep.lastWinner = .chainSide then sent s.rep h q .localSide else forwarded s.rep p ps .chainSide })
    (∀ b, s.rep.lane = .sending b → s.rep.upstreamReady = true → grants .transmissionCompletion) ∧
    (∀ b, s.rep.lane = .sending b → s.rep.upstreamReady = false →
      exec .transmissionCompletion s = .next { s with rep := { s.rep with lane := .idle } }) ∧
    (s.rep.lane = .idle → grants .upstreamReady) ∧
    (∀ b, s.rep.lane = .sending b →
      exec .upstreamReady s = .next { s with rep := { s.rep with upstreamReady := true } }) ∧
    exec .upstreamReadyWithdrawal s = .next { s with rep := { s.rep with upstreamReady := false } } ∧
    (∀ p, s.rep.chain.length < 4 → s.rep.Quiet →
      exec (.chainPacketArrival p) s = .next { s with rep := { s.rep with chain := s.rep.chain ++ [p] } }) ∧
    ∀ p, s.rep.chain = [] → s.rep.queue = [] → s.rep.lane = .idle → s.rep.upstreamReady = true →
      exec (.chainPacketArrival p) s = .next { s with rep := { s.rep with lane := .sending p } }

/-- REQUEST STATUS queues a STATUS report unless one waits, and at a full queue owes it with REPORT_FULL set (R32); at an
idle lane with the upstream ready given the report is granted at once and clears the flags it carries (R33, R36). Every
return packet carries the sync byte, the chain identity, the kind, the length and the payload, and all its bytes sum to 0
modulo 256; a STATUS packet has 25 bytes, and each of its payload's 20 bytes stands at its offset; so do the payload bytes
of the other three reports (R33, R34, R183). -/
def Obligations.StatusReports : Prop :=
  (∀ (s : State) (tag : Byte),
    (.status ∈ s.rep.queue →
      exec (.requestStatus tag []) s = .next { s with dir := { s.dir with span := none } }) ∧
    (.status ∉ s.rep.queue → s.rep.queue.length < 16 → s.rep.Quiet →
      exec (.requestStatus tag []) s =
        .next { s with dir := { s.dir with span := none },
                       rep := { s.rep with queue := s.rep.queue ++ [.status], owed := false } }) ∧
    (s.rep.queue = [] → s.rep.chain = [] → s.rep.lane = .idle → s.rep.upstreamReady = true →
      exec (.requestStatus tag []) s =
        .next { s with dir := { s.dir with span := none },
                       rep := { s.rep with
                         flags := 0, owed := false,
                         lane := .sending (Report.status.packet s.statusView s.rep.flags) } }) ∧
    (.status ∉ s.rep.queue → 16 ≤ s.rep.queue.length →
      exec (.requestStatus tag []) s =
        .next { s with dir := { s.dir with span := none },
                       rep := { s.rep with flags := AttentionFlag.reportFull.setIn s.rep.flags, owed := true } })) ∧
  (∀ (v : StatusView) (flags : BitVec 14) (r : Report),
    byteSum (r.packet v flags) = 0 ∧
    (∃ check, r.packet v flags =
      [0x3A, BitVec.ofNat 8 v.identity.val, r.kindCode, BitVec.ofNat 8 (r.payload v flags).length] ++
        r.payload v flags ++ [check]) ∧
    (r = .status → (r.packet v flags).length = 25 ∧ r.kindCode = 0x01) ∧
    (∀ table i image, r = .entryData table i image → r.kindCode = 0x02 ∧
      r.payload v flags = [BitVec.ofNat 8 table.code, BitVec.ofNat 8 i] ++ image) ∧
    (∀ slot acked band remaining, r = .alert slot acked band remaining → r.kindCode = 0x03 ∧
      r.payload v flags = [BitVec.ofNat 8 slot.val, BitVec.ofNat 8 acked.code, BitVec.ofNat 8 band.code,
        BitVec.ofNat 8 (remaining / 256), BitVec.ofNat 8 remaining]) ∧
    (∀ id cls, r = .noticeEvicted id cls → r.kindCode = 0x04 ∧
      r.payload v flags = [id, BitVec.ofNat 8 cls.code])) ∧
  ∀ (s : State) (flags : BitVec 14), s.feed.Coherent → s.dir.InRange → s.clock.InRange → s.fmt.Coherent →
    NoticesOrdered s.notice.queue →
    let p := Report.status.payload s.statusView flags
    let at' (i : Nat) : Nat := (imageByte p i).toNat
    let half' (i : Nat) : Nat := half (imageByte p i) (imageByte p (i + 1))
    p.length = 20 ∧ half' 0 = flags.toNat ∧ at' 2 = s.feed.lock.code ∧ at' 3 = s.clock.state.code ∧
    half' 4 = s.clock.minute ∧ at' 6 = s.clock.second ∧ half' 7 = s.dir.refusalCount ∧
    (match s.dir.lastRefusal with
      | some r => imageByte p 9 = r.kind ∧ imageByte p 10 = r.tag ∧ at' 11 = r.reason.code
      | none => at' 9 = 0 ∧ at' 10 = 0 ∧ at' 11 = 0) ∧
    half' 12 = s.feed.checkFailCount ∧ half' 14 = s.feed.malformedCount ∧ at' 16 = s.dir.staging.length ∧
    at' 17 = s.fmt.queue.length ∧ at' 18 = s.notice.queue.length ∧ at' 19 = s.feed.identity.val

/-- Entry images (R25, R60, R104, R120, R147, R179, R180, R182, R184). Written: which TITLE, TEMPLATE, SETTINGS, SHOW, TALLY
and REGION images break a range, and that every other spells the record taken. Read: each image has its table's length and
spells the entry as it stands, with 0 beyond a variable list, all 0 at a VACANT slot, FFh at an absent optional byte and at
a position with no notice. The codes of every enumerated field. The model's own: the REGION bytes checked (log 12, log 39),
the run kept in a TEMPLATE field of every kind (log 13), the capacity of a TALLY (log 14), any state byte of a SHOW (log
15). The code of an absent rating, and bytes 2 and 3 of an unbound tile, are free (log 40, log 18). -/
def Obligations.EntryImages : Prop :=
  (∀ img : List Byte,
    (img.length = 35 → (BadTitleImage img → titleOfImage img = none) ∧
      (¬ BadTitleImage img → ∃ r, titleOfImage img = some r ∧ r.SpelledBy img)) ∧
    (img.length = 40 → (BadTemplateImage img → templateOfImage img = none) ∧
      (¬ BadTemplateImage img → ∃ r, templateOfImage img = some r ∧ r.SpelledBy img)) ∧
    (img.length = 19 → (BadSettingsImage img → settingsOfImage img = none) ∧
      (¬ BadSettingsImage img → ∃ c civil day, settingsOfImage img = some (c, civil, day) ∧ c.SpelledBy civil day img)) ∧
    (img.length = 19 → (BadShowImage img → showOfImage img = none) ∧
      (imageByte img 0 = 0 → showOfImage img = some .clear) ∧
      (¬ BadShowImage img → imageByte img 0 = 1 → ∃ w mode, showOfImage img = some (.record w mode) ∧
        w.SpelledBy mode img ∧ w.state = .listed ∧ w.salesClosed = false)) ∧
    (∀ capacity, img.length = 10 → (BadTallyImage capacity img → tallyOfImage capacity img = none) ∧
      (¬ BadTallyImage capacity img → ∃ r, tallyOfImage capacity img = some r ∧ r.SpelledBy img)) ∧
    (img.length = 13 → (BadRegionImage img → regionOfImage img = none) ∧
      (¬ BadRegionImage img → ∃ g, regionOfImage img = some g ∧ g.SpelledBy img)) ∧
    (img.length = 36 → (glyphOfImage img).SpelledBy img)) ∧
  (∀ s : State, s.Safe →
    let at' (table : TableName) (i b : Nat) : Nat := (imageByte (s.entryImage table i) b).toNat
    let half' (table : TableName) (i b : Nat) : Nat :=
      half (imageByte (s.entryImage table i) b) (imageByte (s.entryImage table i) (b + 1))
    (∀ (table : TableName) (i : Nat), i < table.entries → (s.entryImage table i).length = table.imageLength) ∧
    s.settings.SpelledBy s.clock.civilStart s.clock.dayNumber (s.entryImage .settings 0) ∧
    (∀ x : Slot,
      let w := s.showOf x
      let img := s.entryImage .show x.val
      (s.tallyOf x).SpelledBy (s.entryImage .tally x.val) ∧
      (w.state = .vacant → img = List.replicate 19 0 ∧ s.entryImage .tally x.val = List.replicate 10 0) ∧
      (w.state ≠ .vacant → w.SpelledBy (s.tallyOf x).mode img ∧ at' .show x.val 1 = w.state.code ∧
        at' .show x.val 14 / 2 % 2 = (if w.salesClosed = true then 1 else 0) ∧
        ∀ i, w.badges.length ≤ i → i < 3 → imageByte img (16 + i) = 0)) ∧
    (∀ i : Fin 64,
      let r := s.board.titles.read i
      r.SpelledBy (s.entryImage .title i.val) ∧ ∀ k, r.text.length ≤ k → k < 32 → at' .title i.val (3 + k) = 0) ∧
    (∀ i : Fin 32,
      let r := s.fmt.templates.read i
      r.SpelledBy (s.entryImage .template i.val) ∧
      (∀ j, r.fields.length ≤ j → j < 8 → at' .template i.val (3 * j) = 255 ∧ at' .template i.val (3 * j + 1) = 0 ∧
        at' .template i.val (3 * j + 2) = 0) ∧
      ∀ k, r.pool.length ≤ k → k < 16 → at' .template i.val (24 + k) = 0) ∧
    (∀ l : LayoutNo, at' .layout l.val 0 = (s.comp.layouts.read l).tileBase ∧
      at' .layout l.val 1 = (s.comp.layouts.read l).regionCount) ∧
    (∀ i : Fin 128, (s.comp.regions.read i).SpelledBy (s.entryImage .region i.val)) ∧
    (∀ k : Fin 16,
      let colour := s.comp.palette.read k
      s.entryImage .palette k.val = [colour.red, colour.green, colour.blue]) ∧
    (∀ k : Fin 256, (s.comp.glyphs.read k).SpelledBy (s.entryImage .glyph k.val)) ∧
    (∀ k : Fin 16,
      let desk := s.tally.desks.read k
      at' .desk k.val 0 = toggleCode desk.toggle ∧ at' .desk k.val 1 = desk.repeats ∧
      at' .desk k.val 2 = (match desk.lastSlot with | some x => x.val | none => 255) ∧
      at' .desk k.val 3 = outcomeCode desk.lastOutcome) ∧
    (∀ i : Nat, i < 32 →
      (s.notice.queue[i]? = none → s.entryImage .notice i = List.replicate 7 0 ++ [0xFF] ++ List.replicate 26 0) ∧
      ∀ n, s.notice.queue[i]? = some n →
        at' .notice i 0 = 1 ∧ imageByte (s.entryImage .notice i) 1 = n.id ∧
        at' .notice i 2 = n.cls.code + (if n.takeover = true then 8 else 0) + 16 * n.strikes ∧
        half' .notice i 3 = n.lifetime ∧ half' .notice i 5 = n.target.toNat ∧
        at' .notice i 7 = (match n.linked with | some x => x.val | none => 255) ∧
        at' .notice i 8 = ((s.notice.queue.take i).filter fun m => m.cls == n.cls).length ∧
        at' .notice i 9 = n.text.length ∧
        ∀ k, k < 24 → imageByte (s.entryImage .notice i) (10 + k) = n.text.getD k 0) ∧
    (∀ d : DisplayNo,
      let x := s.display d
      at' .display d.val 0 = x.mode.code ∧ at' .display d.val 1 = x.saved.code ∧ at' .display d.val 2 = x.layout.val ∧
      at' .display d.val 3 = x.lane.code ∧ at' .display d.val 4 = x.attractPass.toNat ∧
      at' .display d.val 5 = x.darkWake.toNat ∧
      at' .display d.val 6 = (if x.banner = true then 1 else 0) + (if x.panelPresent = true then 2 else 0) +
        (if s.notice.wake.getLsbD d.val = true then 4 else 0) + (if x.takeover ≠ none then 8 else 0) ∧
      imageByte (s.entryImage .display d.val) 7 = x.takeover.getD 0) ∧
    ∀ u : TileNo,
      let x := s.fmt.tiles.read u
      let img := s.entryImage .tile u.val
      at' .tile u.val 0 = x.state.code + (if x.stale = true then 8 else 0) + (if x.released = true then 16 else 0) +
        (if x.ready = true then 32 else 0) ∧
      (u.val < 148 → (x.binding = none → imageByte img 1 = 0xFF) ∧
        ∀ b, x.binding = some b → imageByte img 1 = BitVec.ofNat 8 b.layout.val ∧
          imageByte img 2 = BitVec.ofNat 8 b.region.val ∧ imageByte img 3 = BitVec.ofNat 8 b.row) ∧
      (148 ≤ u.val → at' .tile u.val 1 = 0x80 + (u.val - 148) ∧ imageByte img 2 = 0 ∧ imageByte img 3 = 0) ∧
      (match x.bound with
        | none => imageByte img 4 = 0 ∧ imageByte img 5 = 0
        | some (.slot y) => imageByte img 4 = 1 ∧ at' .tile u.val 5 = y.val
        | some (.notice id) => imageByte img 4 = 2 ∧ imageByte img 5 = id) ∧
      at' .tile u.val 6 = x.committed.length ∧ half' .tile u.val 7 = (x.committed.map BitVec.toNat).sum % 65536 ∧
      ∀ k, k < 28 → imageByte img (9 + k) = x.committed.getD k 0) ∧
  (let tables := [TableName.settings, .show, .tally, .title, .template, .layout, .region, .palette, .glyph, .desk, .notice,
      .display, .tile]
   tables.map TableName.code = List.range 13 ∧
   tables.map TableName.entries = [1, 96, 96, 64, 32, 16, 128, 16, 256, 16, 32, 12, 160] ∧
   tables.map TableName.imageLength = [19, 19, 10, 35, 40, 2, 13, 3, 36, 4, 34, 8, 37]) ∧
  [NoticeClass.urgent, .show, .desk, .house].map NoticeClass.code = List.range 4 ∧
  [DisplayMode.live, .attract, .dark, .takeover].map DisplayMode.code = List.range 4 ∧
  [Lane.a, .b, .c, .d, .absent].map Lane.code = List.range 5 ∧
  [Band.opened, .filling, .few, .soldOut].map Band.code = List.range 4 ∧
  [none, some SaleOutcome.applied, some .clampedLow, some .clampedHigh, some .repeated].map outcomeCode = List.range 5 ∧
  [some false, some true, none].map toggleCode = List.range 3 ∧
  [TallyMode.strict, .reconcile].map TallyMode.code = List.range 2 ∧
  [ShowState.vacant, .listed, .boarding, .started, .retired].map ShowState.code = List.range 5 ∧
  [TimeForm.hour24, .hour12].map TimeForm.code = List.range 2 ∧
  [Cadence.fps24, .fps25, .fps30, .fps50, .fps60].map Cadence.code = [24, 25, 30, 50, 60] ∧
  [RegionKind.program, .listing, .card, .ticker, .clock, .fill].map RegionKind.code = List.range 6 ∧
  [FieldKind.title, .rating, .auditorium, .start, .ends, .minutes, .seats, .bandword, .state, .badges, .clock, .notice,
    .literal].map FieldKind.code = List.range 13 ∧
  [Machine.Alignment.left, .right, .centre].map Machine.Alignment.code = List.range 3 ∧
  [LockState.noSignal, .search, .locked].map LockState.code = List.range 3 ∧
  [ClockState.unset, .running, .holdover, .lost].map ClockState.code = List.range 4 ∧
  [TileState.idle, .dirty, .queued, .rendering, .clean].map TileState.code = List.range 5 ∧
  [Reason.unknownKind, .badLength, .badField, .stageFull, .cursorEnd, .readOnly, .noShow, .salesClosed, .dayClosed,
    .dayOpen, .showLive, .showPast, .auditoriumClash, .queueFull, .reservedId, .notFound, .tileRange].map Reason.code =
      (List.range 17).map (· + 1) ∧
  [AttentionFlag.restarted, .feedLost, .checkFail, .stageDrop, .refused, .reportFull, .band, .clipLimit, .clockHoldover,
    .clockLost, .renderBacklog, .noticeEvicted, .displayLost, .displayWoke].map AttentionFlag.index = List.range 14 ∧
  (∀ (f : AttentionFlag) (w : BitVec 14), f.isIn w = w.getLsbD f.index) ∧
  (∀ (k : NoticeClass) (w : ClassSet), k.isIn w = w.getLsbD k.code) ∧
  (∀ b : Byte, (b = 0xFF → optionalSlot b = some none) ∧ (∀ x : Slot, b.toNat = x.val → optionalSlot b = some (some x)) ∧
    (96 ≤ b.toNat → b ≠ 0xFF → optionalSlot b = none)) ∧
  (∀ (ds : List DisplayNo) (d : DisplayNo), (displaySet ds).getLsbD d.val = decide (d ∈ ds))

/-! ### The lobby clock -/

/-- The three directives of the clock. MARK TIME (R42, R47, R56, R68 to R70): in RUNNING, HOLDOVER or LOST the record takes
the mark, the count 0 and RUNNING; a mark of another minute, or one that ends LOST, raises a minute boundary at which the
board evaluates; a mark of the held minute outside LOST changes nothing else; in UNSET it is refused DAY_CLOSED, out of
range BAD_FIELD. OPEN DAY (R49, R56) sets the record from UNSET, with a minute boundary at minute 0 at which the board
evaluates. CLOSE DAY (R50, R62, R118, R119) clears every occupied slot, zeroes its tally and empties the listing order,
returns every desk toggle to UNKNOWN, removes the SHOW-class and linked notices with one notice change, and takes the clock
to UNSET. OPEN DAY and CLOSE DAY are each refused in the other case. That a mark of CLOSE DAY may set RENDER_BACKLOG is the
model's (log 43). -/
def Obligations.ClockDirectives : Prop :=
  (∀ (s : State) (tag m1 m0 sec : Byte),
    (half m1 m0 ≤ 2879 → sec.toNat ≤ 59 → s.clock.state ≠ .unset →
      (∃ t, exec (.markTime tag [m1, m0, sec]) s = .next t ∧
        t.clock = { s.clock with state := .running, minute := half m1 m0, second := sec.toNat, sinceMark := 0 } ∧
        (half m1 m0 ≠ s.clock.minute ∨ s.clock.state = .lost → s.EvaluatesBoard t (half m1 m0)) ∧
        s.Leaves [.dir, .rep, .clock, .board, .notice, .fmt, .comp] t) ∧
      (half m1 m0 = s.clock.minute → s.clock.state ≠ .lost →
        exec (.markTime tag [m1, m0, sec]) s =
          .next { s with
            dir := { s.dir with span := none }
            clock := { s.clock with state := .running, second := sec.toNat, sinceMark := 0 } })) ∧
    (half m1 m0 ≤ 2879 → sec.toNat ≤ 59 → s.clock.state = .unset →
      ∃ t, exec (.markTime tag [m1, m0, sec]) s = .next t ∧ s.Refused t 0x01 tag .dayClosed) ∧
    (2879 < half m1 m0 ∨ 59 < sec.toNat →
      ∃ t, exec (.markTime tag [m1, m0, sec]) s = .next t ∧ s.Refused t 0x01 tag .badField)) ∧
  ∀ (s : State) (tag : Byte),
    (∀ c1 c0 d1 d0 : Byte, half c1 c0 ≤ 1439 → s.clock.state = .unset →
      ∃ t, exec (.openDay tag [c1, c0, d1, d0]) s = .next t ∧
        t.clock = { state := .running, minute := 0, second := 0, civilStart := half c1 c0, dayNumber := half d1 d0,
                    sinceMark := 0 } ∧
        s.EvaluatesBoard t 0 ∧
        s.Leaves [.dir, .rep, .clock, .board, .notice, .fmt, .comp] t) ∧
    (∀ c1 c0 d1 d0 : Byte, half c1 c0 ≤ 1439 → s.clock.state ≠ .unset →
      ∃ t, exec (.openDay tag [c1, c0, d1, d0]) s = .next t ∧ s.Refused t 0x02 tag .dayOpen) ∧
    (∀ c1 c0 d1 d0 : Byte, 1439 < half c1 c0 →
      ∃ t, exec (.openDay tag [c1, c0, d1, d0]) s = .next t ∧ s.Refused t 0x02 tag .badField) ∧
    (s.clock.state ≠ .unset → s.board.Ordered →
      ∃ t, exec (.closeDay tag []) s = .next t ∧
        t.clock = { s.clock with state := .unset, minute := 0, second := 0, sinceMark := 0 } ∧
        (∀ x : Slot, (t.showOf x).state = .vacant ∧
          ((s.showOf x).state ≠ .vacant → t.showOf x = Show.vacant ∧ t.tallyOf x = Tally.zeroed)) ∧
        t.board.order = [] ∧ t.board.nextDue = none ∧ t.board.titles = s.board.titles ∧
        (∀ k : Fin 16, t.tally.desks.read k = { s.tally.desks.read k with toggle := none }) ∧
        (∀ n ∈ t.notice.queue, n ∈ s.notice.queue ∧ n.cls ≠ .show ∧ n.linked = none) ∧
        (∀ n ∈ s.notice.queue, n.cls ≠ .show → n.linked = none → n.id.toNat < 160 → n ∈ t.notice.queue) ∧
        t.notice.post = s.notice.post ∧ t.notice.wake = s.notice.wake ∧ t.notice.chimes = s.notice.chimes ∧
        ((∀ n ∈ s.notice.queue, 160 ≤ n.id.toNat → n.cls = .show ∨ n.linked ≠ none) →
          s.TickersJudged t fun d => s.notice.queue.any fun n => (n.cls == .show || n.linked.isSome) && n.targets d) ∧
        t.dir = { s.dir with span := none } ∧
        s.Leaves [.dir, .rep, .clock, .board, .tally, .notice, .fmt, .comp] t) ∧
    (s.clock.state = .unset → ∃ t, exec (.closeDay tag []) s = .next t ∧ s.Refused t 0x03 tag .dayClosed)

/-- The clock counts (R43 to R45): what a second tick makes of the record, in whatever order its receivers take it (log 6),
and what the four rows that name its cases do, which are the parts of the tick (log 7, log 8). -/
def Obligations.ClockCounts : Prop :=
  ∀ s : State, s.clock.InRange →
    let c := s.clock
    let counting := c.state = .running ∨ c.state = .holdover
    let advanced : Clock := { c with
      minute := c.minute + 1, second := 0, sinceMark := c.sinceMark + 1
      state := if c.state = .running ∧ c.sinceMark + 1 = 10 then .holdover
        else if c.state = .holdover ∧ c.sinceMark + 1 = 60 then .lost else c.state }
    let entered (t : State) : Prop := s.rep.Quiet →
      (t.clock.state = .holdover → c.state = .running → AttentionFlag.clockHoldover.isIn t.rep.flags = true) ∧
      (t.clock.state = .lost → c.state ≠ .lost → AttentionFlag.clockLost.isIn t.rep.flags = true)
    (∀ order, ∃ t, exec (.secondTick order) s = .next t ∧
      t.clock =
        (if ¬ counting then c
        else if c.minute = 2879 ∧ c.second = 59 then { c with state := .lost }
        else if c.second = 59 then advanced
        else { c with second := c.second + 1 }) ∧
      t.divider = { s.divider with secondDue := false } ∧ entered t ∧
      s.Leaves [.dir, .rep, .clock, .divider, .board, .notice, .fmt, .comp] t) ∧
    (counting → c.minute < 2879 → ∃ t, exec .minuteBoundary s = .next t ∧ t.clock = advanced ∧ entered t ∧
      s.Leaves [.dir, .rep, .clock, .board, .notice, .fmt, .comp] t) ∧
    (c.state = .running → c.sinceMark = 9 → c.minute < 2879 →
      ∃ t, exec .enterHoldover s = .next t ∧
        t.clock = { c with state := .holdover, minute := c.minute + 1, second := 0, sinceMark := 10 } ∧ entered t ∧
        s.Leaves [.dir, .rep, .clock, .board, .notice, .fmt, .comp] t) ∧
    (c.state = .holdover → c.sinceMark = 59 → c.minute < 2879 →
      ∃ t, exec .enterLost s = .next t ∧
        t.clock = { c with state := .lost, minute := c.minute + 1, second := 0, sinceMark := 60 } ∧ entered t ∧
        s.Leaves [.dir, .rep, .clock, .board, .notice, .fmt, .comp] t) ∧
    (counting → c.minute = 2879 → c.second = 59 →
      ∃ t, exec .clockSaturation s = .next t ∧ t.clock = { c with state := .lost } ∧ entered t ∧
        s.Leaves [.rep, .clock, .fmt] t)

/-- The chime lines (R41, R124, R126): DRIVE CHIME LINE in its four cases, and refused BAD_FIELD; the tenth tick, which
reloads the divider; the two rows that name the cases of a tenth tick (log 7, log 8). Nothing but the chime lines and the
divider changes. -/
def Obligations.ChimeLinesPlay : Prop :=
  (∀ (s : State) (tag : Byte) (i : Fin 2) (v : Fin 2) (h : Pitch) (hc : Byte), Pitch.ofCode hc.toNat = some h →
    let l := s.notice.chimes.read i
    let driven (l' : ChimeLine) : State :=
      { s with dir := { s.dir with span := none }
               notice := { s.notice with chimes := s.notice.chimes.write i l' } }
    let run (mode : Byte) := exec (.driveChimeLine tag [BitVec.ofNat 8 i.val, mode, BitVec.ofNat 8 v.val, hc]) s
    (l.mode = .level → run 0 = .next (driven { l with level := (v == 1) })) ∧
    (l.mode = .level → run 1 = .next (driven { l with mode := .tone, pitch := h, pattern := none, requests := [] })) ∧
    (l.mode = .tone → run 1 = .next (driven { l with pitch := h })) ∧
    (l.mode = .tone →
      run 0 = .next (driven { l with mode := .level, level := (v == 1), pattern := none, requests := [] }))) ∧
  (∀ (s : State) (tag line mode level pitch : Byte),
    1 < line.toNat ∨ 1 < mode.toNat ∨ 1 < level.toNat ∨ 1 < pitch.toNat →
    ∃ t, exec (.driveChimeLine tag [line, mode, level, pitch]) s = .next t ∧ s.Refused t 0x22 tag .badField) ∧
  (∀ s : State,
    let started (l : ChimeLine) : ChimeLine :=
      match l.requests with
      | n :: rest => { l with pattern := some { strikesLeft := n, phase := .tone, countdown := 4 }, requests := rest }
      | [] => { l with pattern := none }
    let ended (l : ChimeLine) (p : Pattern) : ChimeLine :=
      match p.phase with
      | .tone => { l with pattern := some { strikesLeft := p.strikesLeft, phase := .silence, countdown := 2 } }
      | .silence =>
        if 2 ≤ p.strikesLeft then
          { l with pattern := some { strikesLeft := p.strikesLeft - 1, phase := .tone, countdown := 4 } }
        else started l
    let ticked (l : ChimeLine) : ChimeLine :=
      match l.mode, l.pattern with
      | .level, _ => l
      | .tone, none => started l
      | .tone, some p =>
        if 2 ≤ p.countdown then { l with pattern := some { p with countdown := p.countdown - 1 } } else ended l p
    exec .tenthTick s =
      .next { s with
        divider := { periods := 2700000, tenths := if 9 ≤ s.divider.tenths then 0 else s.divider.tenths + 1,
                     secondDue := s.divider.secondDue || decide (9 ≤ s.divider.tenths) }
        notice := { s.notice with chimes := Table.tabulate fun i => ticked (s.notice.chimes.read i) } } ∧
    ∀ i : Fin 2,
      let l := s.notice.chimes.read i
      let become (l' : ChimeLine) : State := { s with notice := { s.notice with chimes := s.notice.chimes.write i l' } }
      (l.mode = .tone → l.pattern = none → exec (.chimePatternStart i) s = .next (become (started l))) ∧
      (l.mode = .level ∨ l.pattern ≠ none → exec (.chimePatternStart i) s = .next s) ∧
      (∀ p, l.mode = .tone → l.pattern = some p →
        exec (.chimeCountdownExpiry i) s = .next (become (ended l p))) ∧
      (l.mode = .level ∨ l.pattern = none → exec (.chimeCountdownExpiry i) s = .next s))

/-! ### The show board -/

/-- A SHOW image at a VACANT slot (R19, R55, R58, R61, R63, R66 to R70, R75, R96): refused SHOW_PAST, then AUDITORIUM_CLASH;
otherwise the slot takes the image, evaluated at the current minute while the clock counts, its tally is opened, and it
joins the listing order. -/
def Obligations.ShowInserted : Prop :=
  ∀ (s : State) (tag : Byte) (x : Slot) (img : List Byte) (w : Show) (mode : TallyMode),
    s.dir.cursor = { table := .show, index := some x.val } → img.length = 19 →
    showOfImage img = some (.record w mode) → (s.showOf x).state = .vacant →
    let m := s.clock.minute
    let past := s.clock.state ≠ .unset ∧ w.start + w.grace ≤ m
    let clash := ∃ y : Slot, y ≠ x ∧ (s.showOf y).state ≠ .vacant ∧ (s.showOf y).state ≠ .retired ∧
      (s.showOf y).auditorium = w.auditorium ∧ w.start < (s.showOf y).start + (s.showOf y).runtime ∧
      (s.showOf y).start < w.start + w.runtime
    let counting := s.clock.state = .running ∨ s.clock.state = .holdover
    (past → ∃ t, exec (.writeEntryShow tag img) s = .next t ∧ s.Refused t 0x31 tag .showPast) ∧
    (¬ past → clash → ∃ t, exec (.writeEntryShow tag img) s = .next t ∧ s.Refused t 0x31 tag .auditoriumClash) ∧
    (¬ past → ¬ clash → s.board.Ordered → 1 ≤ s.settings.fillingPercent →
      ∃ t, exec (.writeEntryShow tag img) s = .next t ∧
        t.showOf x = { w with
          state := if counting ∧ w.start ≤ m then .started
            else if counting ∧ w.start - w.lead ≤ m then .boarding else .listed
          salesClosed := decide (counting ∧ w.start + w.closeOffset ≤ m) } ∧
        t.tallyOf x =
        { remaining := w.capacity, clip := 0, net := 0, mode := mode, unbalanced := false,
          band := if w.capacity ≤ s.settings.fewSeats then .few else .opened,
          acked := if w.capacity ≤ s.settings.fewSeats then .few else .opened,
          departed := false, lastOutcome := none } ∧
        (∀ y : Slot, y ≠ x → t.showOf y = s.showOf y ∧ t.tallyOf y = s.tallyOf y) ∧
        (t.board.order.filter fun y => y != x) = s.board.order ∧ t.board.Ordered ∧
        t.board.nextDue = nextDueOf t.board.shows ∧ t.board.titles = s.board.titles ∧
        t.tally.desks = s.tally.desks ∧
        t.dir.cursor = { table := .show, index := if x.val + 1 < 96 then some (x.val + 1) else none } ∧
        t.dir.staging = s.dir.staging ∧ t.dir.restorePoint = s.dir.restorePoint ∧ t.dir.span = none ∧
        s.Leaves [.dir, .rep, .board, .tally, .notice, .fmt, .comp] t)

/-- A SHOW image at an occupied slot, and a clear (R55, R61, R62, R64 to R70, R98, R99): an edit of a LISTED show takes the
image, with its capacity change in either mode and its mode change, which alone keeps remaining, the bands, departed and the
last outcome; a live edit takes four fields and is refused SHOW_LIVE where another differs; a RETIRED show refuses
SHOW_LIVE; a clear makes the slot VACANT with a zeroed tally and no linked notice; the clear of a VACANT slot moves the
cursor alone; an image that breaks a range is refused BAD_FIELD. -/
def Obligations.ShowRewritten : Prop :=
  ∀ (s : State) (tag : Byte) (x : Slot) (img : List Byte),
    s.dir.cursor = { table := .show, index := some x.val } → img.length = 19 →
    let m := s.clock.minute
    let old := s.showOf x
    let oldTally := s.tallyOf x
    let evaluated (w : Show) : Show := if s.clock.state.counts = true then w.evaluatedAt m else w
    let around (t : State) : Prop :=
      (∀ y : Slot, y ≠ x → t.showOf y = s.showOf y ∧ t.tallyOf y = s.tallyOf y) ∧
      t.board.nextDue = nextDueOf t.board.shows ∧ t.board.titles = s.board.titles ∧ t.tally.desks = s.tally.desks ∧
      t.dir.cursor = { table := .show, index := if x.val + 1 < 96 then some (x.val + 1) else none } ∧
      t.dir.staging = s.dir.staging ∧ t.dir.restorePoint = s.dir.restorePoint ∧ t.dir.span = none ∧
      s.Leaves [.dir, .rep, .board, .tally, .notice, .fmt, .comp] t
    (∀ w mode, showOfImage img = some (.record w mode) →
      let clash := ∃ y : Slot, y ≠ x ∧ (s.showOf y).state ≠ .vacant ∧ (s.showOf y).state ≠ .retired ∧
        (s.showOf y).auditorium = w.auditorium ∧ w.start < (s.showOf y).start + (s.showOf y).runtime ∧
        (s.showOf y).start < w.start + w.runtime
      let live := old.state = .boarding ∨ old.state = .started
      let same := w.auditorium = old.auditorium ∧ w.start = old.start ∧ w.runtime = old.runtime ∧ w.lead = old.lead ∧
        w.closeOffset = old.closeOffset ∧ w.grace = old.grace ∧ w.capacity = old.capacity ∧ mode = oldTally.mode
      (old.state = .listed → clash →
        ∃ t, exec (.writeEntryShow tag img) s = .next t ∧ s.Refused t 0x31 tag .auditoriumClash) ∧
      (old.state = .listed → ¬ clash → ∃ t, exec (.writeEntryShow tag img) s = .next t ∧
        t.showOf x = evaluated { w with state := .listed, salesClosed := old.salesClosed } ∧
        (w.capacity = old.capacity → mode = oldTally.mode → t.tallyOf x = oldTally) ∧
        (w.capacity ≠ old.capacity →
          let delta : Int := (w.capacity : Int) - old.capacity
          let taken : Int :=
            if oldTally.mode = .reconcile ∧ ((oldTally.clip < 0 ∧ 0 < delta) ∨ (0 < oldTally.clip ∧ delta < 0)) then
              min |oldTally.clip| |delta|
            else 0
          let target : Int := (oldTally.remaining : Int) + (delta - taken * delta.sign)
          let remaining : Int := max 0 (min (w.capacity : Int) target)
          let clipSum : Int := oldTally.clip - taken * oldTally.clip.sign + (target - remaining)
          let band : Band :=
            if remaining = 0 then .soldOut
            else if remaining ≤ s.settings.fewSeats then .few
            else if (w.capacity : Int) * s.settings.fillingPercent ≤ (w.capacity - remaining) * 100 then .filling
            else .opened
          (t.tallyOf x).remaining = remaining.toNat ∧ (t.tallyOf x).band = band ∧
          (t.tallyOf x).acked = oldTally.acked ∧ (t.tallyOf x).departed = decide (band ≠ oldTally.acked) ∧
          (t.tallyOf x).lastOutcome = oldTally.lastOutcome ∧
          (mode = oldTally.mode → (t.tallyOf x).net = oldTally.net ∧
            (t.tallyOf x).clip = (if mode = .strict then 0 else max (-127) (min 127 clipSum)) ∧
            (t.tallyOf x).unbalanced =
              (oldTally.unbalanced || decide (mode = .reconcile ∧ (clipSum < -127 ∨ 127 < clipSum)))) ∧
          (s.rep.Quiet → oldTally.mode = .reconcile → clipSum < -127 ∨ 127 < clipSum →
            AttentionFlag.clipLimit.isIn t.rep.flags = true)) ∧
        (mode ≠ oldTally.mode → (t.tallyOf x).mode = mode ∧ (t.tallyOf x).clip = 0 ∧
          (t.tallyOf x).net = ((t.tallyOf x).remaining : Int) - w.capacity ∧ (t.tallyOf x).unbalanced = false) ∧
        (mode ≠ oldTally.mode → w.capacity = old.capacity → t.tallyOf x = { oldTally with
          mode := mode, clip := 0, net := (oldTally.remaining : Int) - w.capacity, unbalanced := false }) ∧
        around t) ∧
      (live → same → ∃ t, exec (.writeEntryShow tag img) s = .next t ∧
        t.showOf x = evaluated { old with
          title := w.title, badges := w.badges, listingClass := w.listingClass, announce := w.announce } ∧
        t.tallyOf x = oldTally ∧ around t) ∧
      (live → ¬ same → ∃ t, exec (.writeEntryShow tag img) s = .next t ∧ s.Refused t 0x31 tag .showLive) ∧
      (old.state = .retired → ∃ t, exec (.writeEntryShow tag img) s = .next t ∧ s.Refused t 0x31 tag .showLive)) ∧
    (img.head? = some 0 → old.state ≠ .vacant → ∃ t, exec (.writeEntryShow tag img) s = .next t ∧
      t.showOf x = Show.vacant ∧ t.tallyOf x = Tally.zeroed ∧
      t.board.order = (s.board.order.filter fun y => y != x) ∧
      (∀ n ∈ t.notice.queue, n.linked ≠ some x) ∧ around t) ∧
    (img.head? = some 0 → old.state = .vacant → exec (.writeEntryShow tag img) s =
      .next { s with
        dir := { s.dir with
          span := none, cursor := { table := .show, index := if x.val + 1 < 96 then some (x.val + 1) else none } }
        board := { s.board with nextDue := nextDueOf s.board.shows } }) ∧
    (BadShowImage img → ∃ t, exec (.writeEntryShow tag img) s = .next t ∧ s.Refused t 0x31 tag .badField)

/-- A minute boundary by counting (R42, R44, R55, R56, R68 to R70): one that reaches the next due minute brings every
occupied, unretired show to the furthest state whose condition holds and closes the sales that are due, and the next due
minute is recomputed; one that does not reach it leaves the board as it was. The next due minute is the least pending
threshold of the occupied, unretired slots, and none where there is no such slot (R55). That the row advances the minute
itself, and at any second, is the model's (log 8, log 1). -/
def Obligations.BoundaryEvaluatesShows : Prop :=
  (∀ shows : Table Show 96,
    let unretired (x : Slot) : Prop := (shows.read x).state ≠ .vacant ∧ (shows.read x).state ≠ .retired
    let pending (x : Slot) (m : Nat) : Prop :=
      let w := shows.read x
      (w.state = .listed ∧ m = w.start - w.lead) ∨ ((w.state = .listed ∨ w.state = .boarding) ∧ m = w.start) ∨
        (w.salesClosed = false ∧ m = w.start + w.closeOffset) ∨ m = w.start + w.grace
    (∀ m, nextDueOf shows = some m ↔
      (∃ x, unretired x ∧ pending x m) ∧ ∀ x k, unretired x → pending x k → m ≤ k) ∧
    (nextDueOf shows = none ↔ ∀ x, ¬ unretired x)) ∧
  ∀ s : State, s.clock.state = .running ∨ s.clock.state = .holdover → s.clock.minute < 2879 →
    let m := s.clock.minute + 1
    ∃ t, exec .minuteBoundary s = .next t ∧ s.EvaluatesBoard t m ∧ t.tally = s.tally ∧
      s.Leaves [.dir, .rep, .clock, .board, .notice, .fmt, .comp] t ∧
      ((∀ due, s.board.nextDue = some due → m < due) → s.Leaves [.rep, .clock, .fmt] t)

/-- Boarding notices (R62, R65, R68, R72 to R74, R115, R118): a show that boards with announce set, by a minute boundary, an
insert or an edit, and a live edit that sets announce, place the notice 160 + slot with its fields and text, evict for it or
are refused QUEUE_FULL with tag 0; a show that leaves BOARDING, a clear and a live edit that clears announce withdraw it,
with the linked notices at a retirement or a clear. The text is 17 to 51 codes long. That MINUTE_BOUNDARY advances the
minute, and at any second, is the model's (log 8, log 1). -/
def Obligations.BoardingNotices : Prop :=
  (∀ (s : State) (x : Slot), NoticesOrdered s.notice.queue →
    let q := s.notice.queue
    let w := s.showOf x
    let id : Byte := BitVec.ofNat 8 (160 + x.val)
    let counting := s.clock.state = .running ∨ s.clock.state = .holdover
    let boards (v : Show) (m : Nat) : Prop := v.start - v.lead ≤ m ∧ m < v.start
    let notice (v : Show) : Notice :=
      let title := match fin? 64 v.title with
        | some i => (s.board.titles.read i).text
        | none => []
      { id := id, cls := .show, takeover := false, strikes := s.settings.boardingStrikes, lifetime := 0,
        target := BitVec.allOnes 12, linked := some x,
        text := codes ['B', 'O', 'A', 'R', 'D', 'I', 'N', 'G', ' ', 'S', 'C', 'R', 'E', 'E', 'N', ' '] ++
          digits v.auditorium ++ if title = [] then [] else 32 :: title }
    let requested (v : Show) (t : State) : Prop :=
      (∀ after, queueWith q (notice v) = some after →
        t.notice.queue = after ∧ s.CallsFor t (notice v) ∧ t.dir.refusalCount = s.dir.refusalCount ∧
        (32 ≤ q.length → s.rep.Quiet → AttentionFlag.noticeEvicted.isIn t.rep.flags = true)) ∧
      (queueWith q (notice v) = none →
        t.notice.queue = q ∧ t.dir.refusalCount = min 65535 (s.dir.refusalCount + 1) ∧
        t.dir.lastRefusal = some { kind := 0x20, tag := 0, reason := .queueFull } ∧
        (s.rep.Quiet → AttentionFlag.refused.isIn t.rep.flags = true))
    (counting → s.clock.minute < 2879 →
      let m := s.clock.minute + 1
      (∃ due, s.board.nextDue = some due ∧ due ≤ m) →
      (∀ y : Slot, y ≠ x → (s.showOf y).state ≠ .vacant → (s.showOf y).state ≠ .retired →
        ((s.showOf y).evaluatedAt m).state = (s.showOf y).state) →
      ∃ t, exec .minuteBoundary s = .next t ∧
        (w.state = .listed → boards w m → w.announce = true → (∀ n ∈ q, n.id ≠ id) → requested w t) ∧
        (w.state = .listed → boards w m → w.announce = false → t.notice.queue = q) ∧
        (w.state = .boarding → w.start ≤ m → t.dir = s.dir ∧
          t.notice.queue = q.filter fun n => n.id ≠ id ∧ (w.start + w.grace ≤ m → n.linked ≠ some x))) ∧
    ∀ (tag : Byte) (img : List Byte), s.dir.cursor = { table := .show, index := some x.val } → img.length = 19 →
      (img.head? = some 0 → w.state ≠ .vacant → ∃ t, exec (.writeEntryShow tag img) s = .next t ∧
        t.notice.queue = q.filter fun n => (w.state = .boarding → n.id ≠ id) ∧ n.linked ≠ some x) ∧
      ∀ v mode, showOfImage img = some (.record v mode) → s.showWriteRefusal x (.record v mode) = none →
        ∃ t, exec (.writeEntryShow tag img) s = .next t ∧
          (w.state = .vacant ∨ w.state = .listed → counting → boards v s.clock.minute →
            (v.announce = true → (∀ n ∈ q, n.id ≠ id) → requested v t) ∧
            (v.announce = false → t.notice.queue = q)) ∧
          (w.state = .boarding → ¬ (counting ∧ w.start ≤ s.clock.minute) →
            (v.announce = true → w.announce = false → (∀ n ∈ q, n.id ≠ id) → requested v t) ∧
            (v.announce = false → w.announce = true → t.notice.queue = q.filter fun n => n.id ≠ id) ∧
            (v.announce = w.announce → t.notice.queue = q))) ∧
  ∀ (s : State) (x : Slot), (s.showOf x).InRange → (∀ i : Fin 64, (s.board.titles.read i).Fits) →
    17 ≤ (s.boardingNotice x).text.length ∧ (s.boardingNotice x).text.length ≤ 51

/-- WRITE ENTRY at TITLE, TEMPLATE and SETTINGS (R23, R54, R59, R90, R91, R102, R134, R142): the entry takes the record that
the image spells and the cursor advances; a SETTINGS write recomputes the band of every occupied slot; a SETTINGS image with
another civil start or day number is refused READ_ONLY; an image that breaks a range is refused BAD_FIELD. That a TEMPLATE
field of any kind, not a LITERAL alone, keeps its third byte as a run is the model's (log 13). -/
def Obligations.TablesWritten : Prop :=
  ∀ (s : State) (tag : Byte) (img : List Byte),
    (∀ i : Fin 64, s.dir.cursor = { table := .title, index := some i.val } → img.length = 35 → ¬ BadTitleImage img →
      ∃ r : Title, titleOfImage img = some r ∧ r.SpelledBy img ∧ ∃ t, exec (.writeEntryTitle tag img) s = .next t ∧
        t.board = { s.board with titles := s.board.titles.write i r } ∧
        t.dir = { s.dir with
          span := none, cursor := { table := .title, index := if i.val + 1 < 64 then some (i.val + 1) else none } } ∧
        s.Leaves [.dir, .rep, .board, .fmt] t) ∧
    (∀ i : Fin 64, s.dir.cursor = { table := .title, index := some i.val } → img.length = 35 →
      BadTitleImage img → ∃ t, exec (.writeEntryTitle tag img) s = .next t ∧ s.Refused t 0x31 tag .badField) ∧
    (∀ i : Fin 32, s.dir.cursor = { table := .template, index := some i.val } → img.length = 40 →
      ¬ BadTemplateImage img → ∃ r : Template, templateOfImage img = some r ∧ r.SpelledBy img ∧
        ∃ t, exec (.writeEntryTemplate tag img) s = .next t ∧
        t.fmt.templates = s.fmt.templates.write i r ∧
        ({ s.fmt with templates := s.fmt.templates.write i r } : Formatter).MarkedFrom t.fmt ∧
        t.dir = { s.dir with
          span := none,
          cursor := { table := .template, index := if i.val + 1 < 32 then some (i.val + 1) else none } } ∧
        SameBut [.dir, .rep, .fmt] s t) ∧
    (∀ i : Fin 32, s.dir.cursor = { table := .template, index := some i.val } → img.length = 40 →
      BadTemplateImage img → ∃ t, exec (.writeEntryTemplate tag img) s = .next t ∧
        s.Refused t 0x31 tag .badField) ∧
    (s.dir.cursor = { table := .settings, index := some 0 } → img.length = 19 → ¬ BadSettingsImage img →
      ∃ (c : Settings) (civil day : Nat), settingsOfImage img = some (c, civil, day) ∧ c.SpelledBy civil day img ∧
      (civil = s.clock.civilStart → day = s.clock.dayNumber →
        ∃ t, exec (.writeEntrySettings tag img) s = .next t ∧ t.settings = c ∧
          (∀ x : Slot,
            let old := s.tallyOf x
            let cap := (s.showOf x).capacity
            let band : Band :=
              if old.remaining = 0 then .soldOut
              else if old.remaining ≤ c.fewSeats then .few
              else if cap * c.fillingPercent ≤ (cap - old.remaining) * 100 then .filling
              else .opened
            t.tallyOf x =
              if (s.showOf x).state = .vacant then old
              else { old with band := band, departed := decide (band ≠ old.acked) }) ∧
          t.tally.desks = s.tally.desks ∧
          t.dir = { s.dir with span := none, cursor := { table := .settings, index := none } } ∧
          s.Leaves [.dir, .rep, .settings, .tally, .fmt] t) ∧
      (civil ≠ s.clock.civilStart ∨ day ≠ s.clock.dayNumber →
        ∃ t, exec (.writeEntrySettings tag img) s = .next t ∧ s.Refused t 0x31 tag .readOnly)) ∧
    (s.dir.cursor = { table := .settings, index := some 0 } → img.length = 19 → BadSettingsImage img →
      ∃ t, exec (.writeEntrySettings tag img) s = .next t ∧ s.Refused t 0x31 tag .badField)

/-! ### The tally unit -/

/-- A SALE that is no repeat and passes the gate (R83 to R93): the whole tally record and desk record after it, from the
numbers of the stages. A clamped sale is applied too. -/
def Obligations.SaleApplied : Prop :=
  ∀ (s : State) (tag : Byte) (k : Fin 16) (g : Fin 2) (x : Slot) (delta : Byte),
    (s.tally.desks.read k).toggle ≠ some (g == 1) → s.clock.state ≠ .unset →
    (s.showOf x).state ≠ .vacant → (s.showOf x).state ≠ .retired → (s.showOf x).salesClosed = false →
    let old := s.tallyOf x
    let cap : Int := (s.showOf x).capacity
    let d := delta.toInt
    let absorbed : Int :=
      if old.mode = .reconcile ∧ ((old.clip < 0 ∧ 0 < d) ∨ (0 < old.clip ∧ d < 0)) then
        min |old.clip| |d|
      else 0
    let clip := old.clip - absorbed * old.clip.sign
    let target := (old.remaining : Int) + (d - absorbed * d.sign)
    let remaining := max 0 (min cap target)
    let clipSum := clip + (target - remaining)
    let clip' := if old.mode = .strict then 0 else max (-127) (min 127 clipSum)
    let netSum := old.net + d
    let net' := max (-9999) (min 9999 netSum)
    let unbalanced := decide (net' ≠ netSum ∨ (old.mode = .reconcile ∧ clip' ≠ clipSum))
    let band : Band :=
      if remaining = 0 then .soldOut
      else if remaining ≤ s.settings.fewSeats then .few
      else if cap * s.settings.fillingPercent ≤ (cap - remaining) * 100 then .filling
      else .opened
    let outcome : SaleOutcome := if target < 0 then .clampedLow else if cap < target then .clampedHigh else .applied
    ∃ t, exec (.sale tag [BitVec.ofNat 8 k.val, BitVec.ofNat 8 g.val, BitVec.ofNat 8 x.val, delta]) s = .next t ∧
      t.tallyOf x =
        { remaining := remaining.toNat, clip := clip', net := net', mode := old.mode,
          unbalanced := old.unbalanced || unbalanced, band := band, acked := old.acked,
          departed := decide (band ≠ old.acked), lastOutcome := some outcome } ∧
      (∀ y : Slot, y ≠ x → t.tallyOf y = s.tallyOf y) ∧
      t.tally.desks.read k =
        { s.tally.desks.read k with toggle := some (g == 1), lastSlot := some x, lastOutcome := some outcome } ∧
      (∀ j : Fin 16, j ≠ k → t.tally.desks.read j = s.tally.desks.read j) ∧
      (s.rep.Quiet →
        (unbalanced = true → AttentionFlag.clipLimit.isIn t.rep.flags = true) ∧
        (band ≠ old.acked → old.departed = false → AttentionFlag.band.isIn t.rep.flags = true ∧
          (s.rep.queue.length < 15 → Report.alert x old.acked band remaining.toNat ∈ t.rep.queue))) ∧
      t.dir = { s.dir with span := none } ∧
      s.Leaves [.dir, .rep, .tally, .fmt] t

/-- The desk check (R84): the same toggle again is a repeat, which counts at the desk, marks the desk's and an occupied
slot's outcome, and changes nothing else; any other toggle is recorded, whatever the gate then says, and the gate is
reached. The gate (R85): DAY_CLOSED in UNSET, then NO_SHOW at a VACANT or RETIRED slot, then SALES_CLOSED; a refused SALE
leaves every tally and the rest of the desk record; RUNNING, HOLDOVER and LOST pass the first test, and a LISTED, BOARDING
or STARTED show with open sales passes the gate and goes on to the net stage. -/
def Obligations.SaleChecks : Prop :=
  (∀ (s : State) (tag : Byte) (k : Fin 16) (g : Fin 2) (x : Slot) (delta : Byte),
    let desk := s.tally.desks.read k
    let sale := Instr.sale tag [BitVec.ofNat 8 k.val, BitVec.ofNat 8 g.val, BitVec.ofNat 8 x.val, delta]
    (desk.toggle = some (g == 1) →
      exec sale s =
        .next { s with
          dir := { s.dir with span := none }
          tally :=
            { tallies := if (s.showOf x).state = .vacant then s.tally.tallies
                else s.tally.tallies.write x { s.tallyOf x with lastOutcome := some .repeated }
              desks := s.tally.desks.write k { desk with
                repeats := min 255 (desk.repeats + 1), lastOutcome := some .repeated } } }) ∧
    (desk.toggle ≠ some (g == 1) → ∃ t, exec sale s = .next t ∧ (t.tally.desks.read k).toggle = some (g == 1) ∧
      (t.tally.desks.read k).repeats = desk.repeats ∧
      (∀ j : Fin 16, j ≠ k → t.tally.desks.read j = s.tally.desks.read j) ∧
      (s.clock.state = .unset →
        t.dir.lastRefusal = some { kind := 0x10, tag := tag, reason := .dayClosed }))) ∧
  ∀ (s : State) (tag : Byte) (k : Fin 16) (g : Fin 2) (x : Slot) (delta : Byte),
    (s.tally.desks.read k).toggle ≠ some (g == 1) →
    let sale := Instr.sale tag [BitVec.ofNat 8 k.val, BitVec.ofNat 8 g.val, BitVec.ofNat 8 x.val, delta]
    let refused (reason : Reason) : Prop := ∃ t, exec sale s = .next t ∧
      t.dir = { s.dir with
        span := none, refusalCount := min 65535 (s.dir.refusalCount + 1)
        lastRefusal := some { kind := 0x10, tag := tag, reason := reason } } ∧
      (s.rep.Quiet → AttentionFlag.refused.isIn t.rep.flags = true ∧ s.rep.GrownFrom t.rep) ∧
      t.tally = { s.tally with
        desks := s.tally.desks.write k { s.tally.desks.read k with toggle := some (g == 1) } } ∧
      SameBut [.dir, .rep, .tally] s t
    let gone := (s.showOf x).state = .vacant ∨ (s.showOf x).state = .retired
    (s.clock.state = .unset → refused .dayClosed) ∧
    (s.clock.state ≠ .unset → gone → refused .noShow) ∧
    (s.clock.state ≠ .unset → ¬ gone → (s.showOf x).salesClosed = true → refused .salesClosed) ∧
    (s.clock.state ≠ .unset → ¬ gone → (s.showOf x).salesClosed = false → ∃ t, exec sale s = .next t ∧
      (t.tally.desks.read k).lastSlot = some x ∧
      (t.tallyOf x).net = max (-9999) (min 9999 ((s.tallyOf x).net + delta.toInt)))

/-- ACKNOWLEDGE BAND sets the acknowledged band and departed and nothing else, in every clock state and at every occupied
slot; a VACANT slot is refused NO_SHOW, a slot or band out of range BAD_FIELD (R95). A TALLY image whose other fields equal
the record changes the mode of a LISTED or BOARDING show with open sales, with clip 0, net remaining minus capacity and
unbalanced clear, and is refused SHOW_LIVE elsewhere, READ_ONLY where a field differs and BAD_FIELD where a field is out of
range (R99, R100; that remaining is held to the show's capacity is log 14). -/
def Obligations.BandsAndModes : Prop :=
  (∀ (s : State) (tag : Byte) (x : Slot) (code : Byte) (b : Band), Band.ofCode code.toNat = some b →
    ((s.showOf x).state ≠ .vacant →
      exec (.acknowledgeBand tag [BitVec.ofNat 8 x.val, code]) s =
        .next { s with
          dir := { s.dir with span := none }
          tally := { s.tally with tallies := s.tally.tallies.write x { s.tallyOf x with
            acked := b, departed := decide ((s.tallyOf x).band ≠ b) } } }) ∧
    ((s.showOf x).state = .vacant → ∃ t, exec (.acknowledgeBand tag [BitVec.ofNat 8 x.val, code]) s = .next t ∧
      s.Refused t 0x11 tag .noShow)) ∧
  (∀ (s : State) (tag slot code : Byte), 95 < slot.toNat ∨ 3 < code.toNat →
    ∃ t, exec (.acknowledgeBand tag [slot, code]) s = .next t ∧ s.Refused t 0x11 tag .badField) ∧
  ∀ (s : State) (tag : Byte) (x : Slot) (img : List Byte),
    s.dir.cursor = { table := .tally, index := some x.val } → img.length = 10 →
    (BadTallyImage (s.showOf x).capacity img →
      ∃ t, exec (.writeEntryTally tag img) s = .next t ∧ s.Refused t 0x31 tag .badField) ∧
    (¬ BadTallyImage (s.showOf x).capacity img →
    ∃ r : Tally, tallyOfImage (s.showOf x).capacity img = some r ∧ r.SpelledBy img ∧
    let equal := { r with mode := (s.tallyOf x).mode } = s.tallyOf x
    let selling := ((s.showOf x).state = .listed ∨ (s.showOf x).state = .boarding) ∧ (s.showOf x).salesClosed = false
    (equal → selling →
      exec (.writeEntryTally tag img) s =
        .next { s with
          dir := { s.dir with
            span := none, cursor := { table := .tally, index := if x.val + 1 < 96 then some (x.val + 1) else none } }
          tally := { s.tally with tallies := s.tally.tallies.write x { s.tallyOf x with
            mode := r.mode, clip := 0, net := ((s.tallyOf x).remaining : Int) - (s.showOf x).capacity,
            unbalanced := false } } }) ∧
    (equal → ¬ selling → ∃ t, exec (.writeEntryTally tag img) s = .next t ∧ s.Refused t 0x31 tag .showLive) ∧
    (¬ equal → ∃ t, exec (.writeEntryTally tag img) s = .next t ∧ s.Refused t 0x31 tag .readOnly))

/-! ### Notices -/

/-- POST NOTICE (R108 to R114, R119, R123, R125, R164): a single-fragment post and a completing fragment are placed, as new,
as a replacement or with an eviction, with the chime and wake requests and one notice change; a placement that fails is
refused QUEUE_FULL; a longer post waits in the post buffer; a fragment that does not fit it is refused BAD_FIELD and empties
it; a fragment 0 with a field out of range, and an index above 2, are refused BAD_FIELD. That either row follows the index
of its payload is the model's (log 9), and so is the BAD_FIELD of an index above 2 at either length (log 35). -/
def Obligations.PostPlaced : Prop :=
  ∀ s : State, NoticesOrdered s.notice.queue →
    let q := s.notice.queue
    let live (n : Notice) : Prop := ∃ m ∈ q, m.id = n.id
    let fails (n : Notice) : Prop := ¬ live n ∧ 32 ≤ q.length ∧ ∀ m, q.getLast? = some m → m.cls.code ≤ n.cls.code
    let emptied : State := { s with notice := { s.notice with post := none } }
    let placed (n : Notice) (t : State) : Prop :=
      (live n →
        t.notice.queue =
          if ∃ m ∈ q, m.id = n.id ∧ m.cls = n.cls then q.map fun m => if m.id = n.id then n else m
          else (q.filter fun m => m.id ≠ n.id ∧ m.cls.code ≤ n.cls.code) ++ [n] ++
            q.filter fun m => m.id ≠ n.id ∧ n.cls.code < m.cls.code) ∧
      (¬ live n →
        let kept := if q.length < 32 then q else q.dropLast
        t.notice.queue =
          (kept.filter fun m => m.cls.code ≤ n.cls.code) ++ [n] ++ kept.filter fun m => n.cls.code < m.cls.code) ∧
      (¬ live n → 32 ≤ q.length → s.rep.Quiet →
        AttentionFlag.noticeEvicted.isIn t.rep.flags = true ∧
        ∀ m, q.getLast? = some m → s.rep.queue.length < 16 → Report.noticeEvicted m.id m.cls ∈ t.rep.queue) ∧
      t.notice.post = none ∧
      s.CallsFor t n ∧
      (s.TickersJudged t fun d => n.targets d || (q.any fun m => m.id == n.id && m.targets d) ||
        (decide (¬ live n ∧ 32 ≤ q.length) && (q.getLast?.any fun m => m.targets d))) ∧
      t.comp = { s.comp with tickers := t.comp.tickers } ∧
      t.dir = { s.dir with span := none } ∧
      s.Leaves [.dir, .rep, .notice, .fmt, .comp] t
    ∀ (tag : Byte) (p : List Byte) (c : Instr), c = .postNoticeFragment0 tag p ∨ c = .postNoticeFragment12 tag p →
      (∀ (index id packed l1 l0 range link declared : Byte) (positions : List Byte),
        p = [index, id, packed, l1, l0, range, link, declared] ++ positions → positions.length = 32 →
        2 < index.toNat ∨ (index = 0 ∧ (3 < packed.toNat % 8 ∨ 63 < packed.toNat ∨ 3600 < half l1 l0 ∨
          11 < range.toNat % 16 ∨ 3 < range.toNat / 16 ∨ (95 < link.toNat ∧ link ≠ 0xFF) ∨ declared.toNat = 0 ∨
          80 < declared.toNat ∨ (0 : Byte) ∈ positions.take declared.toNat)) →
        ∃ t, exec c s = .next t ∧ s.Refused t 0x20 tag .badField) ∧
      (∀ index : Byte, p.length = 26 → p.head? = some index → 2 < index.toNat →
        ∃ t, exec c s = .next t ∧ s.Refused t 0x20 tag .badField) ∧
      (∀ (id packed l1 l0 range link declared : Byte) (positions : List Byte) (cls : NoticeClass) (ds : List DisplayNo)
          (slot : Option Slot),
        p = [0, id, packed, l1, l0, range, link, declared] ++ positions → positions.length = 32 →
        packed.toNat < 64 → NoticeClass.ofCode (packed.toNat % 8) = some cls → half l1 l0 ≤ 3600 →
        rangeField s.dir.span range = some ds → optionalSlot link = some slot →
        1 ≤ declared.toNat → declared.toNat ≤ 80 → (0 : Byte) ∉ positions.take declared.toNat →
        let n : Notice :=
          { id := id, cls := cls, takeover := decide (8 ≤ packed.toNat % 16 ∧ cls = .urgent),
            strikes := packed.toNat / 16, lifetime := half l1 l0, target := displaySet ds, linked := slot,
            text := positions.take declared.toNat }
        (160 ≤ id.toNat → ∃ t, exec c s = .next t ∧ s.Refused t 0x20 tag .reservedId) ∧
        (id.toNat < 160 → declared.toNat ≤ 32 → ¬ fails n → ∃ t, exec c s = .next t ∧ placed n t) ∧
        (id.toNat < 160 → declared.toNat ≤ 32 → fails n →
          ∃ t, exec c s = .next t ∧ emptied.Refused t 0x20 tag .queueFull) ∧
        (id.toNat < 160 → 32 < declared.toNat → exec c s =
          .next { s with
            dir := { s.dir with span := none }
            notice := { s.notice with
              post := some { notice := n, declared := declared.toNat, expected := 1, tag := tag } } })) ∧
      (∀ (index id : Byte) (positions : List Byte), p = [index, id] ++ positions → positions.length = 24 →
        index = 1 ∨ index = 2 →
        (s.notice.post = none → ∃ t, exec c s = .next t ∧ s.Refused t 0x20 tag .badField) ∧
        ∀ held, s.notice.post = some held →
          let more := positions.take (held.declared - if index = 1 then 32 else 56)
          let n : Notice := { held.notice with text := held.notice.text ++ more }
          let misfit := id ≠ held.notice.id ∨ index.toNat ≠ held.expected ∨ (0 : Byte) ∈ more
          (misfit → ∃ t, exec c s = .next t ∧ emptied.Refused t 0x20 tag .badField) ∧
          (¬ misfit → n.text.length = held.declared → ¬ fails n → ∃ t, exec c s = .next t ∧ placed n t) ∧
          (¬ misfit → n.text.length = held.declared → fails n →
            ∃ t, exec c s = .next t ∧ emptied.Refused t 0x20 tag .queueFull) ∧
          (¬ misfit → n.text.length ≠ held.declared → exec c s =
            .next { s with
              dir := { s.dir with span := none }
              notice := { s.notice with post := some { held with notice := n, expected := 2 } } }))

/-- How notices leave (R116, R117), with one notice change for those that leave together (R119, R164): WITHDRAW NOTICE takes
the named notice, or is refused NOT_FOUND; LIFETIME_EXPIRY takes the notices of lifetime 1 (log 1); a second tick at which
the business minute does not advance ages every other notice as well. The post buffer and the chime and wake requests
stay. -/
def Obligations.NoticesLeave : Prop :=
  ∀ s : State,
    let q := s.notice.queue
    (∀ tag id : Byte, (∃ n ∈ q, n.id = id) → ∃ t, exec (.withdrawNotice tag [id]) s = .next t ∧
      t.notice = { s.notice with queue := q.filter fun n => n.id ≠ id } ∧
      t.comp = { s.comp with tickers := t.comp.tickers } ∧ t.dir = { s.dir with span := none } ∧
      (s.TickersJudged t fun d => q.any fun n => n.id == id && n.targets d) ∧
      s.Leaves [.dir, .rep, .notice, .fmt, .comp] t) ∧
    (∀ tag id : Byte, (∀ n ∈ q, n.id ≠ id) →
      ∃ t, exec (.withdrawNotice tag [id]) s = .next t ∧ s.Refused t 0x21 tag .notFound) ∧
    (∃ t, exec .lifetimeExpiry s = .next t ∧
      t.notice = { s.notice with queue := q.filter fun n => n.lifetime ≠ 1 } ∧
      t.comp = { s.comp with tickers := t.comp.tickers } ∧
      (s.TickersJudged t fun d => q.any fun n => n.lifetime == 1 && n.targets d) ∧
      s.Leaves [.rep, .notice, .fmt, .comp] t) ∧
    (∀ order, s.clock.second ≠ 59 ∨ s.clock.state = .unset ∨ s.clock.state = .lost →
      ∃ t, exec (.secondTick order) s = .next t ∧
        t.notice = { s.notice with
          queue := (q.filter fun n => n.lifetime ≠ 1).map fun n => { n with lifetime := n.lifetime - 1 } } ∧
        t.comp = { s.comp with pages := t.comp.pages, tickers := t.comp.tickers } ∧
        s.Leaves [.rep, .clock, .divider, .notice, .fmt, .comp] t)

/-! ### The tile formatter -/

/-- The texts of fields and rows (R52, R53, R103, R143, R145, R146). Each of the 13 field kinds has its text, with a show
and without one: CLOCK, NOTICE and LITERAL in every row, the ten show kinds from the records of the row's show, MINUTES
blank unless the show is LISTED or BOARDING and the clock is RUNNING or HOLDOVER. A field's text is fitted to its width: cut
with the ellipsis code, or as it stands, or padded by its alignment. A row is its fitted fields side by side in list order,
padded with spaces or cut to the row width with no ellipsis. Decimal digits give their number back, with no leading zero;
the seats-left figure by its table, of 1 to 8 codes; civil times in the 24-HOUR form, of five codes, and in the 12-HOUR
form, of seven or eight. -/
def Obligations.FittedTexts : Prop :=
  (∀ (ellipsis : Byte) (align : Machine.Alignment) (w : Nat) (text : List Byte),
    let fitted := fitText ellipsis align w text
    let l := text.length
    fitted.length = w ∧
    (w < l → 2 ≤ w → fitted = text.take (w - 1) ++ [ellipsis]) ∧
    (w < l → w = 1 → fitted = text.take 1) ∧
    (l = w → fitted = text) ∧
    (l < w →
      (align = .left → fitted = text ++ List.replicate (w - l) 32) ∧
      (align = .right → fitted = List.replicate (w - l) 32 ++ text) ∧
      (align = .centre →
        fitted = List.replicate ((w - l) / 2) 32 ++ text ++ List.replicate (w - l - (w - l) / 2) 32))) ∧
  (∀ (st : Settings) (c : Clock) (src : RowSource) (pool : List Byte) (f : TemplateField),
    let text := fieldText st c src pool f
    let counting := c.state = .running ∨ c.state = .holdover
    (f.kind = .clock →
      (counting → text = civilText st.timeForm (civilOf c.civilStart c.minute)) ∧
      (¬ counting → text = [45, 45, 58, 45, 45])) ∧
    (f.kind = .notice → text = src.notice) ∧
    (f.kind = .literal → text = (pool.drop f.runFirst).take f.runLength) ∧
    (f.kind ≠ .clock → f.kind ≠ .notice → f.kind ≠ .literal → src.show? = none → text = []) ∧
    ∀ (w : Show) (t : Tally) (x : Title), src.show? = some (w, t, x) →
      (f.kind = .title → text = x.text) ∧
      (f.kind = .rating → (∀ code, x.rating = some code → text = [code]) ∧ (x.rating = none → text = [])) ∧
      (f.kind = .auditorium → text = codes ['S', 'C', 'R', 'E', 'E', 'N', ' '] ++ digits w.auditorium) ∧
      (f.kind = .start → text = civilText st.timeForm (civilOf c.civilStart w.start)) ∧
      (f.kind = .ends → text = civilText st.timeForm (civilOf c.civilStart (w.start + w.runtime))) ∧
      (f.kind = .minutes → text =
        if (w.state = .listed ∨ w.state = .boarding) ∧ counting then digits (min 999 (w.start - c.minute)) else []) ∧
      (f.kind = .seats → text = seatsLeft st w t) ∧
      (f.kind = .bandword →
        (t.band = .opened → text = []) ∧
        (t.band = .filling → text = codes ['F', 'I', 'L', 'L', 'I', 'N', 'G']) ∧
        (t.band = .few → text = codes ['F', 'E', 'W', ' ', 'L', 'E', 'F', 'T']) ∧
        (t.band = .soldOut → text = codes ['S', 'O', 'L', 'D', ' ', 'O', 'U', 'T'])) ∧
      (f.kind = .state →
        (w.state = .boarding → text = codes ['B', 'O', 'A', 'R', 'D', 'I', 'N', 'G']) ∧
        (w.state = .started → text = codes ['N', 'O', 'W', ' ', 'S', 'H', 'O', 'W', 'I', 'N', 'G']) ∧
        (w.state = .listed ∨ w.state = .retired → text = [])) ∧
      (f.kind = .badges → text.length = 2 * w.badges.length - 1 ∧
        ∀ i : Nat, text[2 * i]? = w.badges[i]? ∧ (i + 1 < w.badges.length → text[2 * i + 1]? = some 32))) ∧
  (∀ (st : Settings) (c : Clock) (src : RowSource) (tpl : Template) (w : Nat),
    let fields := (tpl.fields.map fun f => fitText st.ellipsis f.align f.width (fieldText st c src tpl.pool f)).flatten
    let row := buildRow st c src tpl w
    row.length = w ∧ (fields.length ≤ w → row = fields ++ List.replicate (w - fields.length) 32) ∧
      (w < fields.length → row = fields.take w) ∧ (tpl.fields = [] → row = List.replicate w 32)) ∧
  (∀ cs : List Char, codes cs = cs.map fun c => BitVec.ofNat 8 c.toNat) ∧
  (∀ n : Nat, n < 10000000000 →
    (digits n).foldl (fun v b => 10 * v + (b.toNat - 48)) 0 = n ∧
    (∀ b ∈ digits n, 48 ≤ b.toNat ∧ b.toNat ≤ 57) ∧
    (n ≠ 0 → (digits n).head? ≠ some 48) ∧ (n = 0 → digits n = [48])) ∧
  (∀ (st : Settings) (w : Show) (t : Tally), t.remaining ≤ 999 →
    let shown := t.remaining / st.step * st.step
    let figure := seatsLeft st w t
    (w.salesClosed = true → figure = codes ['C', 'L', 'O', 'S', 'E', 'D']) ∧
    (w.salesClosed = false → t.remaining = 0 → figure = codes ['S', 'O', 'L', 'D', ' ', 'O', 'U', 'T']) ∧
    (w.salesClosed = false → t.remaining ≠ 0 →
      figure = if st.exactLimit < t.remaining ∧ st.exactLimit < shown then digits shown ++ [43] else digits t.remaining) ∧
    1 ≤ figure.length ∧ figure.length ≤ 8 ∧
    (w.salesClosed = false → t.remaining ≠ 0 → figure.length ≤ 4)) ∧
  ∀ civil v : Nat,
    let minutes := (civil + v) % 1440
    ∃ a b c d : Byte, civilText .hour24 (civilOf civil v) = [a, b, 58, c, d] ∧
      (∀ x ∈ [a, b, c, d], 48 ≤ x.toNat ∧ x.toNat ≤ 57) ∧
      10 * (a.toNat - 48) + (b.toNat - 48) = minutes / 60 ∧ 10 * (c.toNat - 48) + (d.toNat - 48) = minutes % 60 ∧
      civilText .hour12 (civilOf civil v) =
        digits (if minutes / 60 % 12 = 0 then 12 else minutes / 60 % 12) ++ [58, c, d, 32] ++
          (if minutes / 60 < 12 then codes ['A', 'M'] else codes ['P', 'M']) ∧
      7 ≤ (civilText .hour12 (civilOf civil v)).length ∧ (civilText .hour12 (civilOf civil v)).length ≤ 8

/-- Renders (R135 to R138, R140, R141). The row that a render finds: of a layout tile, by its region's kind, the eligible
show at page index times height plus row, the fixed slot or the next show of an auditorium, or the clock, each under its
template and at twice the region's width; of a notice tile, the takeover notice centred, the ticker's notice at the left, or
the TICKER region's template with it; a row of spaces where there is no source or no template; with the bound source and the
minutes shown. RENDER_START takes the head of the queue with that row and does nothing at a busy engine or an empty queue;
RENDER_COMPLETION ends the render in flight, starts the next, lets a stale tile join again, and runs the sweep, which finds
the first DIRTY tile in cyclic order. The model's own: RENDER_START as a row of its own, which no reachable state gives work
(log 8), the completion at an idle engine that changes nothing (log 2), the text built at the start and held by the engine
(log 11), and the takeover notice found in the queue at the render, where R137 might mean the recorded one (log 17). -/
def Obligations.RenderCycle : Prop :=
  (∀ (s : State) (u : TileNo), NoticesOrdered s.notice.queue → s.RowIs u (s.renderRow u)) ∧
  (∀ s : State,
    (∀ t rest, s.fmt.engine = none → s.fmt.queue = t :: rest →
      let row := s.renderRow t
      exec .renderStart s = .next { s with fmt := { s.fmt with
        tiles := s.fmt.tiles.write t { s.fmt.tiles.read t with
          state := .rendering, stale := false, released := false, bound := row.bound, minutes := row.minutes }
        queue := rest
        engine := some { tile := t, text := row.text } } }) ∧
    (s.fmt.engine ≠ none ∨ s.fmt.queue = [] → exec .renderStart s = .next s) ∧
    (s.fmt.engine = none → exec .renderCompletion s = .next s)) ∧
  (∀ (s : State) (r : Render), s.fmt.Coherent → s.fmt.engine = some r →
    let x := s.fmt.tiles.read r.tile
    let again := x.stale = true ∧ x.released = false
    let waiting := s.fmt.queue ++ if again then [r.tile] else []
    let swept := if waiting.length ≤ 16 then s.fmt.sweepFinds.toList else []
    let order := waiting ++ swept
    ∃ t, exec .renderCompletion s = .next t ∧
      t.fmt.queue = order.tail ∧
      t.fmt.engine = order.head?.map (fun u => { tile := u, text := (s.renderRow u).text }) ∧
      t.fmt.sweep = swept.head?.getD s.fmt.sweep ∧ t.fmt.templates = s.fmt.templates ∧
      (x.released = true →
        t.fmt.tiles.read r.tile = { x with state := .idle, stale := false, released := false }) ∧
      (x.released = false → x.stale = false →
        t.fmt.tiles.read r.tile = { x with state := .clean, pendingText := r.text, ready := true }) ∧
      (again → (t.fmt.tiles.read r.tile).state = (if s.fmt.queue = [] then .rendering else .queued) ∧
        (t.fmt.tiles.read r.tile).pendingText = x.pendingText ∧ (t.fmt.tiles.read r.tile).ready = x.ready) ∧
      (∀ u : TileNo, u ≠ r.tile →
        (t.fmt.tiles.read u).pendingText = (s.fmt.tiles.read u).pendingText ∧
        (t.fmt.tiles.read u).ready = (s.fmt.tiles.read u).ready ∧
        (u ∉ order → t.fmt.tiles.read u = s.fmt.tiles.read u)) ∧
      (∀ u : TileNo, (t.fmt.tiles.read u).committed = (s.fmt.tiles.read u).committed) ∧
      SameBut [.fmt] s t) ∧
  ∀ (f : Formatter) (u : TileNo), f.sweepFinds = some u ↔
    (f.tiles.read u).state = .dirty ∧
    ∀ v : TileNo, (f.tiles.read v).state = .dirty →
      (u.val + 159 - f.sweep.val) % 160 ≤ (v.val + 159 - f.sweep.val) % 160

/-- Dirty marks (R131 to R135, R140 to R142): which tiles the marks of each source event reach, by their bound source, their
binding and their template, and what they do there; then the tiles that a command's marks reach: a TEMPLATE and a SETTINGS
write, a TITLE write, a minute boundary, a clear, a SALE that moves the figures, a withdrawal, a page turn, a ticker step.
That MINUTE_BOUNDARY, PAGE_TURN and TICKER_STEP act at any second and countdown is the model's (log 1, log 8). -/
def Obligations.DirtyMarks : Prop :=
  ∀ s : State, s.fmt.Coherent →
    let tile (u : TileNo) : Tile := s.fmt.tiles.read u
    let holds (u : TileNo) (k : FieldKind) : Bool :=
      match s.tileTemplate u with
      | some n => (s.fmt.templates.read n).fields.any fun f => f.kind == k
      | none => false
    let boundTo (u : TileNo) (x : Slot) : Bool := decide ((tile u).bound = some (.slot x))
    ((∀ x, s.Marks (s.slotMark x) fun u => boundTo u x) ∧
      (∀ x, s.Marks (s.seatMark x) fun u => boundTo u x && (holds u .seats || holds u .bandword)) ∧
      (s.Marks s.listingMarks fun u =>
        match (tile u).binding with
        | some b =>
          let g := s.comp.region b.layout b.region
          g.kind == .listing ||
          (g.kind == .card && decide (g.k0.toNat = 1 ∧ 1 ≤ g.k1.toNat ∧ g.k1.toNat ≤ 24))
        | none => false) ∧
      (∀ m, s.Marks (s.minuteMarks m) fun u =>
        holds u .clock ||
        (holds u .minutes &&
          match (tile u).bound with
          | some (.slot x) =>
            let w := s.showOf x
            (w.state == .listed || w.state == .boarding) && decide ((tile u).minutes ≠ some (min 999 (w.start - m)))
          | _ => false)) ∧
      (s.Marks s.clockTextChange fun u => holds u .clock || holds u .minutes) ∧
      (s.Marks s.markAllInUse fun u => decide ((tile u).state ≠ .idle)) ∧
      (∀ n, s.Marks (s.templateMarks n) fun u => decide (s.tileTemplate u = some n)) ∧
      (∀ ds : DisplaySet, s.Marks (s.noticeTileMarks ds) fun u => decide (148 ≤ u.val) && ds.getLsbD (u.val - 148)) ∧
      (∀ l r, s.Marks (s.pageChange l r) fun u =>
        (tile u).binding.any fun b => decide (b.layout = l ∧ b.region = r)) ∧
      ∀ d : DisplayNo, s.Marks (s.tickerStepMark d) (fun u => decide (u = noticeTile d)) ∧
        s.Marks (s.displayChangeMark d) fun u => decide (u = noticeTile d)) ∧
    ((∀ u : TileNo, u.val < 148 → ∀ b, (tile u).binding = some b →
        let g := s.comp.region b.layout b.region
        s.tileTemplate u =
          if g.kind = .listing ∨ g.kind = .clock then fin? 32 g.template
          else if g.kind = .card then fin? 32 (g.template + b.row)
          else none) ∧
      ∀ d : DisplayNo,
        (∀ r, (s.display d).mode = .live → s.comp.tickerRegion (s.display d).layout = some r →
          s.tileTemplate (noticeTile d) = fin? 32 (s.comp.region (s.display d).layout r).template) ∧
        ((s.display d).mode ≠ .live ∨ s.comp.tickerRegion (s.display d).layout = none →
          s.tileTemplate (noticeTile d) = none)) ∧
    (∀ (tag : Byte) (img : List Byte),
      (∀ (i : Fin 32) (r : Template), s.dir.cursor = { table := .template, index := some i.val } → img.length = 40 →
        templateOfImage img = some r → ∃ t, exec (.writeEntryTemplate tag img) s = .next t ∧
          ({ s with
            dir := { s.dir with
              span := none
              cursor := { table := .template, index := if i.val + 1 < 32 then some (i.val + 1) else none } }
            fmt := { s.fmt with templates := s.fmt.templates.write i r } } : State).Marks t
              fun u => decide (s.tileTemplate u = some i)) ∧
      (s.dir.cursor = { table := .settings, index := some 0 } → img.length = 19 →
        ∀ c, settingsOfImage img = some (c, s.clock.civilStart, s.clock.dayNumber) →
        ∃ t, exec (.writeEntrySettings tag img) s = .next t ∧ ∀ u, (tile u).Remade (t.fmt.tiles.read u)) ∧
      (∀ (i : Fin 64) (r : Title), s.dir.cursor = { table := .title, index := some i.val } → img.length = 35 →
        titleOfImage img = some r → ∃ t, exec (.writeEntryTitle tag img) s = .next t ∧
          ∀ u x, (s.showOf x).state ≠ .vacant → (s.showOf x).title = i.val → boundTo u x = true →
            (tile u).Remade (t.fmt.tiles.read u)) ∧
      (∀ x : Slot, s.dir.cursor = { table := .show, index := some x.val } → img.length = 19 → img.head? = some 0 →
        (s.showOf x).state ≠ .vacant → ∃ t, exec (.writeEntryShow tag img) s = .next t ∧
          ∀ u, boundTo u x = true → (tile u).Remade (t.fmt.tiles.read u)) ∧
      (∀ id : Byte, (∃ n ∈ s.notice.queue, n.id = id) → ∃ t, exec (.withdrawNotice tag [id]) s = .next t ∧
        ∀ d : DisplayNo, (∃ n ∈ s.notice.queue, n.id = id ∧ n.targets d = true) →
          (tile (noticeTile d)).Remade (t.fmt.tiles.read (noticeTile d))) ∧
      ∀ (k : Fin 16) (g : Fin 2) (x : Slot) (delta : Byte), ∃ t,
        exec (.sale tag [BitVec.ofNat 8 k.val, BitVec.ofNat 8 g.val, BitVec.ofNat 8 x.val, delta]) s = .next t ∧
        ((t.tallyOf x).remaining ≠ (s.tallyOf x).remaining ∨ (t.tallyOf x).band ≠ (s.tallyOf x).band →
          ∀ u, boundTo u x = true → holds u .seats = true ∨ holds u .bandword = true →
            (tile u).Remade (t.fmt.tiles.read u))) ∧
    ((s.clock.state = .running ∨ s.clock.state = .holdover) → s.clock.minute < 2879 →
      ∃ t, exec .minuteBoundary s = .next t ∧
        ∀ u, holds u .clock = true → (tile u).Remade (t.fmt.tiles.read u)) ∧
    (∀ l r,
      let p := s.page l r
      let period := if (s.comp.region l r).k4.toNat = 0 then 0 else max 3 (s.comp.region l r).k4.toNat
      let next := if p.index + 1 < p.count then p.index + 1 else 0
      p.active = true → period ≠ 0 → next ≠ p.index → ∃ t, exec (.pageTurn l r) s = .next t ∧
        ({ s with comp := { s.comp with
          pages := s.comp.pages.write (regionIndex l r) { p with index := next, countdown := period } } } : State).Marks t
            fun u => (tile u).binding.any fun b => decide (b.layout = l ∧ b.region = r)) ∧
    ∀ (d : DisplayNo) (id : Byte),
      let k := s.comp.tickers.read d
      let next := s.nextTickerNotice d k.classes id
      k.running = true → k.current = some id → next ≠ some id → ∃ t, exec (.tickerStep d) s = .next t ∧
        ({ s with comp := { s.comp with
          tickers := s.comp.tickers.write d { k with current := next, countdown := s.settings.dwell } } } : State).Marks t
            fun u => decide (u = noticeTile d)

/-- Tile bindings and releases (R129, R130), and the tiles that an output frame start binds and releases (R152, R155, R156,
R171): those of layouts that enter and leave use; those that a LAYOUT or REGION write to a layout in use moves or rewrites;
the notice tile of a display that comes to need one, or needs one no longer. A tile in two ranges is released and then
bound. A display change at a notice tile that stays needed marks it. Every other layout tile is committed and no more. The
model's own: every applied LAYOUT write binds every tile of the new range again, also one that changes its binding in
nothing, where R156 says so only of a write that changes neither field (log 16). Before them: what the records of a layout
say of its tile range, its bindings and the checks of a write (R152, R153). -/
def Obligations.TileBindings : Prop :=
  (∀ (c : Compositor) (l : LayoutNo), c.LayoutReads l) ∧
  (∀ s : State, s.fmt.Coherent → ∀ (u : TileNo) (b : Option Binding),
    let x := s.fmt.tiles.read u
    let bound : Tile := { x with binding := if b.isSome then b else x.binding }
    let with' (y : Tile) : State := { s with fmt := { s.fmt with tiles := s.fmt.tiles.write u y } }
    (x.state = .idle ∨ x.state = .clean →
      (with' { bound with state := .clean }).Marks (s.bindTile u b) fun v => decide (v = u)) ∧
    (x.state = .dirty ∨ x.state = .queued → s.bindTile u b = with' bound) ∧
    (x.state = .rendering → s.bindTile u b = with' { bound with stale := true, released := false }) ∧
    s.releaseTile u = { s with fmt := { s.fmt with
      tiles := s.fmt.tiles.write u { x with
        ready := false
        pendingText := []
        state := if x.state = .rendering then .rendering else .idle
        released := x.released || decide (x.state = .rendering) }
      queue := s.fmt.queue.filter fun v => v ≠ u } }) ∧
  ∀ (c : Instr) (s : State), s.startsOutput c → s.ModesLegal → s.fmt.Coherent → s.comp.RangesFit →
    ∃ t, exec c s = .next t ∧
      (∀ d : DisplayNo,
        let needed := s.comp.tileNeeded.getLsbD d.val
        let needs := t.comp.tileNeeded.getLsbD d.val
        let x := s.fmt.tiles.read (noticeTile d)
        let y := t.fmt.tiles.read (noticeTile d)
        (needs = true ↔ (t.display d).mode = .takeover ∨ (t.display d).mode = .attract ∨
          ((t.display d).mode = .live ∧
            ∃ r : RegionNo, r.val < (t.comp.layouts.read (t.display d).layout).regionCount ∧
              (t.comp.region (t.display d).layout r).kind = .ticker)) ∧
        (needs = true → needed = false → x.Entered y) ∧ (needs = false → needed = true → x.Left y) ∧
        (needs = true → needed = true →
          (t.display d).mode ≠ (s.display d).mode ∨ (t.display d).layout ≠ (s.display d).layout ∨
            (t.display d).takeover ≠ (s.display d).takeover → x.Remade y)) ∧
      ((∀ z ∈ s.handedOver, z.writesLayout = false) →
        let entering (l : LayoutNo) : Prop := s.comp.inUse.read l = 0 ∧ 0 < t.comp.inUse.read l
        let leaving (l : LayoutNo) : Prop := 0 < s.comp.inUse.read l ∧ t.comp.inUse.read l = 0
        ∀ u : TileNo, u.val < 148 →
          let x := s.fmt.tiles.read u
          let y := t.fmt.tiles.read u
          (∀ l, entering l → s.comp.inRange l u = true → x.Entered y ∧ y.binding = s.comp.bindingAt l u) ∧
          (∀ l, leaving l → s.comp.inRange l u = true → (∀ m, entering m → s.comp.inRange m u = false) →
            x.Left y ∧ y.binding = x.binding) ∧
          ((∀ l, entering l ∨ leaving l → s.comp.inRange l u = false) → y = x.committedTile)) ∧
      ∀ (z : Staged) (l : LayoutNo) (v : Compositor) (rewritten : RegionNo → Prop), s.handedOver = [z] →
        (∃ img, z.body = .writeLayout l img ∧ v = { s.comp with layouts := s.comp.layouts.write l img } ∧
          rewritten = fun _ => True) ∨
        (∃ i img, z.body = .writeRegion i img ∧ l = regionLayout i ∧
          v = { s.comp with regions := s.comp.regions.write i img } ∧ rewritten = fun r => r = regionNumber i) →
        v.writePasses l = true → (∀ m, s.comp.inUse.read m = s.comp.users m) → 0 < s.comp.inUse.read l →
        ∀ u : TileNo, u.val < 148 →
          let x := s.fmt.tiles.read u
          let y := t.fmt.tiles.read u
          (v.inRange l u = true →
            v.bindingAt l u ≠ s.comp.bindingAt l u ∨ (∃ b, v.bindingAt l u = some b ∧ rewritten b.region) →
            x.Entered y ∧ y.binding = v.bindingAt l u) ∧
          (v.inRange l u = false → s.comp.inRange l u = true → x.Left y ∧ y.binding = x.binding) ∧
          (v.inRange l u = true → v.bindingAt l u = s.comp.bindingAt l u →
            (∀ b, v.bindingAt l u = some b → ¬ rewritten b.region) → y = x.committedTile) ∧
          (v.inRange l u = false → s.comp.inRange l u = false → y = x.committedTile)

/-! ### The compositor -/

/-- Pages and tickers in time (R158 to R160, R163): PAGE_TURN, and what a second tick at which the business minute does not
advance does, in every clock state, at every page state and, where no notice expires, at every ticker; TICKER_STEP; the
recount of every active page state at a listing change, whose one sender here is a clear. The page index goes round the page
count with the countdown reloaded; the ticker goes round the eligible list with the dwell reloaded. The eligible list of a
LISTING region keeps, in listing order, the slots that pass the region's three filters (R157); the eligible notices of a
display are, in queue order, those that target it in a class of the set, and the URGENT ones alone where there are any
(R121). The model's own: PAGE_TURN and TICKER_STEP act at any countdown (log 1), and an inactive page, one with period 0 and
a ticker that does not count are left alone (log 2). -/
def Obligations.PagesAndTickers : Prop :=
  (∀ (b : Board) (g : Region),
    let keeps (x : Slot) : Bool :=
      let w := b.shows.read x
      decide (w.listingClass ≤ 3 ∧ g.k0.getLsbD w.listingClass = true ∧
        g.k1.toNat ≤ w.auditorium ∧ w.auditorium ≤ g.k2.toNat ∧
        (w.state = .listed ∨ w.state = .boarding ∨ (w.state = .started ∧ g.k3.getLsbD 0 = true)))
    b.eligible g = b.order.filter keeps) ∧
  (∀ (q : List Notice) (d : DisplayNo) (cs : ClassSet),
    let taken (n : Notice) : Bool := n.target.getLsbD d.val && cs.getLsbD n.cls.code
    ((∃ n ∈ q, taken n = true ∧ n.cls = .urgent) →
      eligibleNotices q d cs = q.filter fun n => taken n && decide (n.cls = .urgent)) ∧
    ((∀ n ∈ q, taken n = true → n.cls ≠ .urgent) → eligibleNotices q d cs = q.filter taken)) ∧
  (∀ (s : State) (l : LayoutNo) (r : RegionNo),
    let p := s.page l r
    let g := s.comp.region l r
    let period := if g.k4.toNat = 0 then 0 else max 3 g.k4.toNat
    (p.active = true → period ≠ 0 → p.index < p.count → ∃ t, exec (.pageTurn l r) s = .next t ∧
      t.comp = { s.comp with
        pages := s.comp.pages.write (regionIndex l r) { p with index := (p.index + 1) % p.count, countdown := period } } ∧
      s.Leaves [.rep, .fmt, .comp] t) ∧
    (p.active = false ∨ period = 0 → exec (.pageTurn l r) s = .next s) ∧
    (s.clock.second ≠ 59 ∨ s.clock.state = .unset ∨ s.clock.state = .lost → ∀ order,
      ∃ t, exec (.secondTick order) s = .next t ∧ t.page l r =
        if p.active = false ∨ period = 0 then p
        else if 2 ≤ p.countdown then { p with countdown := p.countdown - 1 }
        else { p with index := if p.index + 1 < p.count then p.index + 1 else 0, countdown := period }) ∧
    ∀ (tag : Byte) (img : List Byte) (x : Slot), s.dir.cursor = { table := .show, index := some x.val } →
      img.length = 19 → img.head? = some 0 → (s.showOf x).state ≠ .vacant →
      ∃ t, exec (.writeEntryShow tag img) s = .next t ∧
        let n := (t.board.eligible g).length
        let count := max 1 ((n + g.height - 1) / g.height)
        t.page l r =
          if p.active = false ∨ x ∉ s.board.order then p
          else if p.index < count then { p with count := count }
          else { p with index := 0, count := count, countdown := period }) ∧
  ∀ (s : State) (d : DisplayNo), NoticesOrdered s.notice.queue →
    let ticker := s.comp.tickers.read d
    let list := eligibleNotices s.notice.queue d ticker.classes
    (ticker.running = true → ∀ (i : Nat) (n m : Notice), list[i]? = some n → ticker.current = some n.id →
      list[(i + 1) % list.length]? = some m →
      (∃ t, exec (.tickerStep d) s = .next t ∧
        t.comp = { s.comp with
          tickers := s.comp.tickers.write d { ticker with current := some m.id, countdown := s.settings.dwell } } ∧
        s.Leaves [.rep, .fmt, .comp] t) ∧
      (s.clock.second ≠ 59 ∨ s.clock.state = .unset ∨ s.clock.state = .lost →
        (∀ a ∈ s.notice.queue, a.lifetime ≠ 1) → ∀ order,
        ∃ t, exec (.secondTick order) s = .next t ∧
          t.comp.tickers.read d =
            if 2 ≤ ticker.countdown then { ticker with countdown := ticker.countdown - 1 }
            else { ticker with current := some m.id, countdown := s.settings.dwell })) ∧
    (ticker.running = false ∨ ticker.current = none →
      exec (.tickerStep d) s = .next s ∧
      (s.clock.second ≠ 59 ∨ s.clock.state = .unset ∨ s.clock.state = .lost →
        (∀ a ∈ s.notice.queue, a.lifetime ≠ 1) → ∀ order,
        ∃ t, exec (.secondTick order) s = .next t ∧ t.comp.tickers.read d = ticker))

/-- What an output frame start makes of page states, tickers and banners (R155, R156, R158, R162, R171): the page states of
a layout that enters use are started and those of one that leaves use become inactive; a ticker starts where it comes to
run, where its class set changes and where a write touches its layout's ticker region, which is the first that acts as a
TICKER (R152), stops where the display has none, and else goes on; the banner is drawn in ATTRACT with a notice. The model's
own: an inactive page state holds index 0, count 1 and countdown 0 (log 25); which writes touch the ticker region, and that
a ticker in ATTRACT is then taken afresh too (log 36). -/
def Obligations.PagesAndTickersStart : Prop :=
  (∀ (c : Compositor) (l : LayoutNo),
    (∀ r, c.tickerRegion l = some r ↔ c.FirstTicker l r) ∧
    (c.tickerRegion l = none ↔ ∀ r, ¬ c.ActsAsTicker l r)) ∧
  ∀ (c : Instr) (s : State), s.startsOutput c → s.ModesLegal →
    ∃ t, exec c s = .next t ∧
      let started (l : LayoutNo) (r : RegionNo) : PageState :=
        let g := t.comp.region l r
        { active := true, index := 0, count := max 1 (((s.board.eligible g).length + g.height - 1) / g.height),
          countdown := if g.k4.toNat = 0 then 0 else max 3 g.k4.toNat }
      let listing (v : Compositor) (l : LayoutNo) (r : RegionNo) : Prop :=
        r.val < (v.layouts.read l).regionCount ∧ (v.region l r).kind = .listing
      let wanted (d : DisplayNo) : Option ClassSet :=
        match (t.display d).mode with
        | .attract => some (t.display d).attractPass
        | .live => (t.comp.tickerRegion (t.display d).layout).map fun r =>
            BitVec.ofNat 4 (t.comp.region (t.display d).layout r).k0.toNat
        | .takeover => none
        | .dark => none
      let begun (d : DisplayNo) (cs : ClassSet) : Ticker :=
        { running := true, classes := cs,
          current := (eligibleNotices s.notice.queue d cs).head?.map Notice.id, countdown := s.settings.dwell }
      let settled (touched : LayoutNo → Prop) : Prop := ∀ d : DisplayNo,
        let old := s.comp.tickers.read d
        let new := t.comp.tickers.read d
        (wanted d = none → new.running = false ∧ new.current = none ∧ new.countdown = 0) ∧
        ∀ cs, wanted d = some cs →
          (old.running = false ∨ old.classes ≠ cs ∨ touched (t.display d).layout → new = begun d cs) ∧
          (old.running = true → old.classes = cs → ¬ touched (t.display d).layout → new = old)
      (∀ d : DisplayNo, (t.display d).banner = true ↔
        (t.display d).mode = .attract ∧ (t.comp.tickers.read d).current ≠ none) ∧
      ((∀ z ∈ s.handedOver, z.writesLayout = false) →
        settled (fun _ => False) ∧
        ∀ (l : LayoutNo) (r : RegionNo),
          (s.comp.inUse.read l = 0 → 0 < t.comp.inUse.read l → listing s.comp l r → t.page l r = started l r) ∧
          (0 < s.comp.inUse.read l → t.comp.inUse.read l = 0 → t.page l r = PageState.inactive) ∧
          (0 < s.comp.inUse.read l → 0 < t.comp.inUse.read l → t.page l r = s.page l r)) ∧
      (∀ (z : Staged) (i : Fin 128) (img : Region), s.handedOver = [z] → z.body = .writeRegion i img →
        let v : Compositor := { s.comp with regions := s.comp.regions.write i img }
        let l := regionLayout i
        v.writePasses l = true → (∀ m, s.comp.inUse.read m = s.comp.users m) →
        settled (fun m => m = l ∧
          (s.comp.tickerRegion l = some (regionNumber i) ∨ v.tickerRegion l = some (regionNumber i))) ∧
        (0 < s.comp.inUse.read l → ∀ r,
          (r = regionNumber i → listing v l r → t.page l r = started l r) ∧
          (r = regionNumber i → ¬ listing v l r → (t.page l r).active = false) ∧
          (r ≠ regionNumber i → listing s.comp l r → t.page l r = s.page l r))) ∧
      ∀ (z : Staged) (l : LayoutNo) (img : Layout), s.handedOver = [z] → z.body = .writeLayout l img →
        let v : Compositor := { s.comp with layouts := s.comp.layouts.write l img }
        v.writePasses l = true → (∀ m, s.comp.inUse.read m = s.comp.users m) →
        settled (fun m => m = l ∧ s.comp.tickerRegion l ≠ v.tickerRegion l) ∧
        (0 < s.comp.inUse.read l → ∀ r,
          (listing v l r → ¬ listing s.comp l r → t.page l r = started l r) ∧
          (listing v l r → listing s.comp l r → t.page l r = s.page l r) ∧
          (¬ listing v l r → (t.page l r).active = false))

/-- The panel senses (R177): a removal clears the display's panel, stops its port at once and sets DISPLAY_LOST; an
attachment sets the panel and no flag, and the port waits for the next output frame start. An event that does not alternate
changes nothing (log 2). -/
def Obligations.PanelsSensed : Prop :=
  ∀ (s : State) (d : DisplayNo),
    let x := s.comp.displays.read d
    let port := s.comp.ports.read d
    (x.panelPresent = true → ∃ t, exec (.panelRemoval d) s = .next t ∧
      t.comp = { s.comp with
        displays := s.comp.displays.write d { x with panelPresent := false }
        ports := s.comp.ports.write d { port with sending := false } } ∧
      (∀ e : DisplayNo, t.sense.getLsbD e.val = (s.sense.getLsbD e.val && decide (e ≠ d))) ∧
      (s.rep.Quiet → AttentionFlag.displayLost.isIn t.rep.flags = true ∧ s.rep.GrownFrom t.rep) ∧
      SameBut [.rep, .comp, .sense] s t) ∧
    (x.panelPresent = false → ∃ t, exec (.panelAttachment d) s = .next t ∧
      t.comp = { s.comp with displays := s.comp.displays.write d { x with panelPresent := true } } ∧
      (∀ e : DisplayNo, t.sense.getLsbD e.val = (s.sense.getLsbD e.val || decide (e = d))) ∧
      SameBut [.comp, .sense] s t) ∧
    (x.panelPresent = false → exec (.panelRemoval d) s = .next s) ∧
    (x.panelPresent = true → exec (.panelAttachment d) s = .next s)

/-- The pixels of an output line, by the display's mode (R172 to R176): DARK is black; TAKEOVER is its page; ATTRACT is the
base with its banner; LIVE is the base with each acting region over it in ascending index: a region with background 0 lets
what lies beneath show, and a TICKER region after the first draws nothing. -/
def Obligations.PixelRules : Prop :=
  ∀ (s : State) (lanes : LineLanes) (d : DisplayNo) (y : Nat) (x : Fin 1920),
    let c := s.comp
    let disp := c.displays.read d
    let pixel := (s.composeLine lanes d y).read x
    let backdrop := if c.latched.backdrop = 0 then Colour.black else c.palette.read c.latched.backdrop
    let ofLane (lane : Lane) : Colour :=
      match lanes, lane with
      | some (m, z), .a => if m.a = true then z.a.read x else backdrop
      | some (m, z), .b => if m.b = true then z.b.read x else backdrop
      | some (m, z), .c => if m.c = true then z.c.read x else backdrop
      | some (m, z), .d => if m.d = true then z.d.read x else backdrop
      | _, _ => backdrop
    let base := ofLane disp.lane
    let inked (text : List Byte) (position row bit : Nat) : Prop :=
      ((c.glyphs.read (text.getD position 32).toFin).read (Fin.ofNat 24 row)).getMsbD bit = true
    let noticeText := (s.fmt.tiles.read (noticeTile d)).committed
    (disp.mode = .dark → pixel = Colour.black) ∧
    (disp.mode = .takeover → pixel =
      if 528 ≤ y ∧ y ≤ 551 ∧ inked noticeText (x.val / 12) (y - 528) (x.val % 12) then
        c.palette.read c.latched.takeoverFg
      else if c.latched.takeoverBg = 0 then Colour.black else c.palette.read c.latched.takeoverBg) ∧
    (disp.mode = .attract → disp.banner = false ∨ y < 1032 → pixel = base) ∧
    (disp.mode = .attract → disp.banner = true → 1032 ≤ y → pixel =
      if 1044 ≤ y ∧ y ≤ 1067 ∧ inked noticeText (x.val / 12) (y - 1044) (x.val % 12) then
        c.palette.read c.latched.bannerFg
      else if c.latched.bannerBg = 0 then base else c.palette.read c.latched.bannerBg) ∧
    (disp.mode = .live →
      let atop (r : RegionNo) : Prop :=
        let g := c.region disp.layout r
        r.val < (c.layouts.read disp.layout).regionCount ∧ g.column ≤ x.val / 24 ∧ x.val / 24 < g.column + g.width ∧
          g.row ≤ y / 24 ∧ y / 24 < g.row + g.height
      ∃ layer : Nat → Colour, layer 0 = base ∧ pixel = layer 8 ∧
      ∀ r : RegionNo,
        let g := c.region disp.layout r
        let under := layer r.val
        let drawn := layer (r.val + 1)
        let background := if g.background = 0 then under else c.palette.read g.background
        (¬ atop r → drawn = under) ∧
        (atop r →
          (∀ lane, g.kind = .program → lane ≠ .absent → g.k0.toNat = lane.code → drawn = ofLane lane) ∧
          (g.kind = .program → g.k0.toNat = 5 → drawn = base) ∧
          (g.kind = .fill → drawn = background) ∧
          (∀ tile, g.kind = .listing ∨ g.kind = .card ∨ g.kind = .clock →
            c.rowTile disp.layout r (y / 24 - g.row) = some tile →
            drawn = if inked (s.fmt.tiles.read tile).committed ((x.val - 24 * g.column) / 12) (y % 24)
                ((x.val - 24 * g.column) % 12) then
              c.palette.read g.foreground else background) ∧
          (g.kind = .ticker → c.tickerRegion disp.layout = some r →
            drawn = if y / 24 = g.row ∧ inked noticeText ((x.val - 24 * g.column) / 12) (y % 24)
                ((x.val - 24 * g.column) % 12) then
              c.palette.read g.foreground else background) ∧
          (g.kind = .ticker → c.tickerRegion disp.layout ≠ some r → drawn = under)))

end
end

