-- ==== Sys2Proof/Laws/State.lean ====
section
/-! SUPPORT. What each update of the state does to each field: true by rfl, so that no proof unfolds a record update. -/

namespace Sys2Proof.Machine

/-! ### The clock (chapter 3) -/

@[simp] theorem State.setClock_feed (s : State) (c : Clock) : (s.setClock c).feed = s.feed := rfl
@[simp] theorem State.setClock_dir (s : State) (c : Clock) : (s.setClock c).dir = s.dir := rfl
@[simp] theorem State.setClock_rep (s : State) (c : Clock) : (s.setClock c).rep = s.rep := rfl
@[simp] theorem State.setClock_clock (s : State) (c : Clock) : (s.setClock c).clock = c := rfl
@[simp] theorem State.setClock_divider (s : State) (c : Clock) : (s.setClock c).divider = s.divider := rfl
@[simp] theorem State.setClock_settings (s : State) (c : Clock) : (s.setClock c).settings = s.settings := rfl
@[simp] theorem State.setClock_board (s : State) (c : Clock) : (s.setClock c).board = s.board := rfl
@[simp] theorem State.setClock_tally (s : State) (c : Clock) : (s.setClock c).tally = s.tally := rfl
@[simp] theorem State.setClock_notice (s : State) (c : Clock) : (s.setClock c).notice = s.notice := rfl
@[simp] theorem State.setClock_fmt (s : State) (c : Clock) : (s.setClock c).fmt = s.fmt := rfl
@[simp] theorem State.setClock_comp (s : State) (c : Clock) : (s.setClock c).comp = s.comp := rfl
@[simp] theorem State.setClock_sense (s : State) (c : Clock) : (s.setClock c).sense = s.sense := rfl
@[simp] theorem State.setClock_pending (s : State) (c : Clock) : (s.setClock c).pending = s.pending := rfl

/-! ### The feed receiver (chapter 1) -/

@[simp] theorem State.setFeed_feed (s : State) (f : FeedReceiver) : (s.setFeed f).feed = f := rfl
@[simp] theorem State.setFeed_dir (s : State) (f : FeedReceiver) : (s.setFeed f).dir = s.dir := rfl
@[simp] theorem State.setFeed_rep (s : State) (f : FeedReceiver) : (s.setFeed f).rep = s.rep := rfl
@[simp] theorem State.setFeed_clock (s : State) (f : FeedReceiver) : (s.setFeed f).clock = s.clock := rfl
@[simp] theorem State.setFeed_divider (s : State) (f : FeedReceiver) : (s.setFeed f).divider = s.divider := rfl
@[simp] theorem State.setFeed_settings (s : State) (f : FeedReceiver) : (s.setFeed f).settings = s.settings := rfl
@[simp] theorem State.setFeed_board (s : State) (f : FeedReceiver) : (s.setFeed f).board = s.board := rfl
@[simp] theorem State.setFeed_tally (s : State) (f : FeedReceiver) : (s.setFeed f).tally = s.tally := rfl
@[simp] theorem State.setFeed_notice (s : State) (f : FeedReceiver) : (s.setFeed f).notice = s.notice := rfl
@[simp] theorem State.setFeed_fmt (s : State) (f : FeedReceiver) : (s.setFeed f).fmt = s.fmt := rfl
@[simp] theorem State.setFeed_comp (s : State) (f : FeedReceiver) : (s.setFeed f).comp = s.comp := rfl
@[simp] theorem State.setFeed_sense (s : State) (f : FeedReceiver) : (s.setFeed f).sense = s.sense := rfl
@[simp] theorem State.setFeed_pending (s : State) (f : FeedReceiver) : (s.setFeed f).pending = s.pending := rfl

@[simp] theorem State.setRecord_lock (s : State) (r : FrameRecord) : (s.setRecord r).feed.lock = s.feed.lock := rfl
@[simp] theorem State.setRecord_identity (s : State) (r : FrameRecord) :
    (s.setRecord r).feed.identity = s.feed.identity := rfl
@[simp] theorem State.setRecord_candidate (s : State) (r : FrameRecord) :
    (s.setRecord r).feed.candidate = s.feed.candidate := rfl
@[simp] theorem State.setRecord_record (s : State) (r : FrameRecord) : (s.setRecord r).feed.record = r := rfl
@[simp] theorem State.setRecord_malformedCount (s : State) (r : FrameRecord) :
    (s.setRecord r).feed.malformedCount = s.feed.malformedCount := rfl
@[simp] theorem State.setRecord_checkFailCount (s : State) (r : FrameRecord) :
    (s.setRecord r).feed.checkFailCount = s.feed.checkFailCount := rfl
@[simp] theorem State.setRecord_latchedCadence (s : State) (r : FrameRecord) :
    (s.setRecord r).feed.latchedCadence = s.feed.latchedCadence := rfl
@[simp] theorem State.setRecord_output (s : State) (r : FrameRecord) :
    (s.setRecord r).feed.output = s.feed.output := rfl
@[simp] theorem State.setRecord_feedOut (s : State) (r : FrameRecord) :
    (s.setRecord r).feed.feedOut = s.feed.feedOut := rfl
@[simp] theorem State.setRecord_dir (s : State) (r : FrameRecord) : (s.setRecord r).dir = s.dir := rfl
@[simp] theorem State.setRecord_rep (s : State) (r : FrameRecord) : (s.setRecord r).rep = s.rep := rfl
@[simp] theorem State.setRecord_clock (s : State) (r : FrameRecord) : (s.setRecord r).clock = s.clock := rfl
@[simp] theorem State.setRecord_divider (s : State) (r : FrameRecord) : (s.setRecord r).divider = s.divider := rfl
@[simp] theorem State.setRecord_settings (s : State) (r : FrameRecord) : (s.setRecord r).settings = s.settings := rfl
@[simp] theorem State.setRecord_board (s : State) (r : FrameRecord) : (s.setRecord r).board = s.board := rfl
@[simp] theorem State.setRecord_tally (s : State) (r : FrameRecord) : (s.setRecord r).tally = s.tally := rfl
@[simp] theorem State.setRecord_notice (s : State) (r : FrameRecord) : (s.setRecord r).notice = s.notice := rfl
@[simp] theorem State.setRecord_fmt (s : State) (r : FrameRecord) : (s.setRecord r).fmt = s.fmt := rfl
@[simp] theorem State.setRecord_comp (s : State) (r : FrameRecord) : (s.setRecord r).comp = s.comp := rfl
@[simp] theorem State.setRecord_sense (s : State) (r : FrameRecord) : (s.setRecord r).sense = s.sense := rfl
@[simp] theorem State.setRecord_pending (s : State) (r : FrameRecord) : (s.setRecord r).pending = s.pending := rfl

@[simp] theorem State.setOutput_lock (s : State) (o : OutputFrame) : (s.setOutput o).feed.lock = s.feed.lock := rfl
@[simp] theorem State.setOutput_identity (s : State) (o : OutputFrame) :
    (s.setOutput o).feed.identity = s.feed.identity := rfl
@[simp] theorem State.setOutput_candidate (s : State) (o : OutputFrame) :
    (s.setOutput o).feed.candidate = s.feed.candidate := rfl
@[simp] theorem State.setOutput_record (s : State) (o : OutputFrame) :
    (s.setOutput o).feed.record = s.feed.record := rfl
@[simp] theorem State.setOutput_malformedCount (s : State) (o : OutputFrame) :
    (s.setOutput o).feed.malformedCount = s.feed.malformedCount := rfl
@[simp] theorem State.setOutput_checkFailCount (s : State) (o : OutputFrame) :
    (s.setOutput o).feed.checkFailCount = s.feed.checkFailCount := rfl
@[simp] theorem State.setOutput_latchedCadence (s : State) (o : OutputFrame) :
    (s.setOutput o).feed.latchedCadence = s.feed.latchedCadence := rfl
@[simp] theorem State.setOutput_output (s : State) (o : OutputFrame) : (s.setOutput o).feed.output = o := rfl
@[simp] theorem State.setOutput_feedOut (s : State) (o : OutputFrame) :
    (s.setOutput o).feed.feedOut = s.feed.feedOut := rfl
@[simp] theorem State.setOutput_dir (s : State) (o : OutputFrame) : (s.setOutput o).dir = s.dir := rfl
@[simp] theorem State.setOutput_rep (s : State) (o : OutputFrame) : (s.setOutput o).rep = s.rep := rfl
@[simp] theorem State.setOutput_clock (s : State) (o : OutputFrame) : (s.setOutput o).clock = s.clock := rfl
@[simp] theorem State.setOutput_divider (s : State) (o : OutputFrame) : (s.setOutput o).divider = s.divider := rfl
@[simp] theorem State.setOutput_settings (s : State) (o : OutputFrame) : (s.setOutput o).settings = s.settings := rfl
@[simp] theorem State.setOutput_board (s : State) (o : OutputFrame) : (s.setOutput o).board = s.board := rfl
@[simp] theorem State.setOutput_tally (s : State) (o : OutputFrame) : (s.setOutput o).tally = s.tally := rfl
@[simp] theorem State.setOutput_notice (s : State) (o : OutputFrame) : (s.setOutput o).notice = s.notice := rfl
@[simp] theorem State.setOutput_fmt (s : State) (o : OutputFrame) : (s.setOutput o).fmt = s.fmt := rfl
@[simp] theorem State.setOutput_comp (s : State) (o : OutputFrame) : (s.setOutput o).comp = s.comp := rfl
@[simp] theorem State.setOutput_sense (s : State) (o : OutputFrame) : (s.setOutput o).sense = s.sense := rfl
@[simp] theorem State.setOutput_pending (s : State) (o : OutputFrame) : (s.setOutput o).pending = s.pending := rfl

@[simp] theorem State.repeatOut_lock (s : State) (e : FeedEvent) : (s.repeatOut e).feed.lock = s.feed.lock := rfl
@[simp] theorem State.repeatOut_identity (s : State) (e : FeedEvent) :
    (s.repeatOut e).feed.identity = s.feed.identity := rfl
@[simp] theorem State.repeatOut_candidate (s : State) (e : FeedEvent) :
    (s.repeatOut e).feed.candidate = s.feed.candidate := rfl
@[simp] theorem State.repeatOut_record (s : State) (e : FeedEvent) :
    (s.repeatOut e).feed.record = s.feed.record := rfl
@[simp] theorem State.repeatOut_malformedCount (s : State) (e : FeedEvent) :
    (s.repeatOut e).feed.malformedCount = s.feed.malformedCount := rfl
@[simp] theorem State.repeatOut_checkFailCount (s : State) (e : FeedEvent) :
    (s.repeatOut e).feed.checkFailCount = s.feed.checkFailCount := rfl
@[simp] theorem State.repeatOut_latchedCadence (s : State) (e : FeedEvent) :
    (s.repeatOut e).feed.latchedCadence = s.feed.latchedCadence := rfl
@[simp] theorem State.repeatOut_output (s : State) (e : FeedEvent) :
    (s.repeatOut e).feed.output = s.feed.output := rfl
@[simp] theorem State.repeatOut_feedOut (s : State) (e : FeedEvent) : (s.repeatOut e).feed.feedOut = .event e := rfl
@[simp] theorem State.repeatOut_dir (s : State) (e : FeedEvent) : (s.repeatOut e).dir = s.dir := rfl
@[simp] theorem State.repeatOut_rep (s : State) (e : FeedEvent) : (s.repeatOut e).rep = s.rep := rfl
@[simp] theorem State.repeatOut_clock (s : State) (e : FeedEvent) : (s.repeatOut e).clock = s.clock := rfl
@[simp] theorem State.repeatOut_divider (s : State) (e : FeedEvent) : (s.repeatOut e).divider = s.divider := rfl
@[simp] theorem State.repeatOut_settings (s : State) (e : FeedEvent) : (s.repeatOut e).settings = s.settings := rfl
@[simp] theorem State.repeatOut_board (s : State) (e : FeedEvent) : (s.repeatOut e).board = s.board := rfl
@[simp] theorem State.repeatOut_tally (s : State) (e : FeedEvent) : (s.repeatOut e).tally = s.tally := rfl
@[simp] theorem State.repeatOut_notice (s : State) (e : FeedEvent) : (s.repeatOut e).notice = s.notice := rfl
@[simp] theorem State.repeatOut_fmt (s : State) (e : FeedEvent) : (s.repeatOut e).fmt = s.fmt := rfl
@[simp] theorem State.repeatOut_comp (s : State) (e : FeedEvent) : (s.repeatOut e).comp = s.comp := rfl
@[simp] theorem State.repeatOut_sense (s : State) (e : FeedEvent) : (s.repeatOut e).sense = s.sense := rfl
@[simp] theorem State.repeatOut_pending (s : State) (e : FeedEvent) : (s.repeatOut e).pending = s.pending := rfl

@[simp] theorem State.countMalformed_lock (s : State) : (s.countMalformed).feed.lock = s.feed.lock := rfl
@[simp] theorem State.countMalformed_identity (s : State) : (s.countMalformed).feed.identity = s.feed.identity := rfl
@[simp] theorem State.countMalformed_candidate (s : State) :
    (s.countMalformed).feed.candidate = s.feed.candidate := rfl
@[simp] theorem State.countMalformed_record (s : State) : (s.countMalformed).feed.record = s.feed.record := rfl
@[simp] theorem State.countMalformed_malformedCount (s : State) :
    (s.countMalformed).feed.malformedCount = bump16 s.feed.malformedCount := rfl
@[simp] theorem State.countMalformed_checkFailCount (s : State) :
    (s.countMalformed).feed.checkFailCount = s.feed.checkFailCount := rfl
@[simp] theorem State.countMalformed_latchedCadence (s : State) :
    (s.countMalformed).feed.latchedCadence = s.feed.latchedCadence := rfl
@[simp] theorem State.countMalformed_output (s : State) : (s.countMalformed).feed.output = s.feed.output := rfl
@[simp] theorem State.countMalformed_feedOut (s : State) : (s.countMalformed).feed.feedOut = s.feed.feedOut := rfl
@[simp] theorem State.countMalformed_dir (s : State) : (s.countMalformed).dir = s.dir := rfl
@[simp] theorem State.countMalformed_rep (s : State) : (s.countMalformed).rep = s.rep := rfl
@[simp] theorem State.countMalformed_clock (s : State) : (s.countMalformed).clock = s.clock := rfl
@[simp] theorem State.countMalformed_divider (s : State) : (s.countMalformed).divider = s.divider := rfl
@[simp] theorem State.countMalformed_settings (s : State) : (s.countMalformed).settings = s.settings := rfl
@[simp] theorem State.countMalformed_board (s : State) : (s.countMalformed).board = s.board := rfl
@[simp] theorem State.countMalformed_tally (s : State) : (s.countMalformed).tally = s.tally := rfl
@[simp] theorem State.countMalformed_notice (s : State) : (s.countMalformed).notice = s.notice := rfl
@[simp] theorem State.countMalformed_fmt (s : State) : (s.countMalformed).fmt = s.fmt := rfl
@[simp] theorem State.countMalformed_comp (s : State) : (s.countMalformed).comp = s.comp := rfl
@[simp] theorem State.countMalformed_sense (s : State) : (s.countMalformed).sense = s.sense := rfl
@[simp] theorem State.countMalformed_pending (s : State) : (s.countMalformed).pending = s.pending := rfl

/-! ### The directive unit (chapter 2) -/

@[simp] theorem State.consumeSpan_feed (s : State) : (s.consumeSpan).feed = s.feed := rfl
@[simp] theorem State.consumeSpan_staging (s : State) : (s.consumeSpan).dir.staging = s.dir.staging := rfl
@[simp] theorem State.consumeSpan_restorePoint (s : State) :
    (s.consumeSpan).dir.restorePoint = s.dir.restorePoint := rfl
@[simp] theorem State.consumeSpan_span (s : State) : (s.consumeSpan).dir.span = none := rfl
@[simp] theorem State.consumeSpan_cursor (s : State) : (s.consumeSpan).dir.cursor = s.dir.cursor := rfl
@[simp] theorem State.consumeSpan_refusalCount (s : State) :
    (s.consumeSpan).dir.refusalCount = s.dir.refusalCount := rfl
@[simp] theorem State.consumeSpan_lastRefusal (s : State) : (s.consumeSpan).dir.lastRefusal = s.dir.lastRefusal := rfl
@[simp] theorem State.consumeSpan_rep (s : State) : (s.consumeSpan).rep = s.rep := rfl
@[simp] theorem State.consumeSpan_clock (s : State) : (s.consumeSpan).clock = s.clock := rfl
@[simp] theorem State.consumeSpan_divider (s : State) : (s.consumeSpan).divider = s.divider := rfl
@[simp] theorem State.consumeSpan_settings (s : State) : (s.consumeSpan).settings = s.settings := rfl
@[simp] theorem State.consumeSpan_board (s : State) : (s.consumeSpan).board = s.board := rfl
@[simp] theorem State.consumeSpan_tally (s : State) : (s.consumeSpan).tally = s.tally := rfl
@[simp] theorem State.consumeSpan_notice (s : State) : (s.consumeSpan).notice = s.notice := rfl
@[simp] theorem State.consumeSpan_fmt (s : State) : (s.consumeSpan).fmt = s.fmt := rfl
@[simp] theorem State.consumeSpan_comp (s : State) : (s.consumeSpan).comp = s.comp := rfl
@[simp] theorem State.consumeSpan_sense (s : State) : (s.consumeSpan).sense = s.sense := rfl
@[simp] theorem State.consumeSpan_pending (s : State) : (s.consumeSpan).pending = s.pending := rfl

@[simp] theorem State.advanceCursor_feed (s : State) : (s.advanceCursor).feed = s.feed := rfl
@[simp] theorem State.advanceCursor_staging (s : State) : (s.advanceCursor).dir.staging = s.dir.staging := rfl
@[simp] theorem State.advanceCursor_restorePoint (s : State) :
    (s.advanceCursor).dir.restorePoint = s.dir.restorePoint := rfl
@[simp] theorem State.advanceCursor_span (s : State) : (s.advanceCursor).dir.span = s.dir.span := rfl
@[simp] theorem State.advanceCursor_cursor (s : State) : (s.advanceCursor).dir.cursor = s.dir.cursor.advance := rfl
@[simp] theorem State.advanceCursor_refusalCount (s : State) :
    (s.advanceCursor).dir.refusalCount = s.dir.refusalCount := rfl
@[simp] theorem State.advanceCursor_lastRefusal (s : State) :
    (s.advanceCursor).dir.lastRefusal = s.dir.lastRefusal := rfl
@[simp] theorem State.advanceCursor_rep (s : State) : (s.advanceCursor).rep = s.rep := rfl
@[simp] theorem State.advanceCursor_clock (s : State) : (s.advanceCursor).clock = s.clock := rfl
@[simp] theorem State.advanceCursor_divider (s : State) : (s.advanceCursor).divider = s.divider := rfl
@[simp] theorem State.advanceCursor_settings (s : State) : (s.advanceCursor).settings = s.settings := rfl
@[simp] theorem State.advanceCursor_board (s : State) : (s.advanceCursor).board = s.board := rfl
@[simp] theorem State.advanceCursor_tally (s : State) : (s.advanceCursor).tally = s.tally := rfl
@[simp] theorem State.advanceCursor_notice (s : State) : (s.advanceCursor).notice = s.notice := rfl
@[simp] theorem State.advanceCursor_fmt (s : State) : (s.advanceCursor).fmt = s.fmt := rfl
@[simp] theorem State.advanceCursor_comp (s : State) : (s.advanceCursor).comp = s.comp := rfl
@[simp] theorem State.advanceCursor_sense (s : State) : (s.advanceCursor).sense = s.sense := rfl
@[simp] theorem State.advanceCursor_pending (s : State) : (s.advanceCursor).pending = s.pending := rfl

@[simp] theorem State.stagePush_feed (s : State) (k : DirectiveKind) (tag : Byte) (b : StagedBody) :
    (s.stagePush k tag b).feed = s.feed := rfl
@[simp] theorem State.stagePush_staging (s : State) (k : DirectiveKind) (tag : Byte) (b : StagedBody) :
    (s.stagePush k tag b).dir.staging =
      s.dir.staging ++ [{ kind := k.code, tag := tag, mark := .current, body := b }] := rfl
@[simp] theorem State.stagePush_restorePoint (s : State) (k : DirectiveKind) (tag : Byte) (b : StagedBody) :
    (s.stagePush k tag b).dir.restorePoint = s.dir.restorePoint := rfl
@[simp] theorem State.stagePush_span (s : State) (k : DirectiveKind) (tag : Byte) (b : StagedBody) :
    (s.stagePush k tag b).dir.span = s.dir.span := rfl
@[simp] theorem State.stagePush_cursor (s : State) (k : DirectiveKind) (tag : Byte) (b : StagedBody) :
    (s.stagePush k tag b).dir.cursor = s.dir.cursor := rfl
@[simp] theorem State.stagePush_refusalCount (s : State) (k : DirectiveKind) (tag : Byte) (b : StagedBody) :
    (s.stagePush k tag b).dir.refusalCount = s.dir.refusalCount := rfl
@[simp] theorem State.stagePush_lastRefusal (s : State) (k : DirectiveKind) (tag : Byte) (b : StagedBody) :
    (s.stagePush k tag b).dir.lastRefusal = s.dir.lastRefusal := rfl
@[simp] theorem State.stagePush_rep (s : State) (k : DirectiveKind) (tag : Byte) (b : StagedBody) :
    (s.stagePush k tag b).rep = s.rep := rfl
@[simp] theorem State.stagePush_clock (s : State) (k : DirectiveKind) (tag : Byte) (b : StagedBody) :
    (s.stagePush k tag b).clock = s.clock := rfl
@[simp] theorem State.stagePush_divider (s : State) (k : DirectiveKind) (tag : Byte) (b : StagedBody) :
    (s.stagePush k tag b).divider = s.divider := rfl
@[simp] theorem State.stagePush_settings (s : State) (k : DirectiveKind) (tag : Byte) (b : StagedBody) :
    (s.stagePush k tag b).settings = s.settings := rfl
@[simp] theorem State.stagePush_board (s : State) (k : DirectiveKind) (tag : Byte) (b : StagedBody) :
    (s.stagePush k tag b).board = s.board := rfl
@[simp] theorem State.stagePush_tally (s : State) (k : DirectiveKind) (tag : Byte) (b : StagedBody) :
    (s.stagePush k tag b).tally = s.tally := rfl
@[simp] theorem State.stagePush_notice (s : State) (k : DirectiveKind) (tag : Byte) (b : StagedBody) :
    (s.stagePush k tag b).notice = s.notice := rfl
@[simp] theorem State.stagePush_fmt (s : State) (k : DirectiveKind) (tag : Byte) (b : StagedBody) :
    (s.stagePush k tag b).fmt = s.fmt := rfl
@[simp] theorem State.stagePush_comp (s : State) (k : DirectiveKind) (tag : Byte) (b : StagedBody) :
    (s.stagePush k tag b).comp = s.comp := rfl
@[simp] theorem State.stagePush_sense (s : State) (k : DirectiveKind) (tag : Byte) (b : StagedBody) :
    (s.stagePush k tag b).sense = s.sense := rfl
@[simp] theorem State.stagePush_pending (s : State) (k : DirectiveKind) (tag : Byte) (b : StagedBody) :
    (s.stagePush k tag b).pending = s.pending := rfl

@[simp] theorem State.takeHanded_feed (s : State) : (s.takeHanded).feed = s.feed := rfl
@[simp] theorem State.takeHanded_staging (s : State) :
    (s.takeHanded).dir.staging = s.dir.staging.filter Staged.isCurrent := rfl
@[simp] theorem State.takeHanded_restorePoint (s : State) :
    (s.takeHanded).dir.restorePoint = s.dir.restorePoint := rfl
@[simp] theorem State.takeHanded_span (s : State) : (s.takeHanded).dir.span = s.dir.span := rfl
@[simp] theorem State.takeHanded_cursor (s : State) : (s.takeHanded).dir.cursor = s.dir.cursor := rfl
@[simp] theorem State.takeHanded_refusalCount (s : State) :
    (s.takeHanded).dir.refusalCount = s.dir.refusalCount := rfl
@[simp] theorem State.takeHanded_lastRefusal (s : State) : (s.takeHanded).dir.lastRefusal = s.dir.lastRefusal := rfl
@[simp] theorem State.takeHanded_rep (s : State) : (s.takeHanded).rep = s.rep := rfl
@[simp] theorem State.takeHanded_clock (s : State) : (s.takeHanded).clock = s.clock := rfl
@[simp] theorem State.takeHanded_divider (s : State) : (s.takeHanded).divider = s.divider := rfl
@[simp] theorem State.takeHanded_settings (s : State) : (s.takeHanded).settings = s.settings := rfl
@[simp] theorem State.takeHanded_board (s : State) : (s.takeHanded).board = s.board := rfl
@[simp] theorem State.takeHanded_tally (s : State) : (s.takeHanded).tally = s.tally := rfl
@[simp] theorem State.takeHanded_notice (s : State) : (s.takeHanded).notice = s.notice := rfl
@[simp] theorem State.takeHanded_fmt (s : State) : (s.takeHanded).fmt = s.fmt := rfl
@[simp] theorem State.takeHanded_comp (s : State) : (s.takeHanded).comp = s.comp := rfl
@[simp] theorem State.takeHanded_sense (s : State) : (s.takeHanded).sense = s.sense := rfl
@[simp] theorem State.takeHanded_pending (s : State) : (s.takeHanded).pending = s.pending := rfl

/-! ### The report side (chapter 2) -/

@[simp] theorem State.setFlag_feed (s : State) (f : AttentionFlag) : (State.setFlag f s).feed = s.feed := rfl
@[simp] theorem State.setFlag_dir (s : State) (f : AttentionFlag) : (State.setFlag f s).dir = s.dir := rfl
@[simp] theorem State.setFlag_rep (s : State) (f : AttentionFlag) :
    (State.setFlag f s).rep = s.rep.setFlag s.statusView f := rfl
@[simp] theorem State.setFlag_clock (s : State) (f : AttentionFlag) : (State.setFlag f s).clock = s.clock := rfl
@[simp] theorem State.setFlag_divider (s : State) (f : AttentionFlag) : (State.setFlag f s).divider = s.divider := rfl
@[simp] theorem State.setFlag_settings (s : State) (f : AttentionFlag) :
    (State.setFlag f s).settings = s.settings := rfl
@[simp] theorem State.setFlag_board (s : State) (f : AttentionFlag) : (State.setFlag f s).board = s.board := rfl
@[simp] theorem State.setFlag_tally (s : State) (f : AttentionFlag) : (State.setFlag f s).tally = s.tally := rfl
@[simp] theorem State.setFlag_notice (s : State) (f : AttentionFlag) : (State.setFlag f s).notice = s.notice := rfl
@[simp] theorem State.setFlag_fmt (s : State) (f : AttentionFlag) : (State.setFlag f s).fmt = s.fmt := rfl
@[simp] theorem State.setFlag_comp (s : State) (f : AttentionFlag) : (State.setFlag f s).comp = s.comp := rfl
@[simp] theorem State.setFlag_sense (s : State) (f : AttentionFlag) : (State.setFlag f s).sense = s.sense := rfl
@[simp] theorem State.setFlag_pending (s : State) (f : AttentionFlag) : (State.setFlag f s).pending = s.pending := rfl

@[simp] theorem State.queueStatus_feed (s : State) : (s.queueStatus).feed = s.feed := rfl
@[simp] theorem State.queueStatus_dir (s : State) : (s.queueStatus).dir = s.dir := rfl
@[simp] theorem State.queueStatus_rep (s : State) : (s.queueStatus).rep = s.rep.queueStatus s.statusView := rfl
@[simp] theorem State.queueStatus_clock (s : State) : (s.queueStatus).clock = s.clock := rfl
@[simp] theorem State.queueStatus_divider (s : State) : (s.queueStatus).divider = s.divider := rfl
@[simp] theorem State.queueStatus_settings (s : State) : (s.queueStatus).settings = s.settings := rfl
@[simp] theorem State.queueStatus_board (s : State) : (s.queueStatus).board = s.board := rfl
@[simp] theorem State.queueStatus_tally (s : State) : (s.queueStatus).tally = s.tally := rfl
@[simp] theorem State.queueStatus_notice (s : State) : (s.queueStatus).notice = s.notice := rfl
@[simp] theorem State.queueStatus_fmt (s : State) : (s.queueStatus).fmt = s.fmt := rfl
@[simp] theorem State.queueStatus_comp (s : State) : (s.queueStatus).comp = s.comp := rfl
@[simp] theorem State.queueStatus_sense (s : State) : (s.queueStatus).sense = s.sense := rfl
@[simp] theorem State.queueStatus_pending (s : State) : (s.queueStatus).pending = s.pending := rfl

@[simp] theorem State.queueReport_feed (s : State) (x : Report) : (State.queueReport x s).feed = s.feed := rfl
@[simp] theorem State.queueReport_dir (s : State) (x : Report) : (State.queueReport x s).dir = s.dir := rfl
@[simp] theorem State.queueReport_rep (s : State) (x : Report) :
    (State.queueReport x s).rep = s.rep.queueReport s.statusView x := rfl
@[simp] theorem State.queueReport_clock (s : State) (x : Report) : (State.queueReport x s).clock = s.clock := rfl
@[simp] theorem State.queueReport_divider (s : State) (x : Report) : (State.queueReport x s).divider = s.divider := rfl
@[simp] theorem State.queueReport_settings (s : State) (x : Report) :
    (State.queueReport x s).settings = s.settings := rfl
@[simp] theorem State.queueReport_board (s : State) (x : Report) : (State.queueReport x s).board = s.board := rfl
@[simp] theorem State.queueReport_tally (s : State) (x : Report) : (State.queueReport x s).tally = s.tally := rfl
@[simp] theorem State.queueReport_notice (s : State) (x : Report) : (State.queueReport x s).notice = s.notice := rfl
@[simp] theorem State.queueReport_fmt (s : State) (x : Report) : (State.queueReport x s).fmt = s.fmt := rfl
@[simp] theorem State.queueReport_comp (s : State) (x : Report) : (State.queueReport x s).comp = s.comp := rfl
@[simp] theorem State.queueReport_sense (s : State) (x : Report) : (State.queueReport x s).sense = s.sense := rfl
@[simp] theorem State.queueReport_pending (s : State) (x : Report) : (State.queueReport x s).pending = s.pending := rfl

@[simp] theorem State.tryGrant_feed (s : State) : (s.tryGrant).feed = s.feed := rfl
@[simp] theorem State.tryGrant_dir (s : State) : (s.tryGrant).dir = s.dir := rfl
@[simp] theorem State.tryGrant_rep (s : State) : (s.tryGrant).rep = s.rep.tryGrant s.statusView := rfl
@[simp] theorem State.tryGrant_clock (s : State) : (s.tryGrant).clock = s.clock := rfl
@[simp] theorem State.tryGrant_divider (s : State) : (s.tryGrant).divider = s.divider := rfl
@[simp] theorem State.tryGrant_settings (s : State) : (s.tryGrant).settings = s.settings := rfl
@[simp] theorem State.tryGrant_board (s : State) : (s.tryGrant).board = s.board := rfl
@[simp] theorem State.tryGrant_tally (s : State) : (s.tryGrant).tally = s.tally := rfl
@[simp] theorem State.tryGrant_notice (s : State) : (s.tryGrant).notice = s.notice := rfl
@[simp] theorem State.tryGrant_fmt (s : State) : (s.tryGrant).fmt = s.fmt := rfl
@[simp] theorem State.tryGrant_comp (s : State) : (s.tryGrant).comp = s.comp := rfl
@[simp] theorem State.tryGrant_sense (s : State) : (s.tryGrant).sense = s.sense := rfl
@[simp] theorem State.tryGrant_pending (s : State) : (s.tryGrant).pending = s.pending := rfl

/-! ### The show board (chapter 4) -/

@[simp] theorem State.setShow_feed (s : State) (x : Slot) (w : Show) : (s.setShow x w).feed = s.feed := rfl
@[simp] theorem State.setShow_dir (s : State) (x : Slot) (w : Show) : (s.setShow x w).dir = s.dir := rfl
@[simp] theorem State.setShow_rep (s : State) (x : Slot) (w : Show) : (s.setShow x w).rep = s.rep := rfl
@[simp] theorem State.setShow_clock (s : State) (x : Slot) (w : Show) : (s.setShow x w).clock = s.clock := rfl
@[simp] theorem State.setShow_divider (s : State) (x : Slot) (w : Show) : (s.setShow x w).divider = s.divider := rfl
@[simp] theorem State.setShow_settings (s : State) (x : Slot) (w : Show) : (s.setShow x w).settings = s.settings := rfl
@[simp] theorem State.setShow_shows (s : State) (x : Slot) (w : Show) :
    (s.setShow x w).board.shows = s.board.shows.write x w := rfl
@[simp] theorem State.setShow_titles (s : State) (x : Slot) (w : Show) :
    (s.setShow x w).board.titles = s.board.titles := rfl
@[simp] theorem State.setShow_order (s : State) (x : Slot) (w : Show) :
    (s.setShow x w).board.order = s.board.order := rfl
@[simp] theorem State.setShow_nextDue (s : State) (x : Slot) (w : Show) :
    (s.setShow x w).board.nextDue = s.board.nextDue := rfl
@[simp] theorem State.setShow_tally (s : State) (x : Slot) (w : Show) : (s.setShow x w).tally = s.tally := rfl
@[simp] theorem State.setShow_notice (s : State) (x : Slot) (w : Show) : (s.setShow x w).notice = s.notice := rfl
@[simp] theorem State.setShow_fmt (s : State) (x : Slot) (w : Show) : (s.setShow x w).fmt = s.fmt := rfl
@[simp] theorem State.setShow_comp (s : State) (x : Slot) (w : Show) : (s.setShow x w).comp = s.comp := rfl
@[simp] theorem State.setShow_sense (s : State) (x : Slot) (w : Show) : (s.setShow x w).sense = s.sense := rfl
@[simp] theorem State.setShow_pending (s : State) (x : Slot) (w : Show) : (s.setShow x w).pending = s.pending := rfl

@[simp] theorem State.setOrder_feed (s : State) (o : List Slot) : (s.setOrder o).feed = s.feed := rfl
@[simp] theorem State.setOrder_dir (s : State) (o : List Slot) : (s.setOrder o).dir = s.dir := rfl
@[simp] theorem State.setOrder_rep (s : State) (o : List Slot) : (s.setOrder o).rep = s.rep := rfl
@[simp] theorem State.setOrder_clock (s : State) (o : List Slot) : (s.setOrder o).clock = s.clock := rfl
@[simp] theorem State.setOrder_divider (s : State) (o : List Slot) : (s.setOrder o).divider = s.divider := rfl
@[simp] theorem State.setOrder_settings (s : State) (o : List Slot) : (s.setOrder o).settings = s.settings := rfl
@[simp] theorem State.setOrder_shows (s : State) (o : List Slot) : (s.setOrder o).board.shows = s.board.shows := rfl
@[simp] theorem State.setOrder_titles (s : State) (o : List Slot) :
    (s.setOrder o).board.titles = s.board.titles := rfl
@[simp] theorem State.setOrder_order (s : State) (o : List Slot) : (s.setOrder o).board.order = o := rfl
@[simp] theorem State.setOrder_nextDue (s : State) (o : List Slot) :
    (s.setOrder o).board.nextDue = s.board.nextDue := rfl
@[simp] theorem State.setOrder_tally (s : State) (o : List Slot) : (s.setOrder o).tally = s.tally := rfl
@[simp] theorem State.setOrder_notice (s : State) (o : List Slot) : (s.setOrder o).notice = s.notice := rfl
@[simp] theorem State.setOrder_fmt (s : State) (o : List Slot) : (s.setOrder o).fmt = s.fmt := rfl
@[simp] theorem State.setOrder_comp (s : State) (o : List Slot) : (s.setOrder o).comp = s.comp := rfl
@[simp] theorem State.setOrder_sense (s : State) (o : List Slot) : (s.setOrder o).sense = s.sense := rfl
@[simp] theorem State.setOrder_pending (s : State) (o : List Slot) : (s.setOrder o).pending = s.pending := rfl

@[simp] theorem State.recomputeDue_feed (s : State) : (s.recomputeDue).feed = s.feed := rfl
@[simp] theorem State.recomputeDue_dir (s : State) : (s.recomputeDue).dir = s.dir := rfl
@[simp] theorem State.recomputeDue_rep (s : State) : (s.recomputeDue).rep = s.rep := rfl
@[simp] theorem State.recomputeDue_clock (s : State) : (s.recomputeDue).clock = s.clock := rfl
@[simp] theorem State.recomputeDue_divider (s : State) : (s.recomputeDue).divider = s.divider := rfl
@[simp] theorem State.recomputeDue_settings (s : State) : (s.recomputeDue).settings = s.settings := rfl
@[simp] theorem State.recomputeDue_shows (s : State) : (s.recomputeDue).board.shows = s.board.shows := rfl
@[simp] theorem State.recomputeDue_titles (s : State) : (s.recomputeDue).board.titles = s.board.titles := rfl
@[simp] theorem State.recomputeDue_order (s : State) : (s.recomputeDue).board.order = s.board.order := rfl
@[simp] theorem State.recomputeDue_nextDue (s : State) :
    (s.recomputeDue).board.nextDue = nextDueOf s.board.shows := rfl
@[simp] theorem State.recomputeDue_tally (s : State) : (s.recomputeDue).tally = s.tally := rfl
@[simp] theorem State.recomputeDue_notice (s : State) : (s.recomputeDue).notice = s.notice := rfl
@[simp] theorem State.recomputeDue_fmt (s : State) : (s.recomputeDue).fmt = s.fmt := rfl
@[simp] theorem State.recomputeDue_comp (s : State) : (s.recomputeDue).comp = s.comp := rfl
@[simp] theorem State.recomputeDue_sense (s : State) : (s.recomputeDue).sense = s.sense := rfl
@[simp] theorem State.recomputeDue_pending (s : State) : (s.recomputeDue).pending = s.pending := rfl

/-! ### The tally unit (chapter 5) -/

@[simp] theorem State.setTally_feed (s : State) (x : Slot) (t : Tally) : (s.setTally x t).feed = s.feed := rfl
@[simp] theorem State.setTally_dir (s : State) (x : Slot) (t : Tally) : (s.setTally x t).dir = s.dir := rfl
@[simp] theorem State.setTally_rep (s : State) (x : Slot) (t : Tally) : (s.setTally x t).rep = s.rep := rfl
@[simp] theorem State.setTally_clock (s : State) (x : Slot) (t : Tally) : (s.setTally x t).clock = s.clock := rfl
@[simp] theorem State.setTally_divider (s : State) (x : Slot) (t : Tally) : (s.setTally x t).divider = s.divider := rfl
@[simp] theorem State.setTally_settings (s : State) (x : Slot) (t : Tally) :
    (s.setTally x t).settings = s.settings := rfl
@[simp] theorem State.setTally_board (s : State) (x : Slot) (t : Tally) : (s.setTally x t).board = s.board := rfl
@[simp] theorem State.setTally_tallies (s : State) (x : Slot) (t : Tally) :
    (s.setTally x t).tally.tallies = s.tally.tallies.write x t := rfl
@[simp] theorem State.setTally_desks (s : State) (x : Slot) (t : Tally) :
    (s.setTally x t).tally.desks = s.tally.desks := rfl
@[simp] theorem State.setTally_notice (s : State) (x : Slot) (t : Tally) : (s.setTally x t).notice = s.notice := rfl
@[simp] theorem State.setTally_fmt (s : State) (x : Slot) (t : Tally) : (s.setTally x t).fmt = s.fmt := rfl
@[simp] theorem State.setTally_comp (s : State) (x : Slot) (t : Tally) : (s.setTally x t).comp = s.comp := rfl
@[simp] theorem State.setTally_sense (s : State) (x : Slot) (t : Tally) : (s.setTally x t).sense = s.sense := rfl
@[simp] theorem State.setTally_pending (s : State) (x : Slot) (t : Tally) : (s.setTally x t).pending = s.pending := rfl

@[simp] theorem State.setDesk_feed (s : State) (k : Fin 16) (r : Desk) : (s.setDesk k r).feed = s.feed := rfl
@[simp] theorem State.setDesk_dir (s : State) (k : Fin 16) (r : Desk) : (s.setDesk k r).dir = s.dir := rfl
@[simp] theorem State.setDesk_rep (s : State) (k : Fin 16) (r : Desk) : (s.setDesk k r).rep = s.rep := rfl
@[simp] theorem State.setDesk_clock (s : State) (k : Fin 16) (r : Desk) : (s.setDesk k r).clock = s.clock := rfl
@[simp] theorem State.setDesk_divider (s : State) (k : Fin 16) (r : Desk) : (s.setDesk k r).divider = s.divider := rfl
@[simp] theorem State.setDesk_settings (s : State) (k : Fin 16) (r : Desk) :
    (s.setDesk k r).settings = s.settings := rfl
@[simp] theorem State.setDesk_board (s : State) (k : Fin 16) (r : Desk) : (s.setDesk k r).board = s.board := rfl
@[simp] theorem State.setDesk_tallies (s : State) (k : Fin 16) (r : Desk) :
    (s.setDesk k r).tally.tallies = s.tally.tallies := rfl
@[simp] theorem State.setDesk_desks (s : State) (k : Fin 16) (r : Desk) :
    (s.setDesk k r).tally.desks = s.tally.desks.write k r := rfl
@[simp] theorem State.setDesk_notice (s : State) (k : Fin 16) (r : Desk) : (s.setDesk k r).notice = s.notice := rfl
@[simp] theorem State.setDesk_fmt (s : State) (k : Fin 16) (r : Desk) : (s.setDesk k r).fmt = s.fmt := rfl
@[simp] theorem State.setDesk_comp (s : State) (k : Fin 16) (r : Desk) : (s.setDesk k r).comp = s.comp := rfl
@[simp] theorem State.setDesk_sense (s : State) (k : Fin 16) (r : Desk) : (s.setDesk k r).sense = s.sense := rfl
@[simp] theorem State.setDesk_pending (s : State) (k : Fin 16) (r : Desk) : (s.setDesk k r).pending = s.pending := rfl

/-! ### The notice unit (chapter 6) -/

@[simp] theorem State.setNotices_feed (s : State) (q : List Notice) : (s.setNotices q).feed = s.feed := rfl
@[simp] theorem State.setNotices_dir (s : State) (q : List Notice) : (s.setNotices q).dir = s.dir := rfl
@[simp] theorem State.setNotices_rep (s : State) (q : List Notice) : (s.setNotices q).rep = s.rep := rfl
@[simp] theorem State.setNotices_clock (s : State) (q : List Notice) : (s.setNotices q).clock = s.clock := rfl
@[simp] theorem State.setNotices_divider (s : State) (q : List Notice) : (s.setNotices q).divider = s.divider := rfl
@[simp] theorem State.setNotices_settings (s : State) (q : List Notice) : (s.setNotices q).settings = s.settings := rfl
@[simp] theorem State.setNotices_board (s : State) (q : List Notice) : (s.setNotices q).board = s.board := rfl
@[simp] theorem State.setNotices_tally (s : State) (q : List Notice) : (s.setNotices q).tally = s.tally := rfl
@[simp] theorem State.setNotices_queue (s : State) (q : List Notice) : (s.setNotices q).notice.queue = q := rfl
@[simp] theorem State.setNotices_post (s : State) (q : List Notice) :
    (s.setNotices q).notice.post = s.notice.post := rfl
@[simp] theorem State.setNotices_wake (s : State) (q : List Notice) :
    (s.setNotices q).notice.wake = s.notice.wake := rfl
@[simp] theorem State.setNotices_chimes (s : State) (q : List Notice) :
    (s.setNotices q).notice.chimes = s.notice.chimes := rfl
@[simp] theorem State.setNotices_fmt (s : State) (q : List Notice) : (s.setNotices q).fmt = s.fmt := rfl
@[simp] theorem State.setNotices_comp (s : State) (q : List Notice) : (s.setNotices q).comp = s.comp := rfl
@[simp] theorem State.setNotices_sense (s : State) (q : List Notice) : (s.setNotices q).sense = s.sense := rfl
@[simp] theorem State.setNotices_pending (s : State) (q : List Notice) : (s.setNotices q).pending = s.pending := rfl

@[simp] theorem State.setChime_feed (s : State) (i : Fin 2) (l : ChimeLine) : (s.setChime i l).feed = s.feed := rfl
@[simp] theorem State.setChime_dir (s : State) (i : Fin 2) (l : ChimeLine) : (s.setChime i l).dir = s.dir := rfl
@[simp] theorem State.setChime_rep (s : State) (i : Fin 2) (l : ChimeLine) : (s.setChime i l).rep = s.rep := rfl
@[simp] theorem State.setChime_clock (s : State) (i : Fin 2) (l : ChimeLine) : (s.setChime i l).clock = s.clock := rfl
@[simp] theorem State.setChime_divider (s : State) (i : Fin 2) (l : ChimeLine) :
    (s.setChime i l).divider = s.divider := rfl
@[simp] theorem State.setChime_settings (s : State) (i : Fin 2) (l : ChimeLine) :
    (s.setChime i l).settings = s.settings := rfl
@[simp] theorem State.setChime_board (s : State) (i : Fin 2) (l : ChimeLine) : (s.setChime i l).board = s.board := rfl
@[simp] theorem State.setChime_tally (s : State) (i : Fin 2) (l : ChimeLine) : (s.setChime i l).tally = s.tally := rfl
@[simp] theorem State.setChime_queue (s : State) (i : Fin 2) (l : ChimeLine) :
    (s.setChime i l).notice.queue = s.notice.queue := rfl
@[simp] theorem State.setChime_post (s : State) (i : Fin 2) (l : ChimeLine) :
    (s.setChime i l).notice.post = s.notice.post := rfl
@[simp] theorem State.setChime_wake (s : State) (i : Fin 2) (l : ChimeLine) :
    (s.setChime i l).notice.wake = s.notice.wake := rfl
@[simp] theorem State.setChime_chimes (s : State) (i : Fin 2) (l : ChimeLine) :
    (s.setChime i l).notice.chimes = s.notice.chimes.write i l := rfl
@[simp] theorem State.setChime_fmt (s : State) (i : Fin 2) (l : ChimeLine) : (s.setChime i l).fmt = s.fmt := rfl
@[simp] theorem State.setChime_comp (s : State) (i : Fin 2) (l : ChimeLine) : (s.setChime i l).comp = s.comp := rfl
@[simp] theorem State.setChime_sense (s : State) (i : Fin 2) (l : ChimeLine) : (s.setChime i l).sense = s.sense := rfl
@[simp] theorem State.setChime_pending (s : State) (i : Fin 2) (l : ChimeLine) :
    (s.setChime i l).pending = s.pending := rfl

@[simp] theorem State.setPost_feed (s : State) (p : Option PartialPost) : (s.setPost p).feed = s.feed := rfl
@[simp] theorem State.setPost_dir (s : State) (p : Option PartialPost) : (s.setPost p).dir = s.dir := rfl
@[simp] theorem State.setPost_rep (s : State) (p : Option PartialPost) : (s.setPost p).rep = s.rep := rfl
@[simp] theorem State.setPost_clock (s : State) (p : Option PartialPost) : (s.setPost p).clock = s.clock := rfl
@[simp] theorem State.setPost_divider (s : State) (p : Option PartialPost) : (s.setPost p).divider = s.divider := rfl
@[simp] theorem State.setPost_settings (s : State) (p : Option PartialPost) : (s.setPost p).settings = s.settings := rfl
@[simp] theorem State.setPost_board (s : State) (p : Option PartialPost) : (s.setPost p).board = s.board := rfl
@[simp] theorem State.setPost_tally (s : State) (p : Option PartialPost) : (s.setPost p).tally = s.tally := rfl
@[simp] theorem State.setPost_queue (s : State) (p : Option PartialPost) :
    (s.setPost p).notice.queue = s.notice.queue := rfl
@[simp] theorem State.setPost_post (s : State) (p : Option PartialPost) : (s.setPost p).notice.post = p := rfl
@[simp] theorem State.setPost_wake (s : State) (p : Option PartialPost) :
    (s.setPost p).notice.wake = s.notice.wake := rfl
@[simp] theorem State.setPost_chimes (s : State) (p : Option PartialPost) :
    (s.setPost p).notice.chimes = s.notice.chimes := rfl
@[simp] theorem State.setPost_fmt (s : State) (p : Option PartialPost) : (s.setPost p).fmt = s.fmt := rfl
@[simp] theorem State.setPost_comp (s : State) (p : Option PartialPost) : (s.setPost p).comp = s.comp := rfl
@[simp] theorem State.setPost_sense (s : State) (p : Option PartialPost) : (s.setPost p).sense = s.sense := rfl
@[simp] theorem State.setPost_pending (s : State) (p : Option PartialPost) : (s.setPost p).pending = s.pending := rfl

@[simp] theorem State.wakeFor_feed (s : State) (n : Notice) : (s.wakeFor n).feed = s.feed := rfl
@[simp] theorem State.wakeFor_dir (s : State) (n : Notice) : (s.wakeFor n).dir = s.dir := rfl
@[simp] theorem State.wakeFor_rep (s : State) (n : Notice) : (s.wakeFor n).rep = s.rep := rfl
@[simp] theorem State.wakeFor_clock (s : State) (n : Notice) : (s.wakeFor n).clock = s.clock := rfl
@[simp] theorem State.wakeFor_divider (s : State) (n : Notice) : (s.wakeFor n).divider = s.divider := rfl
@[simp] theorem State.wakeFor_settings (s : State) (n : Notice) : (s.wakeFor n).settings = s.settings := rfl
@[simp] theorem State.wakeFor_board (s : State) (n : Notice) : (s.wakeFor n).board = s.board := rfl
@[simp] theorem State.wakeFor_tally (s : State) (n : Notice) : (s.wakeFor n).tally = s.tally := rfl
@[simp] theorem State.wakeFor_queue (s : State) (n : Notice) : (s.wakeFor n).notice.queue = s.notice.queue := rfl
@[simp] theorem State.wakeFor_post (s : State) (n : Notice) : (s.wakeFor n).notice.post = s.notice.post := rfl
@[simp] theorem State.wakeFor_wake (s : State) (n : Notice) :
    (s.wakeFor n).notice.wake = s.notice.wake ||| s.wakesOf n := rfl
@[simp] theorem State.wakeFor_chimes (s : State) (n : Notice) : (s.wakeFor n).notice.chimes = s.notice.chimes := rfl
@[simp] theorem State.wakeFor_fmt (s : State) (n : Notice) : (s.wakeFor n).fmt = s.fmt := rfl
@[simp] theorem State.wakeFor_comp (s : State) (n : Notice) : (s.wakeFor n).comp = s.comp := rfl
@[simp] theorem State.wakeFor_sense (s : State) (n : Notice) : (s.wakeFor n).sense = s.sense := rfl
@[simp] theorem State.wakeFor_pending (s : State) (n : Notice) : (s.wakeFor n).pending = s.pending := rfl

/-! ### The tile formatter (chapter 7) -/

@[simp] theorem State.setTile_feed (s : State) (t : TileNo) (x : Tile) : (s.setTile t x).feed = s.feed := rfl
@[simp] theorem State.setTile_dir (s : State) (t : TileNo) (x : Tile) : (s.setTile t x).dir = s.dir := rfl
@[simp] theorem State.setTile_rep (s : State) (t : TileNo) (x : Tile) : (s.setTile t x).rep = s.rep := rfl
@[simp] theorem State.setTile_clock (s : State) (t : TileNo) (x : Tile) : (s.setTile t x).clock = s.clock := rfl
@[simp] theorem State.setTile_divider (s : State) (t : TileNo) (x : Tile) : (s.setTile t x).divider = s.divider := rfl
@[simp] theorem State.setTile_settings (s : State) (t : TileNo) (x : Tile) :
    (s.setTile t x).settings = s.settings := rfl
@[simp] theorem State.setTile_board (s : State) (t : TileNo) (x : Tile) : (s.setTile t x).board = s.board := rfl
@[simp] theorem State.setTile_tally (s : State) (t : TileNo) (x : Tile) : (s.setTile t x).tally = s.tally := rfl
@[simp] theorem State.setTile_notice (s : State) (t : TileNo) (x : Tile) : (s.setTile t x).notice = s.notice := rfl
@[simp] theorem State.setTile_tiles (s : State) (t : TileNo) (x : Tile) :
    (s.setTile t x).fmt.tiles = s.fmt.tiles.write t x := rfl
@[simp] theorem State.setTile_templates (s : State) (t : TileNo) (x : Tile) :
    (s.setTile t x).fmt.templates = s.fmt.templates := rfl
@[simp] theorem State.setTile_queue (s : State) (t : TileNo) (x : Tile) :
    (s.setTile t x).fmt.queue = s.fmt.queue := rfl
@[simp] theorem State.setTile_engine (s : State) (t : TileNo) (x : Tile) :
    (s.setTile t x).fmt.engine = s.fmt.engine := rfl
@[simp] theorem State.setTile_sweep (s : State) (t : TileNo) (x : Tile) :
    (s.setTile t x).fmt.sweep = s.fmt.sweep := rfl
@[simp] theorem State.setTile_comp (s : State) (t : TileNo) (x : Tile) : (s.setTile t x).comp = s.comp := rfl
@[simp] theorem State.setTile_sense (s : State) (t : TileNo) (x : Tile) : (s.setTile t x).sense = s.sense := rfl
@[simp] theorem State.setTile_pending (s : State) (t : TileNo) (x : Tile) : (s.setTile t x).pending = s.pending := rfl

@[simp] theorem State.enqueue_feed (s : State) (t : TileNo) : (s.enqueue t).feed = s.feed := rfl
@[simp] theorem State.enqueue_dir (s : State) (t : TileNo) : (s.enqueue t).dir = s.dir := rfl
@[simp] theorem State.enqueue_rep (s : State) (t : TileNo) : (s.enqueue t).rep = s.rep := rfl
@[simp] theorem State.enqueue_clock (s : State) (t : TileNo) : (s.enqueue t).clock = s.clock := rfl
@[simp] theorem State.enqueue_divider (s : State) (t : TileNo) : (s.enqueue t).divider = s.divider := rfl
@[simp] theorem State.enqueue_settings (s : State) (t : TileNo) : (s.enqueue t).settings = s.settings := rfl
@[simp] theorem State.enqueue_board (s : State) (t : TileNo) : (s.enqueue t).board = s.board := rfl
@[simp] theorem State.enqueue_tally (s : State) (t : TileNo) : (s.enqueue t).tally = s.tally := rfl
@[simp] theorem State.enqueue_notice (s : State) (t : TileNo) : (s.enqueue t).notice = s.notice := rfl
@[simp] theorem State.enqueue_tiles (s : State) (t : TileNo) :
    (s.enqueue t).fmt.tiles = s.fmt.tiles.write t { s.fmt.tiles.read t with state := .queued } := rfl
@[simp] theorem State.enqueue_templates (s : State) (t : TileNo) :
    (s.enqueue t).fmt.templates = s.fmt.templates := rfl
@[simp] theorem State.enqueue_queue (s : State) (t : TileNo) : (s.enqueue t).fmt.queue = s.fmt.queue ++ [t] := rfl
@[simp] theorem State.enqueue_engine (s : State) (t : TileNo) : (s.enqueue t).fmt.engine = s.fmt.engine := rfl
@[simp] theorem State.enqueue_sweep (s : State) (t : TileNo) : (s.enqueue t).fmt.sweep = s.fmt.sweep := rfl
@[simp] theorem State.enqueue_comp (s : State) (t : TileNo) : (s.enqueue t).comp = s.comp := rfl
@[simp] theorem State.enqueue_sense (s : State) (t : TileNo) : (s.enqueue t).sense = s.sense := rfl
@[simp] theorem State.enqueue_pending (s : State) (t : TileNo) : (s.enqueue t).pending = s.pending := rfl

@[simp] theorem State.commitTiles_feed (s : State) : (s.commitTiles).feed = s.feed := by simp only [State.commitTiles]
@[simp] theorem State.commitTiles_dir (s : State) : (s.commitTiles).dir = s.dir := by simp only [State.commitTiles]
@[simp] theorem State.commitTiles_rep (s : State) : (s.commitTiles).rep = s.rep := by simp only [State.commitTiles]
@[simp] theorem State.commitTiles_clock (s : State) : (s.commitTiles).clock = s.clock := by
  simp only [State.commitTiles]
@[simp] theorem State.commitTiles_divider (s : State) : (s.commitTiles).divider = s.divider := by
  simp only [State.commitTiles]
@[simp] theorem State.commitTiles_settings (s : State) : (s.commitTiles).settings = s.settings := by
  simp only [State.commitTiles]
@[simp] theorem State.commitTiles_board (s : State) : (s.commitTiles).board = s.board := by
  simp only [State.commitTiles]
@[simp] theorem State.commitTiles_tally (s : State) : (s.commitTiles).tally = s.tally := by
  simp only [State.commitTiles]
@[simp] theorem State.commitTiles_notice (s : State) : (s.commitTiles).notice = s.notice := by
  simp only [State.commitTiles]
@[simp] theorem State.commitTiles_tiles (s : State) :
    (s.commitTiles).fmt.tiles = Table.tabulate fun t => (s.fmt.tiles.read t).commit := by simp only [State.commitTiles]
@[simp] theorem State.commitTiles_templates (s : State) : (s.commitTiles).fmt.templates = s.fmt.templates := by
  simp only [State.commitTiles]
@[simp] theorem State.commitTiles_queue (s : State) : (s.commitTiles).fmt.queue = s.fmt.queue := by
  simp only [State.commitTiles]
@[simp] theorem State.commitTiles_engine (s : State) : (s.commitTiles).fmt.engine = s.fmt.engine := by
  simp only [State.commitTiles]
@[simp] theorem State.commitTiles_sweep (s : State) : (s.commitTiles).fmt.sweep = s.fmt.sweep := by
  simp only [State.commitTiles]
@[simp] theorem State.commitTiles_comp (s : State) : (s.commitTiles).comp = s.comp := by simp only [State.commitTiles]
@[simp] theorem State.commitTiles_sense (s : State) : (s.commitTiles).sense = s.sense := by
  simp only [State.commitTiles]
@[simp] theorem State.commitTiles_pending (s : State) : (s.commitTiles).pending = s.pending := by
  simp only [State.commitTiles]

/-! ### The compositor (chapters 8 and 9) -/

@[simp] theorem State.setComp_feed (s : State) (c : Compositor) : (s.setComp c).feed = s.feed := rfl
@[simp] theorem State.setComp_dir (s : State) (c : Compositor) : (s.setComp c).dir = s.dir := rfl
@[simp] theorem State.setComp_rep (s : State) (c : Compositor) : (s.setComp c).rep = s.rep := rfl
@[simp] theorem State.setComp_clock (s : State) (c : Compositor) : (s.setComp c).clock = s.clock := rfl
@[simp] theorem State.setComp_divider (s : State) (c : Compositor) : (s.setComp c).divider = s.divider := rfl
@[simp] theorem State.setComp_settings (s : State) (c : Compositor) : (s.setComp c).settings = s.settings := rfl
@[simp] theorem State.setComp_board (s : State) (c : Compositor) : (s.setComp c).board = s.board := rfl
@[simp] theorem State.setComp_tally (s : State) (c : Compositor) : (s.setComp c).tally = s.tally := rfl
@[simp] theorem State.setComp_notice (s : State) (c : Compositor) : (s.setComp c).notice = s.notice := rfl
@[simp] theorem State.setComp_fmt (s : State) (c : Compositor) : (s.setComp c).fmt = s.fmt := rfl
@[simp] theorem State.setComp_comp (s : State) (c : Compositor) : (s.setComp c).comp = c := rfl
@[simp] theorem State.setComp_sense (s : State) (c : Compositor) : (s.setComp c).sense = s.sense := rfl
@[simp] theorem State.setComp_pending (s : State) (c : Compositor) : (s.setComp c).pending = s.pending := rfl

@[simp] theorem State.setPage_feed (s : State) (l : LayoutNo) (r : RegionNo) (p : PageState) :
    (s.setPage l r p).feed = s.feed := rfl
@[simp] theorem State.setPage_dir (s : State) (l : LayoutNo) (r : RegionNo) (p : PageState) :
    (s.setPage l r p).dir = s.dir := rfl
@[simp] theorem State.setPage_rep (s : State) (l : LayoutNo) (r : RegionNo) (p : PageState) :
    (s.setPage l r p).rep = s.rep := rfl
@[simp] theorem State.setPage_clock (s : State) (l : LayoutNo) (r : RegionNo) (p : PageState) :
    (s.setPage l r p).clock = s.clock := rfl
@[simp] theorem State.setPage_divider (s : State) (l : LayoutNo) (r : RegionNo) (p : PageState) :
    (s.setPage l r p).divider = s.divider := rfl
@[simp] theorem State.setPage_settings (s : State) (l : LayoutNo) (r : RegionNo) (p : PageState) :
    (s.setPage l r p).settings = s.settings := rfl
@[simp] theorem State.setPage_board (s : State) (l : LayoutNo) (r : RegionNo) (p : PageState) :
    (s.setPage l r p).board = s.board := rfl
@[simp] theorem State.setPage_tally (s : State) (l : LayoutNo) (r : RegionNo) (p : PageState) :
    (s.setPage l r p).tally = s.tally := rfl
@[simp] theorem State.setPage_notice (s : State) (l : LayoutNo) (r : RegionNo) (p : PageState) :
    (s.setPage l r p).notice = s.notice := rfl
@[simp] theorem State.setPage_fmt (s : State) (l : LayoutNo) (r : RegionNo) (p : PageState) :
    (s.setPage l r p).fmt = s.fmt := rfl
@[simp] theorem State.setPage_layouts (s : State) (l : LayoutNo) (r : RegionNo) (p : PageState) :
    (s.setPage l r p).comp.layouts = s.comp.layouts := rfl
@[simp] theorem State.setPage_regions (s : State) (l : LayoutNo) (r : RegionNo) (p : PageState) :
    (s.setPage l r p).comp.regions = s.comp.regions := rfl
@[simp] theorem State.setPage_inUse (s : State) (l : LayoutNo) (r : RegionNo) (p : PageState) :
    (s.setPage l r p).comp.inUse = s.comp.inUse := rfl
@[simp] theorem State.setPage_pages (s : State) (l : LayoutNo) (r : RegionNo) (p : PageState) :
    (s.setPage l r p).comp.pages = s.comp.pages.write (regionIndex l r) p := rfl
@[simp] theorem State.setPage_tickers (s : State) (l : LayoutNo) (r : RegionNo) (p : PageState) :
    (s.setPage l r p).comp.tickers = s.comp.tickers := rfl
@[simp] theorem State.setPage_displays (s : State) (l : LayoutNo) (r : RegionNo) (p : PageState) :
    (s.setPage l r p).comp.displays = s.comp.displays := rfl
@[simp] theorem State.setPage_palette (s : State) (l : LayoutNo) (r : RegionNo) (p : PageState) :
    (s.setPage l r p).comp.palette = s.comp.palette := rfl
@[simp] theorem State.setPage_glyphs (s : State) (l : LayoutNo) (r : RegionNo) (p : PageState) :
    (s.setPage l r p).comp.glyphs = s.comp.glyphs := rfl
@[simp] theorem State.setPage_latched (s : State) (l : LayoutNo) (r : RegionNo) (p : PageState) :
    (s.setPage l r p).comp.latched = s.comp.latched := rfl
@[simp] theorem State.setPage_tileNeeded (s : State) (l : LayoutNo) (r : RegionNo) (p : PageState) :
    (s.setPage l r p).comp.tileNeeded = s.comp.tileNeeded := rfl
@[simp] theorem State.setPage_ports (s : State) (l : LayoutNo) (r : RegionNo) (p : PageState) :
    (s.setPage l r p).comp.ports = s.comp.ports := rfl
@[simp] theorem State.setPage_sense (s : State) (l : LayoutNo) (r : RegionNo) (p : PageState) :
    (s.setPage l r p).sense = s.sense := rfl
@[simp] theorem State.setPage_pending (s : State) (l : LayoutNo) (r : RegionNo) (p : PageState) :
    (s.setPage l r p).pending = s.pending := rfl

@[simp] theorem State.setTicker_feed (s : State) (d : DisplayNo) (t : Ticker) : (s.setTicker d t).feed = s.feed := rfl
@[simp] theorem State.setTicker_dir (s : State) (d : DisplayNo) (t : Ticker) : (s.setTicker d t).dir = s.dir := rfl
@[simp] theorem State.setTicker_rep (s : State) (d : DisplayNo) (t : Ticker) : (s.setTicker d t).rep = s.rep := rfl
@[simp] theorem State.setTicker_clock (s : State) (d : DisplayNo) (t : Ticker) :
    (s.setTicker d t).clock = s.clock := rfl
@[simp] theorem State.setTicker_divider (s : State) (d : DisplayNo) (t : Ticker) :
    (s.setTicker d t).divider = s.divider := rfl
@[simp] theorem State.setTicker_settings (s : State) (d : DisplayNo) (t : Ticker) :
    (s.setTicker d t).settings = s.settings := rfl
@[simp] theorem State.setTicker_board (s : State) (d : DisplayNo) (t : Ticker) :
    (s.setTicker d t).board = s.board := rfl
@[simp] theorem State.setTicker_tally (s : State) (d : DisplayNo) (t : Ticker) :
    (s.setTicker d t).tally = s.tally := rfl
@[simp] theorem State.setTicker_notice (s : State) (d : DisplayNo) (t : Ticker) :
    (s.setTicker d t).notice = s.notice := rfl
@[simp] theorem State.setTicker_fmt (s : State) (d : DisplayNo) (t : Ticker) : (s.setTicker d t).fmt = s.fmt := rfl
@[simp] theorem State.setTicker_layouts (s : State) (d : DisplayNo) (t : Ticker) :
    (s.setTicker d t).comp.layouts = s.comp.layouts := rfl
@[simp] theorem State.setTicker_regions (s : State) (d : DisplayNo) (t : Ticker) :
    (s.setTicker d t).comp.regions = s.comp.regions := rfl
@[simp] theorem State.setTicker_inUse (s : State) (d : DisplayNo) (t : Ticker) :
    (s.setTicker d t).comp.inUse = s.comp.inUse := rfl
@[simp] theorem State.setTicker_pages (s : State) (d : DisplayNo) (t : Ticker) :
    (s.setTicker d t).comp.pages = s.comp.pages := rfl
@[simp] theorem State.setTicker_tickers (s : State) (d : DisplayNo) (t : Ticker) :
    (s.setTicker d t).comp.tickers = s.comp.tickers.write d t := rfl
@[simp] theorem State.setTicker_displays (s : State) (d : DisplayNo) (t : Ticker) :
    (s.setTicker d t).comp.displays = s.comp.displays := rfl
@[simp] theorem State.setTicker_palette (s : State) (d : DisplayNo) (t : Ticker) :
    (s.setTicker d t).comp.palette = s.comp.palette := rfl
@[simp] theorem State.setTicker_glyphs (s : State) (d : DisplayNo) (t : Ticker) :
    (s.setTicker d t).comp.glyphs = s.comp.glyphs := rfl
@[simp] theorem State.setTicker_latched (s : State) (d : DisplayNo) (t : Ticker) :
    (s.setTicker d t).comp.latched = s.comp.latched := rfl
@[simp] theorem State.setTicker_tileNeeded (s : State) (d : DisplayNo) (t : Ticker) :
    (s.setTicker d t).comp.tileNeeded = s.comp.tileNeeded := rfl
@[simp] theorem State.setTicker_ports (s : State) (d : DisplayNo) (t : Ticker) :
    (s.setTicker d t).comp.ports = s.comp.ports := rfl
@[simp] theorem State.setTicker_sense (s : State) (d : DisplayNo) (t : Ticker) :
    (s.setTicker d t).sense = s.sense := rfl
@[simp] theorem State.setTicker_pending (s : State) (d : DisplayNo) (t : Ticker) :
    (s.setTicker d t).pending = s.pending := rfl

@[simp] theorem State.setDisplay_feed (s : State) (d : DisplayNo) (x : Display) :
    (s.setDisplay d x).feed = s.feed := rfl
@[simp] theorem State.setDisplay_dir (s : State) (d : DisplayNo) (x : Display) : (s.setDisplay d x).dir = s.dir := rfl
@[simp] theorem State.setDisplay_rep (s : State) (d : DisplayNo) (x : Display) : (s.setDisplay d x).rep = s.rep := rfl
@[simp] theorem State.setDisplay_clock (s : State) (d : DisplayNo) (x : Display) :
    (s.setDisplay d x).clock = s.clock := rfl
@[simp] theorem State.setDisplay_divider (s : State) (d : DisplayNo) (x : Display) :
    (s.setDisplay d x).divider = s.divider := rfl
@[simp] theorem State.setDisplay_settings (s : State) (d : DisplayNo) (x : Display) :
    (s.setDisplay d x).settings = s.settings := rfl
@[simp] theorem State.setDisplay_board (s : State) (d : DisplayNo) (x : Display) :
    (s.setDisplay d x).board = s.board := rfl
@[simp] theorem State.setDisplay_tally (s : State) (d : DisplayNo) (x : Display) :
    (s.setDisplay d x).tally = s.tally := rfl
@[simp] theorem State.setDisplay_notice (s : State) (d : DisplayNo) (x : Display) :
    (s.setDisplay d x).notice = s.notice := rfl
@[simp] theorem State.setDisplay_fmt (s : State) (d : DisplayNo) (x : Display) : (s.setDisplay d x).fmt = s.fmt := rfl
@[simp] theorem State.setDisplay_layouts (s : State) (d : DisplayNo) (x : Display) :
    (s.setDisplay d x).comp.layouts = s.comp.layouts := rfl
@[simp] theorem State.setDisplay_regions (s : State) (d : DisplayNo) (x : Display) :
    (s.setDisplay d x).comp.regions = s.comp.regions := rfl
@[simp] theorem State.setDisplay_inUse (s : State) (d : DisplayNo) (x : Display) :
    (s.setDisplay d x).comp.inUse = s.comp.inUse := rfl
@[simp] theorem State.setDisplay_pages (s : State) (d : DisplayNo) (x : Display) :
    (s.setDisplay d x).comp.pages = s.comp.pages := rfl
@[simp] theorem State.setDisplay_tickers (s : State) (d : DisplayNo) (x : Display) :
    (s.setDisplay d x).comp.tickers = s.comp.tickers := rfl
@[simp] theorem State.setDisplay_displays (s : State) (d : DisplayNo) (x : Display) :
    (s.setDisplay d x).comp.displays = s.comp.displays.write d x := rfl
@[simp] theorem State.setDisplay_palette (s : State) (d : DisplayNo) (x : Display) :
    (s.setDisplay d x).comp.palette = s.comp.palette := rfl
@[simp] theorem State.setDisplay_glyphs (s : State) (d : DisplayNo) (x : Display) :
    (s.setDisplay d x).comp.glyphs = s.comp.glyphs := rfl
@[simp] theorem State.setDisplay_latched (s : State) (d : DisplayNo) (x : Display) :
    (s.setDisplay d x).comp.latched = s.comp.latched := rfl
@[simp] theorem State.setDisplay_tileNeeded (s : State) (d : DisplayNo) (x : Display) :
    (s.setDisplay d x).comp.tileNeeded = s.comp.tileNeeded := rfl
@[simp] theorem State.setDisplay_ports (s : State) (d : DisplayNo) (x : Display) :
    (s.setDisplay d x).comp.ports = s.comp.ports := rfl
@[simp] theorem State.setDisplay_sense (s : State) (d : DisplayNo) (x : Display) :
    (s.setDisplay d x).sense = s.sense := rfl
@[simp] theorem State.setDisplay_pending (s : State) (d : DisplayNo) (x : Display) :
    (s.setDisplay d x).pending = s.pending := rfl

@[simp] theorem State.setPorts_feed (s : State) (f : DisplayNo → Port) : (s.setPorts f).feed = s.feed := rfl
@[simp] theorem State.setPorts_dir (s : State) (f : DisplayNo → Port) : (s.setPorts f).dir = s.dir := rfl
@[simp] theorem State.setPorts_rep (s : State) (f : DisplayNo → Port) : (s.setPorts f).rep = s.rep := rfl
@[simp] theorem State.setPorts_clock (s : State) (f : DisplayNo → Port) : (s.setPorts f).clock = s.clock := rfl
@[simp] theorem State.setPorts_divider (s : State) (f : DisplayNo → Port) : (s.setPorts f).divider = s.divider := rfl
@[simp] theorem State.setPorts_settings (s : State) (f : DisplayNo → Port) : (s.setPorts f).settings = s.settings := rfl
@[simp] theorem State.setPorts_board (s : State) (f : DisplayNo → Port) : (s.setPorts f).board = s.board := rfl
@[simp] theorem State.setPorts_tally (s : State) (f : DisplayNo → Port) : (s.setPorts f).tally = s.tally := rfl
@[simp] theorem State.setPorts_notice (s : State) (f : DisplayNo → Port) : (s.setPorts f).notice = s.notice := rfl
@[simp] theorem State.setPorts_fmt (s : State) (f : DisplayNo → Port) : (s.setPorts f).fmt = s.fmt := rfl
@[simp] theorem State.setPorts_layouts (s : State) (f : DisplayNo → Port) :
    (s.setPorts f).comp.layouts = s.comp.layouts := rfl
@[simp] theorem State.setPorts_regions (s : State) (f : DisplayNo → Port) :
    (s.setPorts f).comp.regions = s.comp.regions := rfl
@[simp] theorem State.setPorts_inUse (s : State) (f : DisplayNo → Port) :
    (s.setPorts f).comp.inUse = s.comp.inUse := rfl
@[simp] theorem State.setPorts_pages (s : State) (f : DisplayNo → Port) :
    (s.setPorts f).comp.pages = s.comp.pages := rfl
@[simp] theorem State.setPorts_tickers (s : State) (f : DisplayNo → Port) :
    (s.setPorts f).comp.tickers = s.comp.tickers := rfl
@[simp] theorem State.setPorts_displays (s : State) (f : DisplayNo → Port) :
    (s.setPorts f).comp.displays = s.comp.displays := rfl
@[simp] theorem State.setPorts_palette (s : State) (f : DisplayNo → Port) :
    (s.setPorts f).comp.palette = s.comp.palette := rfl
@[simp] theorem State.setPorts_glyphs (s : State) (f : DisplayNo → Port) :
    (s.setPorts f).comp.glyphs = s.comp.glyphs := rfl
@[simp] theorem State.setPorts_latched (s : State) (f : DisplayNo → Port) :
    (s.setPorts f).comp.latched = s.comp.latched := rfl
@[simp] theorem State.setPorts_tileNeeded (s : State) (f : DisplayNo → Port) :
    (s.setPorts f).comp.tileNeeded = s.comp.tileNeeded := rfl
@[simp] theorem State.setPorts_ports (s : State) (f : DisplayNo → Port) :
    (s.setPorts f).comp.ports = Table.tabulate f := rfl
@[simp] theorem State.setPorts_sense (s : State) (f : DisplayNo → Port) : (s.setPorts f).sense = s.sense := rfl
@[simp] theorem State.setPorts_pending (s : State) (f : DisplayNo → Port) : (s.setPorts f).pending = s.pending := rfl

end Sys2Proof.Machine
end

