-- ==== Sys2Proof/Laws/Frames.lean ====
section
/-! SUPPORT. The relations of Safety.lean between a state and a later one: reflexive, transitive, kept by folds. -/

namespace Sys2Proof.Machine

/-! ### Blocks -/

theorem SameBut.refl (ks : List Block) (s : State) : SameBut ks s s := by constructor <;> intros <;> rfl

theorem SameBut.trans {ks : List Block} {s t u : State} (h : SameBut ks s t) (k : SameBut ks t u) : SameBut ks s u :=
  ⟨fun n => (k.feed n).trans (h.feed n), fun n => (k.dir n).trans (h.dir n), fun n => (k.rep n).trans (h.rep n),
   fun n => (k.clock n).trans (h.clock n), fun n => (k.divider n).trans (h.divider n),
   fun n => (k.settings n).trans (h.settings n), fun n => (k.board n).trans (h.board n),
   fun n => (k.tally n).trans (h.tally n), fun n => (k.notice n).trans (h.notice n),
   fun n => (k.fmt n).trans (h.fmt n), fun n => (k.comp n).trans (h.comp n), fun n => (k.sense n).trans (h.sense n),
   k.pending.trans h.pending⟩

theorem SameBut.mono {ks ls : List Block} {s t : State} (h : SameBut ks s t) (sub : ks ⊆ ls) : SameBut ls s t :=
  ⟨fun n => h.feed fun m => n (sub m), fun n => h.dir fun m => n (sub m), fun n => h.rep fun m => n (sub m),
   fun n => h.clock fun m => n (sub m), fun n => h.divider fun m => n (sub m), fun n => h.settings fun m => n (sub m),
   fun n => h.board fun m => n (sub m), fun n => h.tally fun m => n (sub m), fun n => h.notice fun m => n (sub m),
   fun n => h.fmt fun m => n (sub m), fun n => h.comp fun m => n (sub m), fun n => h.sense fun m => n (sub m),
   h.pending⟩

theorem SameBut.foldl {α : Type} {ks : List Block} {f : State → α → State} (h : ∀ s a, SameBut ks s (f s a)) :
    ∀ (as : List α) (s : State), SameBut ks s (as.foldl f s)
  | [], s => SameBut.refl ks s
  | a :: as, s => (h s a).trans (SameBut.foldl h as (f s a))

/-! ### Marks in the tile formatter -/

theorem Formatter.MarkedFrom.refl (f : Formatter) : f.MarkedFrom f :=
  ⟨rfl, rfl, fun _ h => h, fun _ => ⟨rfl, rfl, rfl, rfl⟩⟩

theorem Formatter.MarkedFrom.trans {f g h : Formatter} (a : f.MarkedFrom g) (b : g.MarkedFrom h) : f.MarkedFrom h :=
  ⟨b.templates.trans a.templates, b.sweep.trans a.sweep, fun r e => b.engine r (a.engine r e), fun t =>
    let ⟨a1, a2, a3, a4⟩ := a.tiles t
    let ⟨b1, b2, b3, b4⟩ := b.tiles t
    ⟨b1.trans a1, b2.trans a2, b3.trans a3, b4.trans a4⟩⟩

/-! ### The report side -/

theorem ReportUnit.GrownFrom.refl (r : ReportUnit) : r.GrownFrom r :=
  ⟨rfl, rfl, rfl, rfl, rfl, fun _ h => h, List.prefix_rfl⟩

theorem ReportUnit.GrownFrom.trans {a b c : ReportUnit} (h : a.GrownFrom b) (k : b.GrownFrom c) : a.GrownFrom c :=
  ⟨k.mask.trans h.mask, k.chain.trans h.chain, k.lane.trans h.lane, k.winner.trans h.winner, k.ready.trans h.ready,
   fun f e => k.flags f (h.flags f e), h.queue.trans k.queue⟩

/-- A report side that only grew is still one at which no grant can be made. -/
theorem ReportUnit.Quiet.of_grown {a b : ReportUnit} (h : a.GrownFrom b) (q : a.Quiet) : b.Quiet := by
  intro e
  rw [h.lane] at e
  rw [h.ready]
  exact q e

/-! ### What a command leaves alone -/

theorem State.Leaves.refl (ks : List Block) (s : State) : s.Leaves ks s :=
  ⟨SameBut.refl ks s, .refl _, fun _ => .refl _⟩

theorem State.Leaves.trans {ks : List Block} {s t u : State} (h : s.Leaves ks t) (k : t.Leaves ks u) : s.Leaves ks u :=
  ⟨h.blocks.trans k.blocks, h.tiles.trans k.tiles, fun q =>
    (h.reports q).trans (k.reports (ReportUnit.Quiet.of_grown (h.reports q) q))⟩

theorem State.Leaves.mono {ks ls : List Block} {s t : State} (h : s.Leaves ks t) (sub : ks ⊆ ls) : s.Leaves ls t :=
  ⟨h.blocks.mono sub, h.tiles, h.reports⟩

theorem State.Leaves.foldl {α : Type} {ks : List Block} {f : State → α → State}
    (h : ∀ (s : State) a, s.Leaves ks (f s a)) :
    ∀ (as : List α) (s : State), s.Leaves ks (as.foldl f s)
  | [], s => .refl ks s
  | a :: as, s => (h s a).trans (State.Leaves.foldl h as (f s a))

/-- An update that touches neither the formatter nor the report side. -/
theorem State.Leaves.of_same {ks : List Block} {s t : State} (h : SameBut ks s t) (hf : t.fmt = s.fmt)
    (hr : t.rep = s.rep) : s.Leaves ks t :=
  ⟨h, hf ▸ .refl _, fun _ => hr ▸ .refl _⟩

/-- No grant can be made after a command that leaves the report side grown, where none could be made before. -/
theorem State.Leaves.quiet {ks : List Block} {s t : State} (h : s.Leaves ks t) (q : s.rep.Quiet) : t.rep.Quiet :=
  ReportUnit.Quiet.of_grown (h.reports q) q

/-- A flag that is set stays set under a command that leaves the report side grown. -/
theorem State.Leaves.flag {ks : List Block} {s t : State} (h : s.Leaves ks t) (q : s.rep.Quiet) {f : AttentionFlag}
    (e : f.isIn s.rep.flags = true) : f.isIn t.rep.flags = true :=
  (h.reports q).flags f e

end Sys2Proof.Machine
end

