-- ==== Sys2Proof/Laws/Reports.lean ====
section
/-! SUPPORT. What setting a flag and queueing a report can do (R30 to R36), once for each operation. -/

namespace Sys2Proof.Machine

/-! ### Flag words -/

theorem AttentionFlag.index_injective {f g : AttentionFlag} (h : f.index = g.index) : f = g := by
  revert h; cases f <;> cases g <;> decide

theorem AttentionFlag.index_lt (f : AttentionFlag) : f.index < 14 := by cases f <;> decide

/-- A flag is in a word with one more set if it was in it or is the one set. -/
theorem AttentionFlag.isIn_setIn (f g : AttentionFlag) (w : BitVec 14) :
    f.isIn (g.setIn w) = (f.isIn w || decide (f = g)) := by
  have e : decide (f = g) = decide (f.index = g.index) := by cases f <;> cases g <;> rfl
  simp [AttentionFlag.isIn, AttentionFlag.setIn, e, AttentionFlag.index_lt f]

@[simp] theorem AttentionFlag.isIn_setIn_same (f : AttentionFlag) (w : BitVec 14) : f.isIn (f.setIn w) = true := by
  simp [AttentionFlag.isIn_setIn]

theorem AttentionFlag.isIn_setIn_of_isIn {f g : AttentionFlag} {w : BitVec 14} (h : f.isIn w = true) :
    f.isIn (g.setIn w) = true := by
  simp [AttentionFlag.isIn_setIn, h]

/-! ### Grants -/

/-- While no grant can be made, none is made (R36). -/
theorem ReportUnit.tryGrant_of_quiet (v : StatusView) {r : ReportUnit} (q : r.Quiet) : r.tryGrant v = r := by
  unfold ReportUnit.tryGrant
  split
  · next h => simp [q h.1] at h
  · rfl

/-- What a grant can do: nothing, or the head of the one side that waits is sent, or, where both wait, the head of the side
that did not win the last contested grant (R36). -/
theorem ReportUnit.tryGrant_cases (v : StatusView) (r : ReportUnit) :
    r.tryGrant v = r ∨
    (∃ h t, r.queue = h :: t ∧ r.chain = [] ∧ r.tryGrant v = r.grantReport v h t) ∨
    (∃ p ps, r.queue = [] ∧ r.chain = p :: ps ∧ r.tryGrant v = r.grantChain p ps) ∨
    ∃ h t p ps, r.queue = h :: t ∧ r.chain = p :: ps ∧
      ((r.lastWinner = .localSide ∧ r.tryGrant v = { r.grantChain p ps with lastWinner := .chainSide }) ∨
       (r.lastWinner = .chainSide ∧ r.tryGrant v = { r.grantReport v h t with lastWinner := .localSide })) := by
  unfold ReportUnit.tryGrant
  split
  · split
    · exact .inl rfl
    · next h t hq hc => exact .inr (.inl ⟨h, t, hq, hc, rfl⟩)
    · next p ps hq hc => exact .inr (.inr (.inl ⟨p, ps, hq, hc, rfl⟩))
    · next h t p ps hq hc =>
      refine .inr (.inr (.inr ⟨h, t, p, ps, hq, hc, ?_⟩))
      cases r.lastWinner
      · exact .inl ⟨rfl, rfl⟩
      · exact .inr ⟨rfl, rfl⟩
  · exact .inl rfl

@[simp] theorem ReportUnit.tryGrant_mask (v : StatusView) (r : ReportUnit) : (r.tryGrant v).mask = r.mask := by
  rcases r.tryGrant_cases v with h | ⟨_, _, _, _, h⟩ | ⟨_, _, _, _, h⟩ | ⟨_, _, _, _, _, _, ⟨_, h⟩ | ⟨_, h⟩⟩ <;>
    simp [h, ReportUnit.grantReport, ReportUnit.grantChain]

@[simp] theorem ReportUnit.tryGrant_ready (v : StatusView) (r : ReportUnit) :
    (r.tryGrant v).upstreamReady = r.upstreamReady := by
  rcases r.tryGrant_cases v with h | ⟨_, _, _, _, h⟩ | ⟨_, _, _, _, h⟩ | ⟨_, _, _, _, _, _, ⟨_, h⟩ | ⟨_, h⟩⟩ <;>
    simp [h, ReportUnit.grantReport, ReportUnit.grantChain]

/-! ### Queueing and flags -/

/-- A STATUS report is queued: nothing where one waits; at the tail with room; owed, with REPORT_FULL, at a full queue
(R32). -/
theorem ReportUnit.queueStatus_of_quiet (v : StatusView) {r : ReportUnit} (q : r.Quiet) :
    r.queueStatus v =
      if Report.status ∈ r.queue then r
      else if r.queue.length < 16 then { r with queue := r.queue ++ [Report.status], owed := false }
      else { r with flags := AttentionFlag.reportFull.setIn r.flags, owed := true } := by
  simp only [ReportUnit.queueStatus, ReportUnit.statusWaits, List.contains_iff_mem, Config.reportSize]
  split
  · rfl
  · split
    · exact ReportUnit.tryGrant_of_quiet v (r := { r with queue := r.queue ++ [Report.status], owed := false }) q
    · rfl

theorem ReportUnit.queueStatus_grown (v : StatusView) {r : ReportUnit} (q : r.Quiet) :
    r.GrownFrom (r.queueStatus v) := by
  rw [ReportUnit.queueStatus_of_quiet v q]
  split
  · exact .refl r
  · split
    · exact ⟨rfl, rfl, rfl, rfl, rfl, fun _ h => h, List.prefix_append _ _⟩
    · exact ⟨rfl, rfl, rfl, rfl, rfl, fun _ h => AttentionFlag.isIn_setIn_of_isIn h, List.prefix_rfl⟩

/-- A flag is set and a STATUS report may be queued; no more (R30, R32). -/
theorem ReportUnit.setFlag_grown (v : StatusView) (f : AttentionFlag) {r : ReportUnit} (q : r.Quiet) :
    r.GrownFrom (r.setFlag v f) := by
  unfold ReportUnit.setFlag
  have base : r.GrownFrom { r with flags := f.setIn r.flags } :=
    ⟨rfl, rfl, rfl, rfl, rfl, fun _ h => AttentionFlag.isIn_setIn_of_isIn h, List.prefix_rfl⟩
  split
  · exact .refl r
  · dsimp only
    split
    · exact base.trans (ReportUnit.queueStatus_grown v q)
    · exact base

theorem ReportUnit.setFlag_isIn (v : StatusView) (f : AttentionFlag) {r : ReportUnit} (q : r.Quiet) :
    f.isIn (r.setFlag v f).flags = true := by
  unfold ReportUnit.setFlag
  split
  · assumption
  · dsimp only
    split
    · exact (ReportUnit.queueStatus_grown v (r := { r with flags := f.setIn r.flags }) q).flags f (by simp)
    · simp

/-- A report other than STATUS joins the tail with room, or is lost with REPORT_FULL set (R34). -/
theorem ReportUnit.queueReport_grown (v : StatusView) (x : Report) {r : ReportUnit} (q : r.Quiet) :
    r.GrownFrom (r.queueReport v x) := by
  unfold ReportUnit.queueReport
  split
  · rw [ReportUnit.tryGrant_of_quiet v (r := { r with queue := r.queue ++ [x] }) q]
    exact ⟨rfl, rfl, rfl, rfl, rfl, fun _ h => h, List.prefix_append _ _⟩
  · exact ReportUnit.setFlag_grown v _ q

theorem ReportUnit.queueReport_of_room (v : StatusView) (x : Report) {r : ReportUnit} (q : r.Quiet)
    (room : r.queue.length < 16) : r.queueReport v x = { r with queue := r.queue ++ [x] } := by
  simp only [ReportUnit.queueReport, Config.reportSize, room, if_true]
  exact ReportUnit.tryGrant_of_quiet v (r := { r with queue := r.queue ++ [x] }) q

/-! ### On the state -/

theorem State.setFlag_leaves (f : AttentionFlag) (s : State) : s.Leaves [.rep] (State.setFlag f s) :=
  ⟨by constructor <;> simp, by simp [Formatter.MarkedFrom.refl], fun q => by
    simpa using ReportUnit.setFlag_grown s.statusView f q⟩

theorem State.queueStatus_leaves (s : State) : s.Leaves [.rep] s.queueStatus :=
  ⟨by constructor <;> simp, by simp [Formatter.MarkedFrom.refl], fun q => by
    simpa using ReportUnit.queueStatus_grown s.statusView q⟩

theorem State.queueReport_leaves (x : Report) (s : State) : s.Leaves [.rep] (State.queueReport x s) :=
  ⟨by constructor <;> simp, by simp [Formatter.MarkedFrom.refl], fun q => by
    simpa using ReportUnit.queueReport_grown s.statusView x q⟩

/-- A refusal changes the count, the record and the report side, and no more (R19). -/
theorem State.refuse_leaves (kind tag : Byte) (reason : Reason) (s : State) :
    s.Leaves [.dir, .rep] (State.refuse kind tag reason s) := by
  have h : s.Leaves [.dir, .rep] ({ s with dir := { s.dir with
      refusalCount := bump16 s.dir.refusalCount
      lastRefusal := some { kind := kind, tag := tag, reason := reason } } } : State) :=
    .of_same (by constructor <;> simp) rfl rfl
  exact h.trans ((State.setFlag_leaves .refused _).mono (by simp))

/-- The refusal of a directive whose span prefix is consumed (R19, R20). -/
theorem State.refuse_refused (kind tag : Byte) (reason : Reason) (s : State) :
    s.Refused (State.refuse kind tag reason s.consumeSpan) kind tag reason where
  dir := by
    have e : bump16 s.dir.refusalCount = min 65535 (s.dir.refusalCount + 1) := by
      unfold bump16 Config.countMax; split <;> omega
    simp [State.refuse, State.consumeSpan, State.setFlag, e]
  flag q := ReportUnit.setFlag_isIn _ .refused q
  reports q := ReportUnit.setFlag_grown _ .refused q
  blocks := by constructor <;> simp [State.refuse]

end Sys2Proof.Machine
end

