-- ==== Sys2Proof/Laws/Marks.lean ====
section
/-! SUPPORT. What dirty marks and the render starts they cause can do, and the two events that raise them: the listing change
and the notice change (R76, R119, R131 to R137). -/

namespace Sys2Proof.Machine

/-! ### Tiles -/

/-- A tile record replaced by one with the same committed text, pending text, ready flag and binding. -/
theorem Formatter.MarkedFrom.of_write {f : Formatter} {t : TileNo} {x : Tile}
    (h : x.committed = (f.tiles.read t).committed ∧ x.pendingText = (f.tiles.read t).pendingText ∧
      x.ready = (f.tiles.read t).ready ∧ x.binding = (f.tiles.read t).binding) {q : List TileNo} :
    f.MarkedFrom { f with tiles := f.tiles.write t x, queue := q } :=
  ⟨rfl, rfl, fun _ e => e, fun u => by
    dsimp only
    rw [Table.read_write]
    split
    · next e => subst e; exact h
    · exact ⟨rfl, rfl, rfl, rfl⟩⟩

theorem State.setTile_leaves (s : State) (t : TileNo) (x : Tile)
    (h : x.committed = (s.fmt.tiles.read t).committed ∧ x.pendingText = (s.fmt.tiles.read t).pendingText ∧
      x.ready = (s.fmt.tiles.read t).ready ∧ x.binding = (s.fmt.tiles.read t).binding) :
    s.Leaves [.rep, .fmt] (s.setTile t x) :=
  ⟨by constructor <;> simp, .of_write h (q := s.fmt.queue), fun _ => .refl _⟩

theorem State.enqueue_leaves (s : State) (t : TileNo) : s.Leaves [.rep, .fmt] (s.enqueue t) :=
  ⟨by constructor <;> simp,
   .of_write (x := { s.fmt.tiles.read t with state := .queued }) ⟨rfl, rfl, rfl, rfl⟩, fun _ => .refl _⟩

/-- A render starts at an idle engine alone; the tile's text, ready flag and binding stay (R137). -/
theorem State.startRender_leaves (s : State) : s.Leaves [.rep, .fmt] s.startRender := by
  unfold State.startRender
  split
  · next t rest he hq =>
    refine ⟨by constructor <;> simp [State.beginRender], ⟨rfl, rfl, fun r e => ?_, fun u => ?_⟩, fun _ => .refl _⟩
    · rw [he] at e; cases e
    · simp only [State.beginRender]
      rw [Table.read_write]
      split
      · next e => subst e; exact ⟨rfl, rfl, rfl, rfl⟩
      · exact ⟨rfl, rfl, rfl, rfl⟩
  · exact .refl _ s
  · exact .refl _ s

theorem State.tryJoin_leaves (s : State) (t : TileNo) : s.Leaves [.rep, .fmt] (s.tryJoin t) := by
  unfold State.tryJoin
  split
  · exact (s.enqueue_leaves t).trans (State.startRender_leaves _)
  · exact (State.setFlag_leaves _ s).mono (by simp)

theorem State.makeDirty_leaves (s : State) (t : TileNo) : s.Leaves [.rep, .fmt] (s.makeDirty t) :=
  (s.setTile_leaves t { s.fmt.tiles.read t with state := .dirty } ⟨rfl, rfl, rfl, rfl⟩).trans (State.tryJoin_leaves _ t)

/-- A dirty mark can make a clean tile join the queue, and can make a rendering tile stale; no more (R131). -/
theorem State.markTile_leaves (s : State) (t : TileNo) : s.Leaves [.rep, .fmt] (s.markTile t) := by
  unfold State.markTile
  split
  · exact .refl _ s
  · exact s.makeDirty_leaves t
  · exact .refl _ s
  · exact .refl _ s
  · exact s.setTile_leaves t { s.fmt.tiles.read t with stale := true } ⟨rfl, rfl, rfl, rfl⟩

theorem State.markTiles_leaves (s : State) (p : TileNo → Bool) : s.Leaves [.rep, .fmt] (s.markTiles p) :=
  State.Leaves.foldl State.markTile_leaves _ s

theorem State.slotMark_leaves (s : State) (x : Slot) : s.Leaves [.rep, .fmt] (s.slotMark x) := s.markTiles_leaves _

theorem State.seatMark_leaves (s : State) (x : Slot) : s.Leaves [.rep, .fmt] (s.seatMark x) := s.markTiles_leaves _

theorem State.listingMarks_leaves (s : State) : s.Leaves [.rep, .fmt] s.listingMarks := s.markTiles_leaves _

theorem State.minuteMarks_leaves (s : State) (m : Nat) : s.Leaves [.rep, .fmt] (s.minuteMarks m) := s.markTiles_leaves _

theorem State.clockTextChange_leaves (s : State) : s.Leaves [.rep, .fmt] s.clockTextChange := s.markTiles_leaves _

theorem State.markAllInUse_leaves (s : State) : s.Leaves [.rep, .fmt] s.markAllInUse := s.markTiles_leaves _

theorem State.templateMarks_leaves (s : State) (n : Fin 32) : s.Leaves [.rep, .fmt] (s.templateMarks n) :=
  s.markTiles_leaves _

theorem State.noticeTileMarks_leaves (s : State) (ds : DisplaySet) : s.Leaves [.rep, .fmt] (s.noticeTileMarks ds) :=
  s.markTiles_leaves _

theorem State.pageChange_leaves (s : State) (l : LayoutNo) (r : RegionNo) : s.Leaves [.rep, .fmt] (s.pageChange l r) :=
  s.markTiles_leaves _

/-! ### Pages and tickers -/

/-- The compositor with at most its page states changed, and the rest of a `Leaves`. -/
structure State.LeavesPages (s t : State) : Prop where
  leaves : s.Leaves [.rep, .fmt, .comp] t
  comp   : t.comp = { s.comp with pages := t.comp.pages }

/-- The compositor with at most its tickers changed, and the rest of a `Leaves`. -/
structure State.LeavesTickers (s t : State) : Prop where
  leaves : s.Leaves [.rep, .fmt, .comp] t
  comp   : t.comp = { s.comp with tickers := t.comp.tickers }

theorem State.LeavesPages.refl (s : State) : s.LeavesPages s := ⟨.refl _ s, rfl⟩

theorem State.LeavesPages.trans {s t u : State} (h : s.LeavesPages t) (k : t.LeavesPages u) : s.LeavesPages u :=
  ⟨h.leaves.trans k.leaves, by rw [k.comp, h.comp]⟩

theorem State.LeavesPages.of_marks {s t : State} (h : s.Leaves [.rep, .fmt] t) : s.LeavesPages t :=
  ⟨h.mono (by simp), by rw [h.blocks.comp (by simp)]⟩

theorem State.LeavesPages.foldl {α : Type} {f : State → α → State} (h : ∀ (s : State) a, s.LeavesPages (f s a)) :
    ∀ (as : List α) (s : State), s.LeavesPages (as.foldl f s)
  | [], s => .refl s
  | a :: as, s => (h s a).trans (State.LeavesPages.foldl h as (f s a))

theorem State.LeavesTickers.refl (s : State) : s.LeavesTickers s := ⟨.refl _ s, rfl⟩

theorem State.LeavesTickers.trans {s t u : State} (h : s.LeavesTickers t) (k : t.LeavesTickers u) :
    s.LeavesTickers u :=
  ⟨h.leaves.trans k.leaves, by rw [k.comp, h.comp]⟩

theorem State.LeavesTickers.of_marks {s t : State} (h : s.Leaves [.rep, .fmt] t) : s.LeavesTickers t :=
  ⟨h.mono (by simp), by rw [h.blocks.comp (by simp)]⟩

theorem State.LeavesTickers.foldl {α : Type} {f : State → α → State} (h : ∀ (s : State) a, s.LeavesTickers (f s a)) :
    ∀ (as : List α) (s : State), s.LeavesTickers (as.foldl f s)
  | [], s => .refl s
  | a :: as, s => (h s a).trans (State.LeavesTickers.foldl h as (f s a))

theorem State.setPage_leaves (s : State) (l : LayoutNo) (r : RegionNo) (p : PageState) :
    s.LeavesPages (s.setPage l r p) :=
  ⟨.of_same (by constructor <;> simp) rfl rfl, rfl⟩

theorem State.setTicker_leaves (s : State) (d : DisplayNo) (t : Ticker) : s.LeavesTickers (s.setTicker d t) :=
  ⟨.of_same (by constructor <;> simp) rfl rfl, rfl⟩

theorem State.turnPage_leaves (s : State) (l : LayoutNo) (r : RegionNo) : s.LeavesPages (s.turnPage l r) := by
  unfold State.turnPage
  dsimp only
  split
  · exact s.setPage_leaves l r _
  · exact (s.setPage_leaves l r _).trans (.of_marks (State.pageChange_leaves _ l r))

theorem State.tickPage_leaves (s : State) (l : LayoutNo) (r : RegionNo) : s.LeavesPages (s.tickPage l r) := by
  unfold State.tickPage
  split
  · split
    · exact s.turnPage_leaves l r
    · exact s.setPage_leaves l r _
  · exact .refl s

theorem State.recountPage_leaves (s : State) (l : LayoutNo) (r : RegionNo) : s.LeavesPages (s.recountPage l r) := by
  unfold State.recountPage
  dsimp only
  split
  · split
    · exact s.setPage_leaves l r _
    · exact (s.setPage_leaves l r _).trans (.of_marks (State.pageChange_leaves _ l r))
  · exact .refl s

/-- A listing change: page states and marks, no more (R76, R132, R160). -/
theorem State.listingChange_leaves (s : State) : s.LeavesPages s.listingChange :=
  (State.LeavesPages.foldl (fun s _ => s.recountPage_leaves _ _) _ s).trans
    (.of_marks (State.listingMarks_leaves _))

theorem State.stepTicker_leaves (s : State) (d : DisplayNo) : s.LeavesTickers (s.stepTicker d) := by
  unfold State.stepTicker
  dsimp only
  split
  · split
    · exact s.setTicker_leaves d _
    · exact (s.setTicker_leaves d _).trans (.of_marks (State.markTile_leaves _ _))
  · exact .refl s

theorem State.tickTicker_leaves (s : State) (d : DisplayNo) : s.LeavesTickers (s.tickTicker d) := by
  unfold State.tickTicker
  dsimp only
  split
  · split
    · exact s.stepTicker_leaves d
    · exact s.setTicker_leaves d _
  · exact .refl s

theorem State.rejudgeTicker_leaves (s : State) (d : DisplayNo) : s.LeavesTickers (s.rejudgeTicker d) := by
  unfold State.rejudgeTicker
  dsimp only
  split
  · split
    · split
      · exact .refl s
      · exact (s.setTicker_leaves d _).trans (.of_marks (State.markTile_leaves _ _))
    · split
      · exact (s.setTicker_leaves d _).trans (.of_marks (State.markTile_leaves _ _))
      · exact .refl s
  · exact .refl s

/-- A notice change: tickers and marks, no more (R119, R134, R164). -/
theorem State.noticeChange_leaves (s : State) (ds : DisplaySet) : s.LeavesTickers (s.noticeChange ds) :=
  (State.LeavesTickers.of_marks (s.noticeTileMarks_leaves ds)).trans
    (State.LeavesTickers.foldl State.rejudgeTicker_leaves _ _)

/-- A change of page states and then a change of tickers. -/
theorem Compositor.pages_then_tickers {a b c : Compositor} (h : b = { a with pages := b.pages })
    (k : c = { b with tickers := c.tickers }) : c = { a with pages := c.pages, tickers := c.tickers } := by
  cases a; cases b; cases c; simp_all

theorem State.tickPages_leaves (s : State) : s.LeavesPages (s.forRegions State.tickPage) :=
  State.LeavesPages.foldl (fun s _ => s.tickPage_leaves _ _) _ s

theorem State.tickTickers_leaves (s : State) (ds : DisplaySet) : s.LeavesTickers (s.forDisplays State.tickTicker ds) :=
  State.LeavesTickers.foldl State.tickTicker_leaves _ s

/-- A second tick at the compositor: pages, tickers and marks, no more (R159, R163). -/
theorem State.tickCompositor_leaves (s : State) :
    s.Leaves [.rep, .fmt, .comp] s.tickCompositor ∧
    s.tickCompositor.comp =
      { s.comp with pages := s.tickCompositor.comp.pages, tickers := s.tickCompositor.comp.tickers } := by
  unfold State.tickCompositor
  exact ⟨s.tickPages_leaves.leaves.trans (State.tickTickers_leaves _ _).leaves,
    Compositor.pages_then_tickers s.tickPages_leaves.comp (State.tickTickers_leaves _ _).comp⟩

end Sys2Proof.Machine
end

