-- ==== Sys2Proof/Laws/Notices.lean ====
section
/-! SUPPORT. What placing, removing and ageing notices can do (R107, R111 to R119, R123, R125). -/

namespace Sys2Proof.Machine

/-! ### The queue as lists -/

/-- In a queue ordered by class, a notice joins after the classes at or above its own (R107). -/
theorem joinClass_of_sorted {q : List Notice} (n : Notice) (h : q.Pairwise fun a b => a.cls.code ≤ b.cls.code) :
    joinClass q n =
      (q.filter fun m => m.cls.code ≤ n.cls.code) ++ [n] ++ q.filter fun m => n.cls.code < m.cls.code := by
  have split : ∀ q : List Notice, q.Pairwise (fun a b => a.cls.code ≤ b.cls.code) →
      q.takeWhile (fun m => decide (m.cls.code ≤ n.cls.code)) = q.filter (fun m => m.cls.code ≤ n.cls.code) ∧
      q.dropWhile (fun m => decide (m.cls.code ≤ n.cls.code)) = q.filter (fun m => n.cls.code < m.cls.code) := by
    intro q
    induction q with
    | nil => intro _; exact ⟨rfl, rfl⟩
    | cons a as ih =>
      intro hp
      have ⟨ha, has⟩ := List.pairwise_cons.mp hp
      have ⟨i1, i2⟩ := ih has
      by_cases c : a.cls.code ≤ n.cls.code
      · simp [c, i1, i2, Nat.not_lt.mpr c]
      · have far : ∀ b ∈ as, n.cls.code < b.cls.code := fun b hb => Nat.lt_of_lt_of_le (Nat.lt_of_not_le c) (ha b hb)
        have e1 : (as.filter fun m => m.cls.code ≤ n.cls.code) = [] :=
          List.filter_eq_nil_iff.mpr fun b hb => by simp [far b hb]
        have e2 : (as.filter fun m => n.cls.code < m.cls.code) = as :=
          List.filter_eq_self.mpr fun b hb => by simp [far b hb]
        simp [c, e1, e2, Nat.lt_of_not_le c]
  have ⟨e1, e2⟩ := split q h
  simp [joinClass, e1, e2]

/-- A notice is live in a queue exactly when one of the queue has its id. -/
theorem liveNotice_isSome (q : List Notice) (id : Byte) : (liveNotice q id).isSome = true ↔ ∃ n ∈ q, n.id = id := by
  simp [liveNotice, List.find?_isSome]

/-! ### Removal -/

/-- The removal of notices changes the queue and raises a notice change; the post buffer, the wake requests and the chime
lines stay (R116 to R119). -/
theorem State.removeNotices_spec (s : State) (p : Notice → Bool) :
    s.Leaves [.rep, .notice, .fmt, .comp] (s.removeNotices p) ∧
    (s.removeNotices p).notice = { s.notice with queue := s.notice.queue.filter fun n => !p n } ∧
    (s.removeNotices p).comp = { s.comp with tickers := (s.removeNotices p).comp.tickers } := by
  unfold State.removeNotices
  dsimp only
  split
  · next h =>
    have e : (s.notice.queue.filter fun n => !p n) = s.notice.queue := by
      rw [List.isEmpty_iff, List.filter_eq_nil_iff] at h
      exact List.filter_eq_self.mpr fun n hn => by simpa using h n hn
    exact ⟨.refl _ s, by rw [e], rfl⟩
  · have a : s.Leaves [.rep, .notice, .fmt, .comp] (s.setNotices (s.notice.queue.filter fun n => !p n)) :=
      .of_same (by constructor <;> simp) rfl rfl
    have b := State.noticeChange_leaves (s.setNotices (s.notice.queue.filter fun n => !p n))
      (targetsOf (s.notice.queue.filter p))
    exact ⟨a.trans (b.leaves.mono (by simp)), b.leaves.blocks.notice (by simp), b.comp⟩

theorem State.removeNotices_leaves (s : State) (p : Notice → Bool) :
    s.Leaves [.rep, .notice, .fmt, .comp] (s.removeNotices p) := (s.removeNotices_spec p).1

/-- A second tick at the notice unit (R117). -/
theorem State.ageNotices_spec (s : State) :
    s.Leaves [.rep, .notice, .fmt, .comp] s.ageNotices ∧
    s.ageNotices.notice = { s.notice with
      queue := (s.notice.queue.filter fun n => !n.expires).map Notice.aged } ∧
    s.ageNotices.comp = { s.comp with tickers := s.ageNotices.comp.tickers } := by
  unfold State.ageNotices
  dsimp only
  have a : s.Leaves [.rep, .notice, .fmt, .comp]
      (s.setNotices ((s.notice.queue.filter fun n => !n.expires).map Notice.aged)) :=
    .of_same (by constructor <;> simp) rfl rfl
  split
  · exact ⟨a, rfl, rfl⟩
  · have b := State.noticeChange_leaves (s.setNotices ((s.notice.queue.filter fun n => !n.expires).map Notice.aged))
      (targetsOf (s.notice.queue.filter Notice.expires))
    exact ⟨a.trans (b.leaves.mono (by simp)), b.leaves.blocks.notice (by simp), b.comp⟩

/-! ### Placement -/

theorem State.chimeFor_leaves (s : State) (n : Notice) :
    SameBut [.notice] s (s.chimeFor n) ∧ (s.chimeFor n).notice.queue = s.notice.queue ∧
    (s.chimeFor n).notice.post = s.notice.post ∧ (s.chimeFor n).notice.wake = s.notice.wake := by
  unfold State.chimeFor
  split
  · split
    · exact ⟨by constructor <;> simp, rfl, rfl, rfl⟩
    · exact ⟨SameBut.refl _ s, rfl, rfl, rfl⟩
  · exact ⟨SameBut.refl _ s, rfl, rfl, rfl⟩

/-- The effects of a placement leave the queue and the post buffer; the wake requests only grow (R114). -/
theorem State.placed_spec (s : State) (n : Notice) (ds : DisplaySet) :
    s.Leaves [.rep, .notice, .fmt, .comp] (s.placed n ds) ∧
    (s.placed n ds).notice.queue = s.notice.queue ∧ (s.placed n ds).notice.post = s.notice.post ∧
    (s.placed n ds).notice.wake = s.notice.wake ||| s.wakesOf n ∧
    (s.placed n ds).notice.chimes = (s.chimeFor n).notice.chimes ∧
    (s.placed n ds).comp = { s.comp with tickers := (s.placed n ds).comp.tickers } := by
  have ⟨c1, c2, c3, c4⟩ := s.chimeFor_leaves n
  have a : s.Leaves [.rep, .notice, .fmt, .comp] ((s.chimeFor n).wakeFor n) := by
    refine .of_same ?_ ?_ ?_
    · exact (c1.mono (by simp)).trans (by constructor <;> simp)
    · simpa using c1.fmt (by simp)
    · simpa using c1.rep (by simp)
  have b := State.noticeChange_leaves ((s.chimeFor n).wakeFor n) ds
  have bn : (s.placed n ds).notice = ((s.chimeFor n).wakeFor n).notice := b.leaves.blocks.notice (by simp)
  have ec : (s.chimeFor n).comp = s.comp := c1.comp (by simp)
  have ew : (s.chimeFor n).wakesOf n = s.wakesOf n := by simp [State.wakesOf, ec]
  refine ⟨a.trans (b.leaves.mono (by simp)), ?_, ?_, ?_, ?_, ?_⟩
  · rw [bn]; simpa using c2
  · rw [bn]; simpa using c3
  · rw [bn]; simp [c4, ew]
  · rw [bn]; simp
  · have k := b.comp
    simp only [State.wakeFor_comp, ec] at k
    exact k

theorem State.evictTail_spec (s : State) (tail : Notice) :
    s.Leaves [.rep, .notice, .fmt, .comp] (s.evictTail tail) ∧
    (s.evictTail tail).notice = { s.notice with queue := s.notice.queue.dropLast } ∧
    (s.evictTail tail).comp = s.comp := by
  have a : s.Leaves [.rep, .notice, .fmt, .comp] (s.setNotices s.notice.queue.dropLast) :=
    .of_same (by constructor <;> simp) rfl rfl
  refine ⟨(a.trans ((State.queueReport_leaves _ _).mono (by simp))).trans ((State.setFlag_leaves _ _).mono (by simp)), ?_, ?_⟩
  · simp [State.evictTail, State.setNotices]
  · simp [State.evictTail]

/-- What a placement can do, in its three ways; where it fails, placeNotice answers none (R111 to R114). -/
theorem State.placeNotice_spec {s t : State} {n : Notice} (h : s.placeNotice n = some t) :
    s.Leaves [.rep, .notice, .fmt, .comp] t ∧ t.notice.post = s.notice.post ∧
    t.notice.wake = s.notice.wake ||| s.wakesOf n ∧
    ((∃ old, placementOf s.notice.queue n = .replace old ∧ t.notice.queue = replaceNotice s.notice.queue old n) ∨
     (placementOf s.notice.queue n = .join ∧ t.notice.queue = joinClass s.notice.queue n) ∨
     ∃ tail, placementOf s.notice.queue n = .evict tail ∧ t.notice.queue = joinClass s.notice.queue.dropLast n) := by
  unfold State.placeNotice at h
  have put : ∀ (u : State) (q : List Notice), u.Leaves [.rep, .notice, .fmt, .comp] (u.setNotices q) := fun u q =>
    .of_same (by constructor <;> simp) rfl rfl
  split at h
  · next old e =>
    cases h
    have ⟨p1, p2, p3, p4, _, _⟩ := State.placed_spec (s.setNotices (replaceNotice s.notice.queue old n)) n
      (old.target ||| n.target)
    exact ⟨(put s _).trans p1, p3, p4, .inl ⟨old, e, p2⟩⟩
  · next e =>
    cases h
    have ⟨p1, p2, p3, p4, _, _⟩ := State.placed_spec (s.setNotices (joinClass s.notice.queue n)) n n.target
    exact ⟨(put s _).trans p1, p3, p4, .inr (.inl ⟨e, p2⟩)⟩
  · next tail e =>
    cases h
    have ⟨v1, v2, v3⟩ := s.evictTail_spec tail
    have ⟨p1, p2, p3, p4, _, _⟩ := State.placed_spec
      ((s.evictTail tail).setNotices (joinClass (s.evictTail tail).notice.queue n)) n (tail.target ||| n.target)
    refine ⟨(v1.trans (put _ _)).trans p1, ?_, ?_, .inr (.inr ⟨tail, e, ?_⟩)⟩
    · rw [p3]; simp [v2]
    · rw [p4]; simp [v2, v3, State.wakesOf]
    · rw [p2]; simp [v2]
  · cases h

/-- A boarding request is placed, or registered as a refusal (R115). -/
theorem State.requestBoarding_leaves (s : State) (x : Slot) :
    s.Leaves [.dir, .rep, .notice, .fmt, .comp] (s.requestBoarding x) := by
  unfold State.requestBoarding
  split
  · next h => exact (State.placeNotice_spec h).1.mono (by simp)
  · exact (State.refuse_leaves _ _ _ s).mono (by simp)

end Sys2Proof.Machine
end

