-- ==== Sys2Proof/Laws/Board.lean ====
section
/-! SUPPORT. What the stages of a SALE, an evaluation, a clear and a minute boundary can do (R55, R56, R62, R68 to R70, R86 to
R102), and what the ticks of the lobby clock can do (R43 to R45). -/

namespace Sys2Proof.Machine

/-! ### The tally unit -/

theorem State.setTally_leaves (s : State) (x : Slot) (t : Tally) : s.Leaves [.rep, .tally, .fmt] (s.setTally x t) :=
  .of_same (by constructor <;> simp) rfl rfl

theorem State.clipLimitIf_leaves (s : State) (b : Bool) : s.Leaves [.rep, .tally, .fmt] (s.clipLimitIf b) := by
  unfold State.clipLimitIf
  split
  · exact (State.setFlag_leaves _ s).mono (by simp)
  · exact .refl _ s

@[simp] theorem State.clipLimitIf_tally (s : State) (b : Bool) : (s.clipLimitIf b).tally = s.tally := by
  unfold State.clipLimitIf; split <;> simp

theorem State.netStage_leaves (s : State) (x : Slot) (d : Int) : s.Leaves [.rep, .tally, .fmt] (s.netStage x d) :=
  (s.setTally_leaves x _).trans (State.clipLimitIf_leaves _ _)

theorem State.seatStages_leaves (s : State) (x : Slot) (c : Nat) (w : Int) :
    s.Leaves [.rep, .tally, .fmt] (s.seatStages x c w) :=
  (s.setTally_leaves x _).trans (State.clipLimitIf_leaves _ _)

theorem State.bandStage_leaves (s : State) (x : Slot) (c : Nat) : s.Leaves [.rep, .tally, .fmt] (s.bandStage x c) :=
  s.setTally_leaves x _

theorem State.departureStage_leaves (s : State) (x : Slot) : s.Leaves [.rep, .tally, .fmt] (s.departureStage x) := by
  unfold State.departureStage
  dsimp only
  split
  · exact s.setTally_leaves x _
  · split
    · exact .refl _ s
    · exact ((s.setTally_leaves x _).trans ((State.queueReport_leaves _ _).mono (by simp))).trans
        ((State.setFlag_leaves _ _).mono (by simp))

/-- The departure stage writes departed, so that it is set exactly while the bands differ, and nothing else of the tallies
(R91). -/
theorem State.departureStage_tally (s : State) (x : Slot) :
    (s.departureStage x).tally = (s.setTally x { s.tallyOf x with
      departed := decide ((s.tallyOf x).band ≠ (s.tallyOf x).acked) }).tally := by
  unfold State.departureStage
  dsimp only
  split
  · next h => simp [h]
  · next h =>
    split
    · next d =>
      have e : ({ s.tallyOf x with departed := true } : Tally) = s.tallyOf x := by
        generalize s.tallyOf x = t at d ⊢
        cases t
        simp_all
      have w : s.tally.tallies.write x (s.tallyOf x) = s.tally.tallies := Table.ext_read fun y => by
        rw [Table.read_write]
        split
        · next e => rw [e]; rfl
        · rfl
      simp [State.setTally, h, e, w]
    · simp [State.setTally, h]

theorem State.seatMarkIfMoved_leaves (s : State) (x : Slot) (b : Tally) :
    s.Leaves [.rep, .tally, .fmt] (s.seatMarkIfMoved x b) := by
  unfold State.seatMarkIfMoved
  split
  · exact .refl _ s
  · exact (s.seatMark_leaves x).mono (by simp)

theorem State.saleFinish_leaves (s : State) (k : Fin 16) (x : Slot) (o : SaleOutcome) :
    s.Leaves [.rep, .tally, .fmt] (s.saleFinish k x o) :=
  .of_same (by constructor <;> simp [State.saleFinish]) rfl rfl

/-- Stages 4 to 10 of a SALE reach the tally unit, the report side and marks, no more (R86 to R93). -/
theorem State.saleApply_leaves (s : State) (k : Fin 16) (x : Slot) (d : Int) :
    s.Leaves [.rep, .tally, .fmt] (s.saleApply k x d) :=
  (((((s.netStage_leaves x d).trans (State.seatStages_leaves _ _ _ _)).trans (State.bandStage_leaves _ _ _)).trans
    (State.departureStage_leaves _ _)).trans (State.saleFinish_leaves _ _ _ _)).trans
    (State.seatMarkIfMoved_leaves _ _ _)

theorem State.changeCapacity_leaves (s : State) (x : Slot) (o n : Nat) :
    s.Leaves [.rep, .tally, .fmt] (s.changeCapacity x o n) :=
  (((s.seatStages_leaves x n _).trans (State.bandStage_leaves _ _ _)).trans (State.departureStage_leaves _ _)).trans
    (State.seatMarkIfMoved_leaves _ _ _)

theorem State.recomputeBand_leaves (s : State) (x : Slot) : s.Leaves [.rep, .tally, .fmt] (s.recomputeBand x) := by
  unfold State.recomputeBand
  split
  · exact ((s.bandStage_leaves x _).trans (State.departureStage_leaves _ _)).trans (State.seatMarkIfMoved_leaves _ _ _)
  · exact .refl _ s

theorem State.recomputeBands_leaves (s : State) : s.Leaves [.rep, .tally, .fmt] s.recomputeBands :=
  State.Leaves.foldl State.recomputeBand_leaves _ s

/-! ### The show board -/

/-- The blocks that an evaluation, a SHOW write or a minute boundary can reach beside the tally unit. -/
abbrev boardBlocks : List Block := [.dir, .rep, .board, .notice, .fmt, .comp]

theorem State.setShow_leaves (s : State) (x : Slot) (w : Show) : s.Leaves boardBlocks (s.setShow x w) :=
  .of_same (by constructor <;> simp) rfl rfl

theorem State.setOrder_leaves (s : State) (o : List Slot) : s.Leaves boardBlocks (s.setOrder o) :=
  .of_same (by constructor <;> simp) rfl rfl

/-- The effects of a change of state reach the notices, the listing order, the pages and marks; the show records stay
(R68). -/
theorem State.stateEffects_spec (s : State) (x : Slot) (o n : ShowState) :
    s.Leaves boardBlocks (s.stateEffects x o n) ∧ (s.stateEffects x o n).board.shows = s.board.shows := by
  unfold State.stateEffects
  dsimp only
  have unplaced : ∀ (p : Prop) [Decidable p],
      s.Leaves boardBlocks (if p then s.unplaceSlot x else s) ∧
      (if p then s.unplaceSlot x else s).board.shows = s.board.shows := fun p _ => by
    split
    · exact ⟨s.setOrder_leaves _, rfl⟩
    · exact ⟨.refl _ s, rfl⟩
  have requested : ∀ (s : State) (p : Prop) [Decidable p],
      s.Leaves [.dir, .rep, .notice, .fmt, .comp] (if p then s.requestBoarding x else s) := fun s p _ => by
    split
    · exact s.requestBoarding_leaves x
    · exact .refl _ s
  have a1 := unplaced (n = .retired)
  have a2 := State.removeNotices_leaves (if n = .retired then s.unplaceSlot x else s)
    (Notice.leavesWith x (decide (o = .boarding)) (decide (n = .retired)))
  have a3 := requested (State.removeNotices (if n = .retired then s.unplaceSlot x else s)
    (Notice.leavesWith x (decide (o = .boarding)) (decide (n = .retired)))) (n = .boarding ∧ (s.showOf x).announce = true)
  have a4 := (a2.mono (by simp)).trans a3
  have a5 := a4.trans ((State.listingChange_leaves _).leaves.mono (by simp))
  have a6 := a5.trans ((State.slotMark_leaves _ x).mono (by simp))
  exact ⟨a1.1.trans (a6.mono (by simp)), (congrArg _ (a6.blocks.board (by simp))).trans a1.2⟩

theorem State.closeSales_leaves (s : State) (x : Slot) : s.Leaves boardBlocks (s.closeSales x) :=
  (s.setShow_leaves x _).trans ((State.seatMark_leaves _ x).mono (by simp))

theorem State.advanceShow_spec (s : State) (x : Slot) (m : Nat) :
    s.Leaves boardBlocks (s.advanceShow x m) ∧
    (s.advanceShow x m).board.shows =
      s.board.shows.write x { s.showOf x with state := (s.showOf x).stateAt m } := by
  have same : s.board.shows.write x (s.showOf x) = s.board.shows := Table.ext_read fun y => by
    rw [Table.read_write]
    split
    · next e => rw [e]; rfl
    · rfl
  unfold State.advanceShow
  dsimp only
  split
  · have ⟨a, b⟩ := State.stateEffects_spec (s.setShow x { s.showOf x with state := (s.showOf x).stateAt m }) x
      (s.showOf x).state ((s.showOf x).stateAt m)
    exact ⟨(s.setShow_leaves x _).trans a, by rw [b]; simp⟩
  · next h =>
    have e : ({ s.showOf x with state := (s.showOf x).stateAt m } : Show) = s.showOf x := by
      rw [Decidable.not_not.mp h]
    rw [e, same]
    exact ⟨.refl _ s, rfl⟩

/-- An evaluation of one slot: its record takes the furthest state whose condition holds and its sales close at their
minute; every other record stays (R68, R70). -/
theorem State.evaluateSlot_spec (s : State) (x : Slot) (m : Nat) :
    s.Leaves boardBlocks (s.evaluateSlot x m) ∧
    (s.evaluateSlot x m).board.shows = s.board.shows.write x { s.showOf x with
      state := (s.showOf x).stateAt m
      salesClosed := (s.showOf x).salesClosed || decide ((s.showOf x).closeMinute ≤ m) } := by
  unfold State.evaluateSlot
  dsimp only
  have ⟨a, b⟩ := s.advanceShow_spec x m
  have r : (s.advanceShow x m).showOf x = { s.showOf x with state := (s.showOf x).stateAt m } := by
    simp [State.showOf, b]
  have twice : ∀ u v : Show, (s.board.shows.write x u).write x v = s.board.shows.write x v := fun u v =>
    Table.ext_read fun y => by simp only [Table.read_write]; split <;> rfl
  split
  · next h =>
    refine ⟨a.trans (State.closeSales_leaves _ x), ?_⟩
    have k := State.seatMark_leaves ((s.advanceShow x m).setShow x
      { (s.advanceShow x m).showOf x with salesClosed := true }) x
    rw [State.closeSales, k.blocks.board (by simp)]
    simp [b, r, twice, h.1, h.2]
  · next h =>
    refine ⟨a, ?_⟩
    rw [b]
    congr 1
    have e : ((s.showOf x).salesClosed || decide ((s.showOf x).closeMinute ≤ m)) = (s.showOf x).salesClosed := by
      cases c : (s.showOf x).salesClosed <;> simp_all
    rw [e]

theorem State.evaluateTurn_leaves (m : Nat) (s : State) (x : Slot) : s.Leaves boardBlocks (s.evaluateTurn m x) := by
  unfold State.evaluateTurn
  split
  · exact (s.evaluateSlot_spec x m).1
  · exact .refl _ s

theorem State.recomputeDue_leaves (s : State) : s.Leaves boardBlocks s.recomputeDue :=
  .of_same (by constructor <;> simp) rfl rfl

theorem State.evaluateAll_leaves (s : State) (m : Nat) : s.Leaves boardBlocks (s.evaluateAll m) :=
  (State.Leaves.foldl (State.evaluateTurn_leaves m) _ s).trans (State.recomputeDue_leaves _)

theorem State.boardMinute_leaves (s : State) (m : Nat) (e : Bool) : s.Leaves boardBlocks (s.boardMinute m e) := by
  unfold State.boardMinute
  split
  · split
    · exact s.evaluateAll_leaves m
    · exact .refl _ s
  · exact .refl _ s

/-- A minute boundary reaches the board, the notices, the pages and marks; the clock and the tallies stay (R42, R56). -/
theorem State.minuteBoundary_leaves (s : State) (m : Nat) : s.Leaves boardBlocks (s.minuteBoundary m) :=
  (s.boardMinute_leaves m _).trans ((State.minuteMarks_leaves _ m).mono (by simp))

theorem State.clearSlot_leaves (s : State) (x : Slot) :
    s.Leaves (.tally :: boardBlocks) (s.clearSlot x) := by
  unfold State.clearSlot
  split
  · unfold State.clearOccupied
    dsimp only
    have h2 : s.Leaves (.tally :: boardBlocks) (s.removeNotices
        (Notice.leavesWith x (decide ((s.showOf x).state = .boarding)) true)) :=
      (s.removeNotices_leaves _).mono (by simp)
    have h3 : ∀ u : State, u.Leaves (.tally :: boardBlocks)
        (if u.board.order.contains x then (u.unplaceSlot x).listingChange else u) := fun u => by
      split
      · exact ((u.setOrder_leaves _).mono (by simp)).trans ((State.listingChange_leaves _).leaves.mono (by simp))
      · exact .refl _ u
    have h4 := h2.trans (h3 _)
    have h5 := h4.trans ((State.setTally_leaves _ x Tally.zeroed).mono (by simp))
    have h6 := h5.trans ((State.setShow_leaves _ x Show.vacant).mono (by simp))
    exact h6.trans ((State.slotMark_leaves _ x).mono (by simp))
  · exact .refl _ s

/-- The evaluation at a write and the listing change that the write raises at its own step (R63 to R65, R69, R76). -/
theorem State.evaluateAtWrite_leaves (s : State) (x : Slot) : s.Leaves boardBlocks (s.evaluateAtWrite x) := by
  unfold State.evaluateAtWrite
  split
  · exact (s.evaluateSlot_spec x _).1
  · exact .refl _ s

theorem State.writeListing_leaves (s : State) (x : Slot) (c : Bool) : s.Leaves [.rep, .fmt, .comp] (s.writeListing x c) := by
  unfold State.writeListing
  split
  · exact s.listingChange_leaves.leaves
  · exact .refl _ s

/-! ### The lobby clock -/

theorem State.setClock_leaves (s : State) (c : Clock) : s.Leaves (.clock :: boardBlocks) (s.setClock c) :=
  .of_same (by constructor <;> simp) rfl rfl

/-- The clock enters LOST, with its flag and the clock text change (R44, R45). -/
theorem State.loseClock_spec (s : State) :
    s.Leaves (.clock :: boardBlocks) s.loseClock ∧ s.loseClock.clock = { s.clock with state := .lost } := by
  have a := s.setClock_leaves { s.clock with state := .lost }
  have b := State.setFlag_leaves .clockLost (s.setClock { s.clock with state := .lost })
  have c := State.clockTextChange_leaves (State.setFlag .clockLost (s.setClock { s.clock with state := .lost }))
  refine ⟨(a.trans (b.mono (by simp))).trans (c.mono (by simp)), ?_⟩
  rw [State.loseClock, c.blocks.clock (by simp)]
  simp

theorem State.holdoverStep_spec (s : State) :
    s.Leaves (.clock :: boardBlocks) s.holdoverStep ∧
    s.holdoverStep.clock =
      if s.clock.state = .running ∧ 10 ≤ s.clock.sinceMark then { s.clock with state := .holdover } else s.clock := by
  unfold State.holdoverStep
  split
  · exact ⟨(s.setClock_leaves _).trans ((State.setFlag_leaves _ _).mono (by simp)), by simp⟩
  · exact ⟨.refl _ s, rfl⟩

theorem State.lostStep_spec (s : State) :
    s.Leaves (.clock :: boardBlocks) s.lostStep ∧
    s.lostStep.clock =
      if s.clock.state = .holdover ∧ 60 ≤ s.clock.sinceMark then { s.clock with state := .lost } else s.clock := by
  unfold State.lostStep
  split
  · exact s.loseClock_spec
  · exact ⟨.refl _ s, rfl⟩

/-- The business minute advances by counting: the blocks it can reach (R43, R44). -/
theorem State.advanceMinute_leaves (s : State) : s.Leaves (.clock :: boardBlocks) s.advanceMinute :=
  ((((s.setClock_leaves _).trans ((State.minuteBoundary_leaves _ _).mono (by simp))).trans
    (State.setClock_leaves _ _)).trans (State.holdoverStep_spec _).1).trans (State.lostStep_spec _).1

/-- A second tick at the lobby clock: the blocks it can reach (R43). -/
theorem State.tickClock_leaves (s : State) : s.Leaves (.clock :: boardBlocks) s.tickClock := by
  unfold State.tickClock
  split
  · split
    · exact s.loseClock_spec.1
    · split
      · exact s.advanceMinute_leaves
      · exact s.setClock_leaves _
  · exact .refl _ s

end Sys2Proof.Machine
end

