-- ==== Sys2Proof/Laws/MarkedTiles.lean ====
section
/-! SUPPORT. What the dirty marks of one event do, as a whole (R131, R135, R137). -/

namespace Sys2Proof.Machine

/-- What a render of a tile finds does not depend on the report side, nor on any tile but its own binding (R137). -/
theorem State.renderRow_congr {s t : State} (h : SameBut [.rep, .fmt] s t) (ht : t.fmt.templates = s.fmt.templates)
    {u : TileNo} (hb : (t.fmt.tiles.read u).binding = (s.fmt.tiles.read u).binding) : t.renderRow u = s.renderRow u := by
  have hc := h.comp (by simp)
  have hn := h.notice (by simp)
  have hbd := h.board (by simp)
  have hs := h.settings (by simp)
  have hk := h.clock (by simp)
  have hl := h.tally (by simp)
  simp only [State.renderRow, State.noticeRow, State.layoutRow, State.slotRow?, State.slotRow, State.wideNoticeRow,
    State.tickerRow, State.tickerNotice, hc, hn, hbd, hs, hk, hl, ht, hb]

/-- The CLEAN tiles of a list. -/
def Formatter.rousedOf (f : Formatter) (L : List TileNo) : List TileNo := L.filter fun u => (f.tiles.read u).state == .clean

/-- The tile of a list whose render starts at its marks. -/
def Formatter.startsOf (f : Formatter) (L : List TileNo) : Option TileNo :=
  match f.engine with
  | none => (f.rousedOf L).head?
  | some _ => none

/-- The tiles that would wait after the marks of a list, had the queue room for all. -/
def Formatter.waitsOf (f : Formatter) (L : List TileNo) : List TileNo :=
  match f.engine with
  | none => (f.rousedOf L).tail
  | some _ => f.queue ++ f.rousedOf L

/-- State.Marks for the marks of a list of tiles. -/
structure State.MarksOf (s t : State) (L : List TileNo) : Prop where
  queue   : t.fmt.queue = (s.fmt.waitsOf L).take 16
  engine  : t.fmt.engine =
    match s.fmt.engine with
    | some r => some r
    | none => (s.fmt.startsOf L).map fun u => { tile := u, text := (s.renderRow u).text }
  tiles   : ∀ u : TileNo, t.fmt.tiles.read u =
    let x := s.fmt.tiles.read u
    if u ∉ L then x
    else if x.state = .rendering then { x with stale := true }
    else if x.state ≠ .clean then x
    else if s.fmt.startsOf L = some u then
      { x with state := .rendering, stale := false, released := false, bound := (s.renderRow u).bound
               minutes := (s.renderRow u).minutes }
    else if u ∈ (s.fmt.waitsOf L).take 16 then { x with state := .queued }
    else { x with state := .dirty }
  backlog : if (s.fmt.waitsOf L).length ≤ 16 then t.rep = s.rep
    else s.rep.Quiet → AttentionFlag.renderBacklog.isIn t.rep.flags = true ∧ s.rep.GrownFrom t.rep
  others  : t.fmt.templates = s.fmt.templates ∧ t.fmt.sweep = s.fmt.sweep
  blocks  : SameBut [.rep, .fmt] s t

/-- No marks. -/
theorem State.MarksOf.nil {s : State} (h : s.fmt.Coherent) : s.MarksOf s [] := by
  have q : s.fmt.waitsOf [] = s.fmt.queue := by
    unfold Formatter.waitsOf Formatter.rousedOf
    split
    · next e => simp [h.busy e]
    · simp
  refine ⟨?_, ?_, fun u => by simp, ?_, ⟨rfl, rfl⟩, .refl _ _⟩
  · rw [q, List.take_of_length_le h.room]
  · split
    · next e => exact e
    · next e => simp [Formatter.startsOf, Formatter.rousedOf, e]
  · rw [q, if_pos h.room]

/-- A tile that is not CLEAN rouses nothing. -/
theorem Formatter.rousedOf_append_other {f : Formatter} {L : List TileNo} {u : TileNo}
    (h : (f.tiles.read u).state ≠ .clean) :
    f.rousedOf (L ++ [u]) = f.rousedOf L := by
  simp [Formatter.rousedOf, h]

/-- A CLEAN tile is roused. -/
theorem Formatter.rousedOf_append_clean {f : Formatter} {L : List TileNo} {u : TileNo}
    (h : (f.tiles.read u).state = .clean) :
    f.rousedOf (L ++ [u]) = f.rousedOf L ++ [u] := by
  simp [Formatter.rousedOf, h]

/-- One mark more, at a tile not marked before. -/
theorem State.MarksOf.append {s t : State} (h : s.fmt.Coherent) {L : List TileNo} {u : TileNo} (hu : u ∉ L)
    (m : s.MarksOf t L) : s.MarksOf (t.markTile u) (L ++ [u]) := by
  have same : t.fmt.tiles.read u = s.fmt.tiles.read u := by rw [m.tiles]; simp [hu]
  have row : t.renderRow u = s.renderRow u := State.renderRow_congr m.blocks m.others.1 (by rw [same])
  unfold State.markTile
  rw [same]
  by_cases hc : (s.fmt.tiles.read u).state = .clean
  · -- it is roused
    have hr := Formatter.rousedOf_append_clean (f := s.fmt) (L := L) hc
    have notRendering : ¬ (s.fmt.tiles.read u).state = .rendering := by rw [hc]; decide
    have ins : ∀ v : TileNo, v ≠ u → ((v ∉ L ++ [u]) ↔ v ∉ L) := fun v e => by simp [e]
    simp only [hc, State.makeDirty]
    by_cases first : s.fmt.engine = none ∧ s.fmt.rousedOf L = []
    · -- its render starts
      obtain ⟨he, hl⟩ := first
      have hs : s.fmt.startsOf L = none := by simp [Formatter.startsOf, he, hl]
      have hw : s.fmt.waitsOf L = [] := by simp [Formatter.waitsOf, he, hl]
      have hs' : s.fmt.startsOf (L ++ [u]) = some u := by simp [Formatter.startsOf, he, hr, hl]
      have hw' : s.fmt.waitsOf (L ++ [u]) = [] := by simp [Formatter.waitsOf, he, hr, hl]
      have tq : t.fmt.queue = [] := by rw [m.queue, hw]; rfl
      have te : t.fmt.engine = none := by rw [m.engine, he, hs]; rfl
      have rep : t.rep = s.rep := by simpa [hw] using m.backlog
      have go : (t.setTile u { t.fmt.tiles.read u with state := .dirty }).tryJoin u =
          ((t.setTile u { t.fmt.tiles.read u with state := .dirty }).enqueue u).beginRender u [] := by
        simp [State.tryJoin, State.setTile, State.enqueue, State.startRender, tq, te, Config.renderSize]
      rw [go, same]
      have row' : ((t.setTile u { s.fmt.tiles.read u with state := .dirty }).enqueue u).renderRow u = s.renderRow u := by
        rw [← row]
        refine State.renderRow_congr ?_ ?_ ?_
        · constructor <;> simp [State.setTile, State.enqueue]
        · rfl
        · simp [State.setTile, State.enqueue, same]
      refine ⟨?_, ?_, fun v => ?_, ?_, m.others,
        m.blocks.trans (by constructor <;> simp [State.beginRender, State.setTile, State.enqueue])⟩
      · rw [hw']; rfl
      · simp only [State.beginRender, row', he, hs']; rfl
      · rw [hs', hw']
        simp only [State.beginRender, row']
        by_cases e : v = u
        · subst e
          simp [State.setTile, State.enqueue, hc]
        · have e' : ¬ u = v := fun h => e h.symm
          simp only [State.setTile, State.enqueue, Table.read_write, e, e', if_false, Option.some.injEq, ins v e]
          rw [m.tiles v, hs, hw]
          simp
      · rw [hw']; exact rep
    · -- it joins the queue or stays DIRTY
      have hs' : s.fmt.startsOf (L ++ [u]) = s.fmt.startsOf L := by
        unfold Formatter.startsOf
        split
        · next e => rw [hr]; cases h' : s.fmt.rousedOf L with
          | nil => exact absurd ⟨e, h'⟩ first
          | cons a l => rfl
        · rfl
      have hw' : s.fmt.waitsOf (L ++ [u]) = s.fmt.waitsOf L ++ [u] := by
        unfold Formatter.waitsOf
        split
        · next e => rw [hr]; cases h' : s.fmt.rousedOf L with
          | nil => exact absurd ⟨e, h'⟩ first
          | cons a l => rfl
        · rw [hr, List.append_assoc]
      have busy : ∃ r, t.fmt.engine = some r := by
        rw [m.engine]
        cases e : s.fmt.engine with
        | some r => exact ⟨r, rfl⟩
        | none =>
          cases h' : s.fmt.rousedOf L with
          | nil => exact absurd ⟨e, h'⟩ first
          | cons a l => simp [Formatter.startsOf, e, h']
      obtain ⟨r, hr'⟩ := busy
      have notStart : s.fmt.startsOf L ≠ some u := by
        unfold Formatter.startsOf
        split
        · intro e
          exact hu (List.mem_of_mem_filter (List.mem_of_mem_head? e))
        · simp
      have notWait : u ∉ s.fmt.waitsOf L := by
        unfold Formatter.waitsOf
        split
        · exact fun e => hu (List.mem_of_mem_filter (List.mem_of_mem_tail e))
        · rw [List.mem_append]
          rintro (e | e)
          · rw [h.queued] at e; rw [hc] at e; cases e
          · exact hu (List.mem_of_mem_filter e)
      have len : t.fmt.queue.length = min 16 (s.fmt.waitsOf L).length := by rw [m.queue, List.length_take]
      by_cases room : (s.fmt.waitsOf L).length < 16
      · have go : (t.setTile u { t.fmt.tiles.read u with state := .dirty }).tryJoin u =
            (t.setTile u { t.fmt.tiles.read u with state := .dirty }).enqueue u := by
          have : t.fmt.queue.length < 16 := by omega
          simp [State.tryJoin, State.setTile, State.enqueue, State.startRender, hr', Config.renderSize, this]
        rw [go, same]
        have all : (s.fmt.waitsOf L ++ [u]).take 16 = s.fmt.waitsOf L ++ [u] := List.take_of_length_le (by simp; omega)
        have old : (s.fmt.waitsOf L).take 16 = s.fmt.waitsOf L := List.take_of_length_le (by omega)
        have rep : t.rep = s.rep := by have := m.backlog; rwa [if_pos (by omega)] at this
        refine ⟨?_, ?_, fun v => ?_, ?_, m.others, m.blocks.trans (by constructor <;> simp [State.setTile, State.enqueue])⟩
        · rw [hw', all]; simp only [State.enqueue, State.setTile]; rw [m.queue, old]
        · rw [hs']; exact m.engine
        · rw [hs', hw', all]
          by_cases e : v = u
          · subst e
            simp [State.setTile, State.enqueue, hc, notStart]
          · have inW : v ∈ s.fmt.waitsOf L ++ [u] ↔ v ∈ s.fmt.waitsOf L := by simp [e]
            simp only [State.setTile, State.enqueue, Table.read_write, e, if_false, ins v e, inW]
            rw [m.tiles v, old]
        · rw [hw', if_pos (by simp; omega)]; exact rep
      · have full : 16 ≤ (s.fmt.waitsOf L).length := by omega
        have go : (t.setTile u { t.fmt.tiles.read u with state := .dirty }).tryJoin u =
            State.setFlag .renderBacklog (t.setTile u { t.fmt.tiles.read u with state := .dirty }) := by
          have : ¬ t.fmt.queue.length < 16 := by omega
          simp [State.tryJoin, State.setTile, Config.renderSize, this]
        rw [go, same]
        have cut : (s.fmt.waitsOf L ++ [u]).take 16 = (s.fmt.waitsOf L).take 16 := by
          rw [List.take_append_of_le_length full]
        refine ⟨?_, ?_, fun v => ?_, ?_, ?_, m.blocks.trans (by constructor <;> simp [State.setTile])⟩
        · rw [hw', cut, ← m.queue]; simp [State.setTile]
        · rw [hs', ← m.engine]; simp [State.setTile]
        · rw [hs', hw', cut]
          by_cases e : v = u
          · subst e
            have : v ∉ (s.fmt.waitsOf L).take 16 := fun h => notWait (List.mem_of_mem_take h)
            simp [State.setTile, hc, notStart, this]
          · simp only [State.setTile, State.setFlag_fmt, Table.read_write, e, if_false, ins v e]
            rw [m.tiles v]
        · rw [hw', if_neg (by simp; omega)]
          intro q
          have grown : s.rep.GrownFrom t.rep := by
            have := m.backlog
            split at this
            · rw [this]; exact .refl _
            · exact (this q).2
          have tq : t.rep.Quiet := fun l => by rw [grown.ready]; exact q (by rw [← grown.lane]; exact l)
          have e : (State.setFlag .renderBacklog (t.setTile u { s.fmt.tiles.read u with state := .dirty })).rep =
              t.rep.setFlag t.statusView .renderBacklog := rfl
          rw [e]
          exact ⟨ReportUnit.setFlag_isIn _ _ tq, grown.trans (ReportUnit.setFlag_grown _ _ tq)⟩
        · simpa [State.setTile] using m.others
  · have hr := Formatter.rousedOf_append_other (f := s.fmt) (L := L) hc
    have hs : s.fmt.startsOf (L ++ [u]) = s.fmt.startsOf L := by simp [Formatter.startsOf, hr]
    have hw : s.fmt.waitsOf (L ++ [u]) = s.fmt.waitsOf L := by simp [Formatter.waitsOf, hr]
    by_cases hx : (s.fmt.tiles.read u).state = .rendering
    · simp only [hx]
      refine ⟨by rw [hw]; exact m.queue, by rw [hs]; exact m.engine, fun v => ?_, by rw [hw]; exact m.backlog, m.others,
        m.blocks.trans (by constructor <;> simp)⟩
      rw [hs, hw]
      simp only [State.setTile, Table.read_write]
      split
      · next e => subst e; simp [hx]
      · next e =>
        rw [m.tiles v]
        have : (v ∉ L ++ [u]) ↔ v ∉ L := by simp [e]
        simp only [this]
    · have still : s.MarksOf t (L ++ [u]) := by
        refine ⟨by rw [hw]; exact m.queue, by rw [hs]; exact m.engine, fun v => ?_, by rw [hw]; exact m.backlog, m.others,
          m.blocks⟩
        rw [hs, hw, m.tiles v]
        by_cases e : v = u
        · subst e; simp [hu, hx, hc]
        · have : (v ∉ L ++ [u]) ↔ v ∉ L := by simp [e]
          simp only [this]
      split <;> simp_all

/-- The marks of one event, all at once (R131, R135). -/
theorem State.markTiles_marks (s : State) (p : TileNo → Bool) (h : s.fmt.Coherent) : s.Marks (s.markTiles p) p := by
  have all : ∀ (L M : List TileNo) (t : State), (M ++ L).Nodup → s.MarksOf t M →
      s.MarksOf (L.foldl State.markTile t) (M ++ L) := by
    intro L
    induction L with
    | nil => intro M t _ m; simpa using m
    | cons u L ih =>
      intro M t nd m
      have hu : u ∉ M := by
        intro e
        exact (List.nodup_append.1 nd).2.2 u e u (by simp) rfl
      have := ih (M ++ [u]) (t.markTile u) (by simpa using nd) (m.append h hu)
      simpa using this
  have m := all ((List.finRange 160).filter p) [] s (by simpa using (List.nodup_finRange 160).filter p) (.nil h)
  rw [List.nil_append] at m
  have er : s.fmt.rousedOf ((List.finRange 160).filter p) = s.fmt.roused p := by
    simp [Formatter.rousedOf, Formatter.roused, List.filter_filter, Bool.and_comm]
  have es : s.fmt.startsOf ((List.finRange 160).filter p) = s.fmt.starts p := by
    cases e : s.fmt.engine <;> simp [Formatter.startsOf, Formatter.starts, er, e]
  have ew : s.fmt.waitsOf ((List.finRange 160).filter p) = s.fmt.waits p := by
    cases e : s.fmt.engine <;> simp [Formatter.waitsOf, Formatter.waits, er, e]
  refine ⟨by rw [← ew]; exact m.queue, by rw [← es]; exact m.engine, fun u => ?_, by rw [← ew]; exact m.backlog,
    m.others, m.blocks⟩
  rw [← es, ← ew]
  have outside : (u ∉ (List.finRange 160).filter p) ↔ p u = false := by simp
  have here := m.tiles u
  simp only [outside] at here
  exact here

end Sys2Proof.Machine
end

