-- ==== Sys2Proof/Laws/Starts.lean ====
section
/-! SUPPORT. What an output frame start, a loss of lock and the ports' events can reach (R28, R29, R129, R130, R139, R153 to
R156, R167 to R171, R178). -/

namespace Sys2Proof.Machine

/-- The blocks that an output frame start can reach at the compositor and the formatter. -/
abbrev startBlocks : List Block := [.dir, .rep, .notice, .fmt, .comp]

theorem SameBut.ite {ks : List Block} {s t u : State} {p : Prop} [Decidable p] (h : SameBut ks s t) (k : SameBut ks s u) :
    SameBut ks s (if p then t else u) := by split <;> assumption

/-! ### Tile bindings and releases -/

theorem State.tryJoin_same (s : State) (t : TileNo) : SameBut startBlocks s (s.tryJoin t) :=
  (s.tryJoin_leaves t).blocks.mono (by simp)

theorem State.setTile_same (s : State) (t : TileNo) (x : Tile) : SameBut startBlocks s (s.setTile t x) := by
  constructor <;> simp

theorem State.makeDirty_same (s : State) (t : TileNo) : SameBut startBlocks s (s.makeDirty t) :=
  (s.makeDirty_leaves t).blocks.mono (by simp)

theorem State.bindTile_same (s : State) (t : TileNo) (b : Option Binding) : SameBut startBlocks s (s.bindTile t b) := by
  unfold State.bindTile
  dsimp only
  split
  · exact (s.setTile_same t _).trans (State.makeDirty_same _ t)
  · exact (s.setTile_same t _).trans (State.makeDirty_same _ t)
  · exact s.setTile_same t _
  · exact s.setTile_same t _
  · exact s.setTile_same t _

theorem State.releaseTile_same (s : State) (t : TileNo) : SameBut startBlocks s (s.releaseTile t) := by
  unfold State.releaseTile
  dsimp only
  split
  · exact s.setTile_same t _
  · exact s.setTile_same t _
  · exact s.setTile_same t _
  · constructor <;> simp
  · exact s.setTile_same t _

theorem State.releaseAll_same (s : State) (ts : List TileNo) : SameBut startBlocks s (s.releaseAll ts) :=
  SameBut.foldl State.releaseTile_same ts s

theorem State.bindAll_same (s : State) (l : LayoutNo) (ts : List TileNo) : SameBut startBlocks s (s.bindAll l ts) :=
  SameBut.foldl (fun s t => s.bindTile_same t _) ts s

/-! ### The five steps of the output frame start -/

theorem State.setComp_same (s : State) (c : Compositor) : SameBut startBlocks s (s.setComp c) := by constructor <;> simp

theorem State.setDisplay_same (s : State) (d : DisplayNo) (x : Display) : SameBut startBlocks s (s.setDisplay d x) := by
  constructor <;> simp

theorem State.setPage_same (s : State) (l : LayoutNo) (r : RegionNo) (p : PageState) :
    SameBut startBlocks s (s.setPage l r p) := by constructor <;> simp

theorem State.refuse_same (kind tag : Byte) (reason : Reason) (s : State) :
    SameBut startBlocks s (State.refuse kind tag reason s) :=
  (State.refuse_leaves kind tag reason s).blocks.mono (by simp)

theorem State.pageAfterWrite_same (b : Compositor) (w : RegionNo → Bool) (l : LayoutNo) (s : State) (r : RegionNo) :
    SameBut startBlocks s (s.pageAfterWrite b w l r) := by
  unfold State.pageAfterWrite
  split
  · exact .ite (s.setPage_same l r _) (.refl _ s)
  · exact .ite (s.setPage_same l r _) (.refl _ s)

theorem State.tilesAfterWrite_same (s : State) (b : Compositor) (l : LayoutNo) (w z : RegionNo → Bool) :
    SameBut startBlocks s (s.tilesAfterWrite b l w z) := by
  unfold State.tilesAfterWrite
  split
  · exact ((SameBut.foldl (State.pageAfterWrite_same b w l) _ s).trans (State.releaseAll_same _ _)).trans
      (State.bindAll_same _ _ _)
  · exact .refl _ s

theorem State.landLayout_same (s : State) (tag : Byte) (l : LayoutNo) (img : Layout) :
    SameBut startBlocks s (s.landLayout tag l img) :=
  .ite ((s.setComp_same _).trans (State.tilesAfterWrite_same _ _ _ _ _)) (s.refuse_same _ _ _)

theorem State.landRegion_same (s : State) (tag : Byte) (i : Fin 128) (img : Region) :
    SameBut startBlocks s (s.landRegion tag i img) :=
  .ite ((s.setComp_same _).trans (State.tilesAfterWrite_same _ _ _ _ _)) (s.refuse_same _ _ _)

theorem State.selectAt_same (tag : Byte) (l : LayoutNo) (s : State) (d : DisplayNo) :
    SameBut startBlocks s (s.selectAt tag l d) :=
  .ite (s.refuse_same _ _ _) (s.setDisplay_same d _)

@[simp] theorem Landing.freshIf_state (p : Landing) (l : LayoutNo) (c : Bool) : (p.freshIf l c).state = p.state := by
  unfold Landing.freshIf; split <;> rfl

/-- A staged directive reaches the compositor, the formatter and the refusals, no more (R167, R168). -/
theorem Landing.land_same (p : Landing) (x : Staged) : SameBut startBlocks p.state (p.land x).state := by
  unfold Landing.land
  dsimp only
  split
  · exact SameBut.foldl (fun s d => s.setDisplay_same d _) _ _
  · exact SameBut.foldl (State.selectAt_same _ _) _ _
  · exact SameBut.foldl (fun s d => s.setDisplay_same d _) _ _
  · exact SameBut.foldl (fun s d => s.setDisplay_same d _) _ _
  · rw [Landing.freshIf_state]; exact p.state.landLayout_same _ _ _
  · rw [Landing.freshIf_state]; exact p.state.landRegion_same _ _ _
  · exact p.state.setComp_same _
  · exact p.state.setComp_same _

theorem Landing.foldl_same : ∀ (xs : List Staged) (p : Landing), SameBut startBlocks p.state (xs.foldl Landing.land p).state
  | [], p => .refl _ p.state
  | x :: xs, p => (p.land_same x).trans (Landing.foldl_same xs (p.land x))

theorem State.landStaged_same (s : State) : SameBut startBlocks s s.landStaged.state :=
  SameBut.trans (t := s.takeHanded) (by constructor <;> simp) (Landing.foldl_same _ { state := s.takeHanded, fresh := 0 })

theorem State.settleMode_same (s : State) (d : DisplayNo) : SameBut startBlocks s (s.settleMode d) := by
  unfold State.settleMode
  dsimp only
  have h1 : ∀ (u : State) (p : Prop) [Decidable p], SameBut startBlocks u (if p then State.setFlag .displayWoke u else u) :=
    fun u p _ => .ite ((State.setFlag_leaves _ u).blocks.mono (by simp)) (.refl _ u)
  have h2 : ∀ (u : State) (w : DisplaySet), SameBut startBlocks u ({ u with notice := { u.notice with wake := w } } : State) :=
    fun u w => by constructor <;> simp
  exact (((s.setDisplay_same d _).trans (h1 _ _)).trans (h2 _ _)).trans (State.setDisplay_same _ d _)

theorem State.recountLayouts_same (s : State) : SameBut startBlocks s s.recountLayouts := by
  unfold State.recountLayouts
  dsimp only
  have leave : ∀ (u : State) (l : LayoutNo), SameBut startBlocks u (u.leaveLayout l) := fun u l =>
    (u.releaseAll_same _).trans (SameBut.foldl (fun s r => s.setPage_same l r _) _ _)
  have enter : ∀ (u : State) (l : LayoutNo), SameBut startBlocks u (u.enterLayout l) := fun u l =>
    (SameBut.foldl (fun s r => s.setPage_same l r _) _ u).trans (State.bindAll_same _ _ _)
  exact ((SameBut.foldl leave _ s).trans (SameBut.foldl enter _ _)).trans (State.setComp_same _ _)

theorem State.settleNotice_same (f : BitVec 16) (old : Table Display 12) (s : State) (d : DisplayNo) :
    SameBut startBlocks s (s.settleNotice f old d) := by
  have tile : SameBut startBlocks s (s.settleTile d) := by
    unfold State.settleTile
    dsimp only
    split
    · exact (s.setComp_same _).trans (State.bindTile_same _ _ _)
    · exact .ite ((s.setComp_same _).trans (State.releaseTile_same _ _)) (s.setComp_same _)
  have ticker : ∀ u : State, SameBut startBlocks u (u.settleTicker f d) := fun u => by
    unfold State.settleTicker
    dsimp only
    split
    · refine .ite ?_ (.refl _ u)
      exact ((u.setTicker_leaves d _).leaves.blocks.mono (by simp)).trans
        ((State.markTile_leaves _ _).blocks.mono (by simp))
    · exact (u.setTicker_leaves d _).leaves.blocks.mono (by simp)
  have change : ∀ u : State, SameBut startBlocks u (u.settleChange (old.read d) (s.comp.bindsNotice d) d) := fun u =>
    .ite ((u.markTile_leaves _).blocks.mono (by simp)) (.refl _ u)
  exact ((tile.trans (ticker _)).trans (State.setDisplay_same _ d _)).trans (change _)

/-- The compositor's handling of an output frame start leaves the feed, the clock, the settings, the board and the tallies
(R167). -/
theorem State.compositorStart_same (s : State) : SameBut startBlocks s s.compositorStart :=
  (((s.landStaged_same.trans (State.setComp_same _ _)).trans (SameBut.foldl State.settleMode_same _ _)).trans
    (State.recountLayouts_same _)).trans (SameBut.foldl (State.settleNotice_same _ _) _ _)

theorem State.commitTiles_same (s : State) : SameBut startBlocks s s.commitTiles := by constructor <;> simp

theorem State.frameStartHandling_same (s : State) (b : Bool) : SameBut startBlocks s (s.frameStartHandling b) :=
  .ite (s.commitTiles_same.trans (State.compositorStart_same _)) (s.compositorStart_same.trans (State.commitTiles_same _))

/-! ### Losses of lock (R20, R29) -/

/-- A loss of lock at the directive unit: the CURRENT directives are dropped with STAGE_DROP, the cursor goes back to the
restore point, the prefix is dropped (R20, R29). -/
theorem State.lockLost_spec (s : State) :
    s.Leaves [.dir, .rep] s.lockLost ∧
    s.lockLost.dir = { s.dir with
      staging := s.dir.staging.filter fun x => !x.isCurrent
      cursor := s.dir.restorePoint.getD s.dir.cursor
      restorePoint := none
      span := none } := by
  unfold State.lockLost
  dsimp only
  have a : ∀ d : DirectiveUnit, s.Leaves [.dir, .rep] ({ s with dir := d } : State) := fun d =>
    .of_same (by constructor <;> simp) rfl rfl
  split
  · exact ⟨(a _).trans ((State.setFlag_leaves _ _).mono (by simp)), by simp⟩
  · exact ⟨a _, rfl⟩

end Sys2Proof.Machine
end

