-- ==== Sys2Proof/Machine/Timing.lean ====
section
/-! DEFINITION. The durations of R13, R14, R37, R41 and R185, as plain functions. The unit is half a period of the 27 MHz
reference oscillator. No step reads them: a timed event is a command (log 1). -/

namespace Sys2Proof.Machine

/-- Half reference periods in one second (R185). -/
def halfPeriodsPerSecond : Nat := 54000000

/-- The flywheel's period P (R13). -/
def Cadence.period (c : Cadence) : Nat := halfPeriodsPerSecond / c.code

/-- A line time: P divided into 1125 (R13). -/
def Cadence.lineTime (c : Cadence) : Nat := c.period / 1125

/-- The symbol loss time, 1 ms (R185). -/
def symbolLossTime : Nat := halfPeriodsPerSecond / 1000

/-- The frame timeout, 125 ms (R6, R185). -/
def frameTimeoutTime : Nat := halfPeriodsPerSecond / 8

/-- The duration of a return packet of b bytes, 2.5 µs a byte (R37, R185). -/
def transmissionTime (bytes : Nat) : Nat := 135 * bytes

/-- The render time, 20 µs (R137, R185). -/
def renderTime : Nat := 1080

/-- The delay from a line event to the line leaving the port, 8 µs (R178, R185). -/
def portDelay : Nat := 432

/-- The tenth of a second between tenth ticks (R41, R185). -/
def tenthTime : Nat := 2 * Config.prescale

/-- When the flywheel produces the next output frame start after lock was left: the later of the previous start plus P, and
one line time after the completing frame end, or the moment the lock was left where no frame was in progress (R14). -/
def nextFlywheelStart (c : Cadence) (previousStart moment : Nat) (completed : Bool) : Nat :=
  max (previousStart + c.period) (if completed then moment + c.lineTime else moment)

end Sys2Proof.Machine
end

