-- ==== Sys2Proof/WellFormed.lean ====
section
/-! DEFINITION. Which commands can come: the check on a command's operands that its types do not make. -/

namespace Sys2Proof

/-- The payload of a directive, where the command carries one. -/
def Instr.payload? : Instr → Option (List Byte)
  | .powerOnReset _ _ => none
  | .symbolAcquisition => none
  | .symbolLoss => none
  | .frameStart _ _ _ => none
  | .marginPacket _ => none
  | .lineGroup _ => none
  | .frameEnd => none
  | .frameTimeout => none
  | .flywheelFrameStart _ => none
  | .flywheelLine => none
  | .flywheelFrameEnd => none
  | .markTime _ p => some p
  | .openDay _ p => some p
  | .closeDay _ p => some p
  | .sale _ p => some p
  | .acknowledgeBand _ p => some p
  | .postNoticeFragment0 _ p => some p
  | .postNoticeFragment12 _ p => some p
  | .withdrawNotice _ p => some p
  | .driveChimeLine _ p => some p
  | .setCursor _ p => some p
  | .writeEntrySettings _ p => some p
  | .writeEntryShow _ p => some p
  | .writeEntryTally _ p => some p
  | .writeEntryTitle _ p => some p
  | .writeEntryTemplate _ p => some p
  | .writeEntryStaged _ p => some p
  | .readEntries _ p => some p
  | .requestStatus _ p => some p
  | .setAttentionMask _ p => some p
  | .restart _ p => some p
  | .span _ p => some p
  | .setDisplayMode _ p => some p
  | .selectLayout _ p => some p
  | .selectProgram _ p => some p
  | .setDisplayMasks _ p => some p
  | .tenthTick => none
  | .secondTick _ => none
  | .minuteBoundary => none
  | .enterHoldover => none
  | .enterLost => none
  | .clockSaturation => none
  | .lifetimeExpiry => none
  | .chimePatternStart _ => none
  | .chimeCountdownExpiry _ => none
  | .pageTurn _ _ => none
  | .tickerStep _ => none
  | .renderStart => none
  | .renderCompletion => none
  | .chainPacketArrival _ => none
  | .upstreamReady => none
  | .upstreamReadyWithdrawal => none
  | .transmissionCompletion => none
  | .panelRemoval _ => none
  | .panelAttachment _ => none

/-- A delivered directive has a payload of at most 40 bytes: a longer one fails the check of R9 and is never delivered. -/
def Instr.wellFormed (i : Instr) : Bool :=
  match i.payload? with
  | some p => p.length ≤ Config.payloadLimit
  | none => true

end Sys2Proof
end

