-- ==== Sys2Proof/Tests/Slice0.lean ====
section
/-! SUPPORT. Tests of single commands against the spec's worked sequences and tables, and for each statement with hypotheses
a state and operands that meet them. -/

namespace Sys2Proof.Tests

open Sys2Proof.Machine

set_option Elab.async false

/-! ### Helpers -/

/-- The next state of a command. -/
def after (c : Instr) (s : State) : State :=
  match exec c s with
  | .next t => t
  | .fault _ => s
  | .refused _ => s

/-- Does a command answer a next state? -/
def runs (c : Instr) (s : State) : Bool :=
  match exec c s with
  | .next _ => true
  | .fault _ => false
  | .refused _ => false

/-- The state after reset with the feed receiver in a lock state, a candidate, a phase, with margin packets and line groups. -/
def feedAt (lock : LockState) (candidate : Candidate) (phase : FramePhase) (packets lines : Nat) (output : OutputFrame) :
    State :=
  { State.reset with feed := { State.reset.feed with
      lock := lock, candidate := candidate, output := output
      record := { phase := phase, count := 4, lanes := LaneMap.none, marginPackets := packets, lineGroups := lines } } }

/-- The state after reset with the clock of an open day that began at 10:00. -/
def dayAt (st : ClockState) (minute second since : Nat) : State :=
  { State.reset with clock :=
      { state := st, minute := minute, second := second, civilStart := 600, dayNumber := 9, sinceMark := since } }

/-- The show of section 5.11: auditorium 8, 240 seats, from minute 540. -/
def aShow (st : ShowState) : Show :=
  { Show.vacant with
    state := st, auditorium := 8, start := 540, runtime := 120, lead := 15, closeOffset := 10, grace := 20, capacity := 240 }

/-- A tally of that show. -/
def aTally (remaining : Nat) (clip net : Int) (mode : TallyMode) (band acked : Band) : Tally :=
  { Tally.zeroed with
    remaining := remaining, clip := clip, net := net, mode := mode, band := band, acked := acked
    departed := decide (band ≠ acked) }

/-- A state with that show and a tally at slot 40, and the filling percent 70 of section 5.11. -/
def withShow (s : State) (w : Show) (t : Tally) : State :=
  { s with
    settings := { s.settings with fillingPercent := 70 }
    board := { s.board with
      shows := s.board.shows.write 40 w
      order := if w.state.unretired then [40] else []
      nextDue := if w.state.unretired then some 525 else none }
    tally := { s.tally with tallies := s.tally.tallies.write 40 t } }

/-- The show LISTED at minute 500, its tally full. -/
def listed : State := withShow (dayAt .running 500 0 0) (aShow .listed) (aTally 240 0 0 .reconcile .opened .opened)

/-- A notice. -/
def aNotice (id : Byte) (cls : NoticeClass) : Notice :=
  { id := id, cls := cls, takeover := false, strikes := 1, lifetime := 0, target := 3, linked := none, text := [72, 73] }

/-- A state with a notice queue. -/
def withQueue (s : State) (q : List Notice) : State := { s with notice := { s.notice with queue := q } }

/-- A full queue of 32 HOUSE notices, ids 0 to 31. -/
def fullQueue : List Notice := (List.range 32).map fun i => aNotice (BitVec.ofNat 8 i) .house

/-- A state with the cursor at an entry. -/
def atEntry (s : State) (t : TableName) (i : Nat) : State :=
  { s with dir := { s.dir with cursor := { table := t, index := some i } } }

/-- A SHOW image of auditorium 8, 240 seats, lead 15, close offset 10, grace 20, with a start, a runtime of 120 and the bits
of announce and mode. -/
def showImg (start : Nat) (bits : Byte) : List Byte :=
  [1, 0, 8, 0] ++ halfBytes start ++ halfBytes 120 ++ [15, 10, 20] ++ halfBytes 240 ++ [0, bits, 0, 0, 0, 0]

/-- A state with something waiting in its lane's queue, the lane busy. -/
def lane (queue : List Report) (chain : List (List Byte)) (flags : BitVec 14) (winner : Side) : State :=
  { State.reset with rep := { State.reset.rep with
      queue := queue, chain := chain, flags := flags, lane := .sending [1], lastWinner := winner, upstreamReady := true } }

/-! ### Operands and decoding of words -/

theorem test_payload_of_41_bytes_is_refused : (Instr.sale 0 (List.replicate 41 0)).wellFormed = false := by decide

theorem test_payload_of_40_bytes_is_well_formed :
    (Instr.postNoticeFragment0 0 (List.replicate 40 0)).wellFormed = true := by decide

theorem test_no_row_has_bits : decodeTableWord 8 0x10 = none ∧ State.reset.withFetchWord 8 0x10 = State.reset := ⟨rfl, rfl⟩

/-! ### Resets and lock (chapter 1) -/

/-- Section 2.10, first row: the STATUS report with RESTARTED is granted at the release of reset. -/
theorem test_power_on_grants_status :
    let t := after (.powerOnReset 3 0) { State.reset with rep := { State.reset.rep with upstreamReady := true } }
    t.rep.queue = [] ∧ t.rep.flags = 0 ∧ t.rep.lastWinner = .chainSide := by decide +kernel

theorem test_restart_keeps_the_mask : (after (.restart 0 []) (lane [] [] 0 .chainSide)).rep.mask = 1 := by decide +kernel

theorem test_symbol_acquisition : (after .symbolAcquisition State.reset).feed.lock = .search := by decide +kernel

theorem test_symbol_loss_keeps_the_line : (after .symbolLoss (feedAt .locked .absent .active 3 700 (.feed 700))).feed.output =
    .completing 700 := by decide +kernel

theorem test_frame_start_with_the_next_count_locks :
    (after (.frameStart 5 LaneMap.none true) (feedAt .search .complete .between 0 1080 .closed)).feed.lock = .locked := by
  decide +kernel

theorem test_frame_start_with_another_count_follows :
    (after (.frameStart 4 LaneMap.none true) (feedAt .search .complete .between 0 1080 .closed)).feed.candidate =
      .following := by decide +kernel

/-- A SALE addressed to all devices, in a packet whose bytes sum to 0. -/
theorem test_margin_packet_is_a_sale :
    (after (.marginPacket [0x5C, 15, 0x10, 7, 4, 3, 1, 40, 0xE7, 0x67])
      { listed with feed := (feedAt .locked .absent .margin 0 0 (.feed 0)).feed }).tallyOf 40 =
    { aTally 215 0 (-25) .reconcile .opened .opened with lastOutcome := some .applied } := by decide +kernel

theorem test_margin_packet_with_a_bad_sum :
    (after (.marginPacket [0x5C, 15, 0x10, 7, 4, 3, 1, 40, 0xE7, 0x66])
      (feedAt .locked .absent .margin 0 0 (.feed 0))).feed.checkFailCount = 1 := by decide +kernel

theorem test_frame_end_closes_the_frame :
    (after .frameEnd (feedAt .locked .absent .active 0 1080 (.feed 1080))).feed.output = .closed := by decide +kernel

theorem test_short_frame_end_loses_lock :
    (after .frameEnd (feedAt .locked .absent .active 0 1079 (.feed 1079))).feed.lock = .search := by decide +kernel

theorem test_frame_timeout : (after .frameTimeout (feedAt .locked .absent .between 0 0 .closed)).feed.lock = .search := by
  decide +kernel

theorem test_flywheel_frame_start : (after (.flywheelFrameStart true) State.reset).feed.output = .flywheel 0 := by
  decide +kernel

theorem test_flywheel_line :
    (after .flywheelLine (feedAt .search .absent .between 0 0 (.completing 1079))).feed.output = .completing 1080 := by
  decide +kernel

theorem test_flywheel_frame_end :
    (after .flywheelFrameEnd (feedAt .search .absent .between 0 0 (.flywheel 5))).feed.output = .closed := by decide +kernel

/-- A line group in LOCKED is one more line of the record, of whatever lanes. -/
theorem test_line_group (z : LaneLines) :
    ∃ t, exec (.lineGroup z) (feedAt .locked .absent .margin 0 0 (.feed 0)) = .next t ∧ t.feed.output = .feed 1 :=
  ⟨_, rfl, rfl⟩

/-! ### The clock (chapter 3) -/

theorem test_open_day : (after (.openDay 1 [2, 88, 0, 9]) State.reset).clock = (dayAt .running 0 0 0).clock := by
  decide +kernel

theorem test_mark_time_over_the_range_is_refused :
    (after (.markTime 1 [0x0B, 0x40, 0]) (dayAt .running 0 0 0)).dir.lastRefusal =
      some { kind := 0x01, tag := 1, reason := .badField } := by decide +kernel

theorem test_mark_time_at_the_last_minute :
    (after (.markTime 1 [0x0B, 0x3F, 59]) (dayAt .lost 0 0 60)).clock = (dayAt .running 2879 59 0).clock := by decide +kernel

theorem test_close_day_vacates : ((after (.closeDay 1 []) listed).showOf 40).state = .vacant := by decide +kernel

theorem test_tenth_tick_makes_a_second_due :
    (after .tenthTick { State.reset with divider := { periods := 1, tenths := 9, secondDue := false } }).divider =
      { periods := 2700000, tenths := 0, secondDue := true } := by decide +kernel

theorem test_second_tick_carries : (after (.secondTick .clockNoticesCompositor) (dayAt .running 7 59 2)).clock =
    (dayAt .running 8 0 3).clock := by decide +kernel

theorem test_minute_boundary : (after .minuteBoundary (dayAt .holdover 7 59 20)).clock = (dayAt .holdover 8 0 21).clock := by
  decide +kernel

theorem test_tenth_unmarked_minute : (after .enterHoldover (dayAt .running 7 59 9)).clock = (dayAt .holdover 8 0 10).clock := by
  decide +kernel

theorem test_sixtieth_unmarked_minute : (after .enterLost (dayAt .holdover 7 59 59)).clock = (dayAt .lost 8 0 60).clock := by
  decide +kernel

theorem test_clock_saturation :
    (after .clockSaturation (dayAt .running 2879 59 3)).clock = (dayAt .lost 2879 59 3).clock := by decide +kernel

/-- R52's table: minutes 825 and 2879 at civil start 600, in both forms. -/
theorem test_civil_times :
    civilText .hour24 (civilOf 600 825) = codes ['2', '3', ':', '4', '5'] ∧
    civilText .hour12 (civilOf 600 825) = codes ['1', '1', ':', '4', '5', ' ', 'P', 'M'] ∧
    civilText .hour12 (civilOf 600 840) = codes ['1', '2', ':', '0', '0', ' ', 'A', 'M'] ∧
    civilText .hour24 (civilOf 600 3239) = codes ['1', '5', ':', '5', '9'] := by decide +kernel

/-! ### Shows and tallies (chapters 4 and 5) -/

theorem test_show_boards_at_its_minute :
    ((after .minuteBoundary { listed with clock := (dayAt .running 524 59 0).clock }).showOf 40).state = .boarding := by
  decide +kernel

theorem test_show_insert_opens_the_tally :
    (after (.writeEntryShow 1 (showImg 540 4)) (atEntry (dayAt .running 500 0 0) .show 40)).tallyOf 40 =
      aTally 240 0 0 .reconcile .opened .opened := by decide +kernel

theorem test_show_insert_past :
    (after (.writeEntryShow 1 (showImg 540 4)) (atEntry (dayAt .running 560 0 0) .show 40)).dir.lastRefusal =
      some { kind := 0x31, tag := 1, reason := .showPast } := by decide +kernel

/-- Section 5.11, transaction 2. -/
theorem test_sale_departs_its_band :
    let t := after (.sale 1 [5, 0, 40, 0xE7])
      (withShow (dayAt .running 500 0 0) (aShow .listed) (aTally 90 0 (-150) .reconcile .opened .opened))
    t.tallyOf 40 = { aTally 65 0 (-175) .reconcile .filling .opened with lastOutcome := some .applied } ∧
    t.rep.queue = [.status, .alert 40 .opened .filling 65] := by decide +kernel

/-- Section 5.11, transactions 5 and 6. -/
theorem test_sale_over_the_last_seats :
    (after (.sale 1 [7, 1, 40, 0xF8])
      (withShow (dayAt .running 500 0 0) (aShow .listed) (aTally 5 0 (-235) .reconcile .few .opened))).tallyOf 40 =
      { aTally 0 (-3) (-243) .reconcile .soldOut .opened with lastOutcome := some .clampedLow } ∧
    (after (.sale 1 [5, 1, 40, 4])
      (withShow (dayAt .running 500 0 0) (aShow .listed) (aTally 0 (-3) (-243) .reconcile .soldOut .opened))).tallyOf 40 =
      { aTally 1 0 (-239) .reconcile .few .opened with lastOutcome := some .applied } := by decide +kernel

/-- Section 5.11, the acknowledgement. -/
theorem test_acknowledge_band :
    (after (.acknowledgeBand 1 [40, 2])
      (withShow (dayAt .running 500 0 0) (aShow .listed) (aTally 1 0 (-239) .reconcile .few .opened))).tallyOf 40 =
      aTally 1 0 (-239) .reconcile .few .few := by decide +kernel

/-- R103's examples with exact limit 30 and step 10. -/
theorem test_seats_left :
    let figure (n : Nat) := seatsLeft State.reset.settings (aShow .listed) (aTally n 0 0 .strict .opened .opened)
    figure 90 = codes ['9', '0', '+'] ∧ figure 65 = codes ['6', '0', '+'] ∧ figure 31 = codes ['3', '1'] ∧
    figure 30 = codes ['3', '0'] ∧ figure 5 = codes ['5'] ∧ figure 0 = codes ['S', 'O', 'L', 'D', ' ', 'O', 'U', 'T'] := by
  decide +kernel

/-! ### Tables and directives (chapter 2) -/

theorem test_write_title : ((after (.writeEntryTitle 1 ([2, 0, 0, 72, 73] ++ List.replicate 30 0))
    (atEntry State.reset .title 63)).board.titles.read 63).text = [72, 73] := by decide +kernel

theorem test_write_title_reaches_the_end : (after (.writeEntryTitle 1 ([2, 0, 0, 72, 73] ++ List.replicate 30 0))
    (atEntry State.reset .title 63)).dir.cursor.index = none := by decide +kernel

theorem test_write_settings_back : (after (.writeEntrySettings 1 (settingsImage State.reset.settings State.reset.clock))
    (atEntry State.reset .settings 0)).settings = State.reset.settings := by decide +kernel

theorem test_write_tally_changes_the_mode :
    (after (.writeEntryTally 1 (tallyImage (aTally 65 0 (-175) .strict .filling .opened)))
      (atEntry (withShow (dayAt .running 500 0 0) (aShow .listed) (aTally 65 0 (-175) .reconcile .filling .opened))
        .tally 40)).tallyOf 40 = aTally 65 0 (-175) .strict .filling .opened := by decide +kernel

theorem test_write_template : ((after (.writeEntryTemplate 1 ((List.replicate 8 [0xFF, 0, 0]).flatten ++ List.replicate 16 0))
    (atEntry State.reset .template 31)).fmt.templates.read 31).fields = [] := by decide +kernel

theorem test_write_palette_is_staged : (after (.writeEntryStaged 1 [1, 2, 3]) (atEntry State.reset .palette 15)).dir.staging =
    [{ kind := 0x31, tag := 1, mark := .current, body := .writePalette 15 { red := 1, green := 2, blue := 3 } }] := by
  decide +kernel

theorem test_read_entries_at_palette : (after (.readEntries 1 [1]) (atEntry State.reset .palette 15)).rep.queue =
    [Report.status, .entryData .palette 15 [255, 255, 255]] := by decide +kernel

theorem test_request_status_once : (after (.requestStatus 1 []) (lane [.status] [] 1 .chainSide)).rep.queue = [.status] := by
  decide +kernel

/-- Section 2.10, fourth row. -/
theorem test_mask_enables_a_set_flag :
    (after (.setAttentionMask 1 [0, 0x41]) (lane [.alert 1 .opened .few 5] [] 0x40 .chainSide)).rep.queue =
      [.alert 1 .opened .few 5, .status] := by decide +kernel

theorem test_set_cursor : (after (.setCursor 1 [12, 159]) State.reset).dir.cursor = { table := .tile, index := some 159 } := by
  decide +kernel

theorem test_span_is_held : (after (.span 1 [11]) State.reset).dir.span = some 11 := by decide +kernel

/-- The range from D10 with a held span of 3 goes round to D1. -/
theorem test_display_mode_takes_the_held_span :
    (after (.setDisplayMode 1 [0x0A, 2]) (after (.span 1 [3]) State.reset)).dir.staging.map Staged.body =
      [.displayMode [10, 11, 0, 1] .dark] := by decide +kernel

theorem test_select_layout : (after (.selectLayout 1 [0x01, 15]) State.reset).dir.staging.map Staged.body =
    [.selectLayout [1] 15] := by decide +kernel

theorem test_select_program : (after (.selectProgram 1 [0x10, 3]) State.reset).dir.staging.map Staged.body =
    [.selectProgram [0, 1] .d] := by decide +kernel

theorem test_set_display_masks : (after (.setDisplayMasks 1 [0x02, 15, 1]) State.reset).dir.staging.map Staged.body =
    [.displayMasks [2] 15 1] := by decide +kernel

/-! ### Notices and chimes (chapter 6) -/

/-- A fragment 0 of 2 codes for D0, HOUSE, strikes 0, no slot. -/
def fragment (id packed : Byte) : List Byte := [0, id, packed, 0, 0, 0x10, 0xFF, 2, 72, 73] ++ List.replicate 30 0

/-- Section 6.9, step 2: a full queue with a HOUSE tail takes a DESK notice. -/
theorem test_post_evicts_the_tail :
    let t := after (.postNoticeFragment0 1 (fragment 96 2)) (withQueue State.reset fullQueue)
    (t.notice.queue.map Notice.id).head? = some 96 ∧ t.notice.queue.length = 32 ∧
    Report.noticeEvicted 31 .house ∈ t.rep.queue := by decide +kernel

/-- Section 6.9, step 3. -/
theorem test_post_of_the_tails_class_is_refused :
    (after (.postNoticeFragment0 1 (fragment 96 3)) (withQueue State.reset fullQueue)).dir.lastRefusal =
      some { kind := 0x20, tag := 1, reason := .queueFull } := by decide +kernel

theorem test_fragment_1_without_a_post :
    (after (.postNoticeFragment12 1 ([1, 96] ++ List.replicate 24 65)) State.reset).dir.lastRefusal =
      some { kind := 0x20, tag := 1, reason := .badField } := by decide +kernel

theorem test_withdraw : (after (.withdrawNotice 1 [5]) (withQueue State.reset [aNotice 5 .desk, aNotice 6 .house])).notice.queue =
    [aNotice 6 .house] := by decide +kernel

theorem test_lifetime_expiry : (after .lifetimeExpiry (withQueue State.reset [{ aNotice 90 .house with lifetime := 1 },
    { aNotice 91 .house with lifetime := 2 }])).notice.queue = [{ aNotice 91 .house with lifetime := 2 }] := by decide +kernel

/-- A state with chime line 1 in TONE. -/
def toneLine (p : Option Pattern) (requests : List Nat) : State :=
  let l : ChimeLine := { mode := .tone, level := false, pitch := .high, pattern := p, requests := requests }
  { State.reset with notice := { State.reset.notice with chimes := State.reset.notice.chimes.write 1 l } }

/-- Section 6.11, T1. -/
theorem test_chime_pattern_start : (after (.chimePatternStart 1) (toneLine none [1])).notice.chimes.read 1 =
    { mode := .tone, level := false, pitch := .high,
      pattern := some { strikesLeft := 1, phase := .tone, countdown := 4 }, requests := [] } := by decide +kernel

/-- Section 6.11, T7: A completes and B starts at the same tick. -/
theorem test_chime_countdown_expiry :
    (after (.chimeCountdownExpiry 1)
      (toneLine (some { strikesLeft := 1, phase := .silence, countdown := 1 }) [2, 1, 1, 3])).notice.chimes.read 1 =
      { mode := .tone, level := false, pitch := .high,
        pattern := some { strikesLeft := 2, phase := .tone, countdown := 4 }, requests := [1, 1, 3] } := by decide +kernel

/-- Section 6.11, after T15. -/
theorem test_drive_chime_line_to_level :
    ((after (.driveChimeLine 1 [1, 0, 1, 1])
      (toneLine (some { strikesLeft := 1, phase := .tone, countdown := 3 }) [1, 1, 3])).notice.chimes.read 1).drive =
      .steady true := by decide +kernel

/-! ### Tiles, pages, the lane, panels, pixels (chapters 7 to 9) -/

/-- The title of section 7.7. -/
def harbour : List Byte :=
  codes ['T', 'H', 'E', ' ', 'H', 'A', 'R', 'B', 'O', 'U', 'R', ' ', 'L', 'I', 'G', 'H', 'T', 'S']

/-- R145's examples, with the ellipsis code 126. -/
theorem test_fitting :
    fitText 126 .right 6 harbour = codes ['T', 'H', 'E', ' ', 'H', '~'] ∧ fitText 126 .left 1 harbour = codes ['T'] ∧
    fitText 126 .centre 8 (codes ['6', '0', '+']) = codes [' ', ' ', '6', '0', '+', ' ', ' ', ' '] ∧
    fitText 126 .right 4 (codes ['9']) = codes [' ', ' ', ' ', '9'] ∧ fitText 126 .left 3 [] = spaces 3 := by decide +kernel

/-- A field of a template. -/
def aField (k : FieldKind) (width : Nat) (align : Machine.Alignment) : TemplateField :=
  { kind := k, width := width, align := align, runFirst := 0, runLength := 1 }

/-- Template 4 of section 7.7. -/
def template4 : Template :=
  { pool := [32]
    fields := [aField .start 5 .left, aField .literal 1 .left, aField .title 20 .left, aField .minutes 4 .right,
      aField .seats 8 .right] }

/-- Section 7.7, the row of the show at minute 531, and the same with a clock that does not count. -/
theorem test_row_rendered :
    let src : RowSource :=
      { show? := some (aShow .boarding, aTally 62 0 0 .strict .opened .opened, { text := harbour, rating := none })
        notice := [] }
    let row (st : ClockState) := buildRow State.reset.settings (dayAt st 531 0 0).clock src template4 40
    let ends := spaces 5 ++ codes ['6', '0', '+'] ++ spaces 2
    row .running = codes ['1', '9', ':', '0', '0', ' '] ++ harbour ++ spaces 5 ++ codes ['9'] ++ ends ∧
    row .lost = codes ['1', '9', ':', '0', '0', ' '] ++ harbour ++ spaces 6 ++ ends := by decide +kernel

/-- The hypotheses of FittedTexts: a clock that counts and one that does not; a row with a show and one without; each band
and state that has a word; a text below, at and past its width, and past a width of 1; fields below and past the row width. -/
theorem witness_FittedTexts :
    let words (st : ShowState) (b : Band) : List (List Byte) :=
      [FieldKind.bandword, .state, .badges, .rating].map fun k => fieldText State.reset.settings (dayAt .running 531 0 0).clock
        { show? := some ({ aShow st with badges := [65, 66] }, aTally 62 0 0 .strict b b, { text := [], rating := some 67 })
          notice := [] } [] (aField k 8 .left)
    (dayAt .holdover 0 0 0).clock.state.counts = true ∧ (dayAt .lost 0 0 0).clock.state.counts = false ∧
    (words .boarding .few).map List.length = [8, 8, 3, 1] ∧ (words .started .soldOut).map List.length = [8, 11, 3, 1] ∧
    (words .retired .opened).map List.length = [0, 0, 3, 1] ∧ (words .listed .filling).map List.length = [7, 0, 3, 1] ∧
    fieldText State.reset.settings State.reset.clock { show? := none, notice := [72] } [] (aField .start 8 .left) = [] ∧
    (fitText 126 .left 1 [72, 73] = [72] ∧ fitText 126 .left 2 [72, 73] = [72, 73] ∧ fitText 126 .left 3 [72, 73] = [72, 73, 32]) ∧
    buildRow State.reset.settings State.reset.clock { show? := none, notice := [72, 73] }
      { fields := [aField .notice 2 .left, aField .clock 1 .left], pool := [] } 2 = [72, 73] := by decide +kernel

/-- A state with tile 5 in the render queue or in the engine. -/
def rendering (q : List TileNo) (e : Option Render) (st : TileState) : State :=
  { State.reset with fmt := { State.reset.fmt with
      tiles := State.reset.fmt.tiles.write 5 { Tile.reset with state := st }, queue := q, engine := e } }

theorem test_render_start : (after .renderStart (rendering [5] none .queued)).fmt.engine = some { tile := 5, text := [] } := by
  decide +kernel

theorem test_render_completion :
    (after .renderCompletion (rendering [] (some { tile := 5, text := [72] }) .rendering)).fmt.tiles.read 5 =
      { Tile.reset with state := .clean, pendingText := [72], ready := true } := by decide +kernel

/-- A state with the page state of layout 0, region 0, and its effective period 3. -/
def paged (p : PageState) : State :=
  { State.reset with comp := { State.reset.comp with
      pages := State.reset.comp.pages.write 0 p
      regions := State.reset.comp.regions.write 0 { Region.reset with kind := .listing, height := 4, k4 := 3 } } }

theorem test_page_turn_goes_round :
    ((after (.pageTurn 0 0) (paged { active := true, index := 2, count := 3, countdown := 1 })).page 0 0).index = 0 := by
  decide +kernel

/-- A state whose display 0 steps through three notices. -/
def ticking (current : Byte) : State :=
  let s := withQueue State.reset [aNotice 7 .desk, aNotice 8 .desk, aNotice 9 .house]
  { s with comp := { s.comp with
      tickers := s.comp.tickers.write 0 { running := true, classes := 15, current := some current, countdown := 1 } } }

theorem test_ticker_step : ((after (.tickerStep 0) (ticking 8)).comp.tickers.read 0).current = some 9 ∧
    ((after (.tickerStep 0) (ticking 9)).comp.tickers.read 0).current = some 7 := by decide +kernel

/-- Section 2.10: a contested completion grants the side that did not win the last contest. -/
theorem test_contested_completion :
    (after .transmissionCompletion (lane [.alert 1 .opened .few 5, .status] [[1], [2]] 0x40 .chainSide)).rep.queue =
      [.status] ∧
    (after .transmissionCompletion (lane [.status] [[1], [2]] 0x40 .localSide)).rep.chain = [[2]] := by decide +kernel

theorem test_chain_packet_joins : (after (.chainPacketArrival [9]) (lane [] [[1]] 0 .chainSide)).rep.chain = [[1], [9]] := by
  decide +kernel

theorem test_upstream_ready_and_withdrawal :
    (after .upstreamReadyWithdrawal (lane [] [] 0 .chainSide)).rep.upstreamReady = false ∧
    (after .upstreamReady (after .upstreamReadyWithdrawal (lane [] [] 0 .chainSide))).rep.upstreamReady = true := by
  decide +kernel

theorem test_panel_attachment_and_removal :
    ((after (.panelAttachment 4) State.reset).display 4).panelPresent = true ∧
    ((after (.panelRemoval 4) (after (.panelAttachment 4) State.reset)).display 4).panelPresent = false := by decide +kernel

/-- A display of an untouched compositor shows its backdrop, which is black. -/
theorem test_live_display_shows_the_backdrop : State.reset.pixel none 0 0 0 = Colour.black := by decide +kernel

/-- Glyph images keep their bits: row 0 carries its twelve pixels in one and a half bytes, the leftmost first. -/
theorem test_glyph_image :
    ((glyphOfImage ([0xF0, 0x0A] ++ List.replicate 34 0)).read 0).getMsbD 0 = true ∧
    ((glyphOfImage ([0xF0, 0x0A] ++ List.replicate 34 0)).read 0).getMsbD 4 = false := by decide +kernel

/-! ### Witnesses: the hypotheses of the statements are met -/

/-- A state in use: the show BOARDING with its notice, a staged directive, a tile rendering, a RECONCILE tally in balance, and
a second tick in front of the queue. -/
def inUse : State :=
  let s := withShow (dayAt .running 530 0 3) { aShow .boarding with announce := true }
    (aTally 65 0 (-175) .reconcile .filling .opened)
  { s with
    dir := { s.dir with staging := [{ kind := 0x40, tag := 1, mark := .closed, body := .displayMode [2] .attract }] }
    notice := { s.notice with queue := [{ aNotice (boardingId 40) .show with linked := some 40 }] }
    fmt := { s.fmt with
      tiles := s.fmt.tiles.write 5 { Tile.reset with state := .rendering }
      engine := some { tile := 5, text := [] } }
    pending := [.secondTick .clockNoticesCompositor] }

theorem inUse_steps : ∃ t, step inUse = .next t := ⟨_, rfl⟩

theorem witness_StepRunsFrontCommand : State.reset.pending = [] := rfl

/-- The state after reset with the lane idle, the upstream ready given, the BAND flag set and nothing waiting. -/
def idleReady (mask : BitVec 14) : State :=
  { State.reset with rep := { State.reset.rep with flags := 0x40, queue := [], mask := mask, upstreamReady := true } }

theorem witness_RestartValues : (lane [] [] 0 .chainSide).rep.Quiet ∧
    AttentionFlag.restarted.isIn (idleReady 0).rep.mask = false ∧ (idleReady 1).rep.lane = .idle ∧
    (idleReady 1).rep.upstreamReady = true ∧ AttentionFlag.restarted.isIn (idleReady 1).rep.mask = true :=
  ⟨(fun h => by cases h), by decide +kernel⟩

theorem witness_FeedStaysCoherent : inUse.feed.Coherent ∧ ∃ t, step inUse = .next t :=
  ⟨by constructor <;> first | decide | (intro _ _ h; cases h), inUse_steps⟩

theorem witness_DirectiveUnitStaysInRange : inUse.dir.InRange ∧ ∃ t, step inUse = .next t :=
  ⟨⟨by decide, (fun i h => by cases h; decide), (fun _ h => by cases h), by decide⟩, inUse_steps⟩

theorem witness_ReportsStayCoherent : inUse.rep.Coherent ∧ ∃ t, step inUse = .next t :=
  ⟨by constructor <;> decide +kernel, inUse_steps⟩

theorem witness_ClockStaysInRange : inUse.clock.InRange ∧ ∃ t, step inUse = .next t :=
  ⟨by constructor <;> decide, inUse_steps⟩

theorem witness_ListingStaysOrdered : inUse.board.Ordered ∧ ∃ t, step inUse = .next t :=
  ⟨by constructor <;> decide +kernel, inUse_steps⟩

theorem witness_NoClashArises : inUse.board.NoClash ∧ ∃ t, step inUse = .next t := by
  have one : ∀ x : Slot, (inUse.board.shows.read x).state ≠ .vacant → x = 40 := by decide +kernel
  exact ⟨fun x y ne hx _ hy _ _ => absurd ((one x hx).trans (one y hy).symm) ne, inUse_steps⟩

theorem witness_TalliesStayFit : inUse.TalliesFit ∧ ∃ t, step inUse = .next t := by
  have other : ∀ x : Slot, x ≠ 40 → (inUse.showOf x).state = .vacant ∧ inUse.tallyOf x = Tally.zeroed := by decide +kernel
  have here : (inUse.showOf 40).state ≠ .vacant ∧ (1 ≤ (inUse.showOf 40).capacity ∧ (inUse.showOf 40).capacity ≤ 999) := by
    decide +kernel
  refine ⟨fun x => ?_, inUse_steps⟩
  by_cases e : x = 40
  · subst e
    rw [if_neg here.1]
    exact ⟨here.2, by constructor <;> decide +kernel⟩
  · rw [if_pos (other x e).1]
    exact (other x e).2

theorem witness_NoticesStayFit : inUse.NoticesFit ∧ ∃ t, step inUse = .next t := by
  refine ⟨⟨by constructor <;> decide, ⟨fun x h => ?_, (fun _ h => by cases h)⟩⟩, inUse_steps⟩
  have only : ∀ x : Slot, (∃ n ∈ inUse.notice.queue, n.id = boardingId x) → (inUse.showOf x).state = .boarding := by
    decide +kernel
  exact only x h

theorem witness_RendersStayCoherent : inUse.fmt.Coherent ∧ ∃ t, step inUse = .next t := by
  have five : ∀ t : TileNo, (inUse.fmt.tiles.read t).state = .rendering ↔ t = 5 := by decide +kernel
  refine ⟨⟨by decide, by decide, by decide +kernel, fun t => ?_, (fun h => by cases h)⟩, inUse_steps⟩
  rw [five]
  exact ⟨fun e => ⟨_, rfl, e.symm⟩, fun ⟨r, h, e⟩ => by cases h; exact e.symm⟩

theorem witness_RangesStayFit : inUse.comp.RangesFit ∧ ∃ t, step inUse = .next t := by
  have all : ∀ l : LayoutNo, inUse.comp.inBounds l = true ∧ (inUse.comp.selected l = true → l = 0) := by decide +kernel
  exact ⟨⟨fun l => (all l).1, fun l m ne hl hm => absurd (((all l).2 hl).trans ((all m).2 hm).symm) ne⟩, inUse_steps⟩

theorem witness_PagesStayFit :
    let s := { paged { active := true, index := 2, count := 3, countdown := 1 } with pending := [.pageTurn 0 0] }
    s.comp.PagesFit ∧ ∃ t, step s = .next t :=
  ⟨by
    have all : ∀ i : Fin 128,
        let p := (paged { active := true, index := 2, count := 3, countdown := 1 }).comp.pages.read i
        p.active = true → p.index < p.count := by decide +kernel
    exact all, _, rfl⟩

theorem witness_ModesStayLegal : inUse.ModesLegal ∧ ∃ t, step inUse = .next t := by
  refine ⟨⟨by decide +kernel, fun x hx ds m e => ?_⟩, inUse_steps⟩
  have : x = { kind := 0x40, tag := 1, mark := .closed, body := .displayMode [2] .attract } := by
    simpa [inUse] using hx
  subst this
  cases e
  decide

theorem witness_RecordsStayInRange : inUse.RecordsFit ∧ ∃ t, step inUse = .next t := by
  have others : ∀ x : Slot, x ≠ 40 → (inUse.showOf x).state = .vacant ∧ inUse.showOf x = Show.vacant := by decide +kernel
  have titles : ∀ i : Fin 64, inUse.board.titles.read i = { text := [], rating := none } := by decide +kernel
  have lines : ∀ i : Fin 2, inUse.notice.chimes.read i = ChimeLine.reset := by decide +kernel
  have templates : ∀ i : Fin 32, inUse.fmt.templates.read i = { fields := [], pool := [] } := by decide +kernel
  have layouts : ∀ l : LayoutNo, inUse.comp.layouts.read l = { tileBase := 0, regionCount := 0 } := by decide +kernel
  have regions : ∀ i : Fin 128, inUse.comp.regions.read i = Region.reset := by decide +kernel
  refine ⟨⟨by constructor <;> decide, fun x => ?_, fun i => ?_, fun i => ?_, fun l => ?_, fun i => ?_, fun x h => ?_,
    ⟨by decide +kernel, fun _ h => by cases h; decide⟩, fun n h => ?_, (fun _ h => by cases h), fun i => ?_,
    by decide +kernel⟩, inUse_steps⟩
  · unfold Show.Fits
    by_cases e : x = 40
    · subst e
      rw [if_neg (by decide +kernel)]
      constructor <;> decide +kernel
    · rw [if_pos (others x e).1]; exact (others x e).2
  · rw [titles]; constructor <;> decide
  · rw [templates]; constructor <;> decide
  · rw [layouts]; constructor <;> decide
  · rw [regions]; constructor <;> decide
  · have : x = { kind := 0x40, tag := 1, mark := .closed, body := .displayMode [2] .attract } := by simpa [inUse] using h
    subst this
    trivial
  · have : n = { aNotice (boardingId 40) .show with linked := some 40 } := by simpa [inUse] using h
    subst this
    exact ⟨by constructor <;> decide, by decide⟩
  · rw [lines]; exact ⟨by decide, by decide, by decide, fun _ h => by cases h⟩

/-- The state in use meets every invariant. -/
theorem inUse_safe : inUse.Safe where
  feed := witness_FeedStaysCoherent.1
  dir := witness_DirectiveUnitStaysInRange.1
  reports := witness_ReportsStayCoherent.1
  clock := witness_ClockStaysInRange.1
  ordered := witness_ListingStaysOrdered.1
  clashes := witness_NoClashArises.1
  tallies := witness_TalliesStayFit.1
  notices := witness_NoticesStayFit.1
  renders := witness_RendersStayCoherent.1
  ranges := witness_RangesStayFit.1
  pages := by
    have none : ∀ i : Fin 128, (inUse.comp.pages.read i).active = false := by decide +kernel
    exact fun i h => by rw [none i] at h; cases h
  modes := witness_ModesStayLegal.1
  records := witness_RecordsStayInRange.1

theorem witness_ShowsMoveForward : (∃ t, step inUse = .next t) ∧ (inUse.showOf 40).state ≠ .vacant :=
  ⟨inUse_steps, by decide +kernel⟩

/-- The show STARTED with its sales closed, and a SALE in front of the queue. -/
def closedSales : State :=
  { withShow (dayAt .running 551 0 3) { aShow .started with salesClosed := true }
      (aTally 65 0 (-175) .reconcile .filling .opened) with pending := [.sale 1 [3, 1, 40, 0xE7]] }

theorem witness_ClosedSalesFreezeTally : (∃ t, step closedSales = .next t) ∧
    (closedSales.showOf 40).salesClosed = true ∧ (closedSales.showOf 40).state = .started :=
  ⟨⟨_, rfl⟩, by decide +kernel, by decide +kernel⟩

/-- A state outside LOCKED with a ready tile, whose next frame is the flywheel's. -/
def readyTile : State :=
  { State.reset with fmt := { State.reset.fmt with
      tiles := State.reset.fmt.tiles.write 5 { Tile.reset with state := .clean, pendingText := [72], ready := true } } }

theorem flywheel_starts_output (b : Bool) : readyTile.startsOutput (.flywheelFrameStart b) :=
  .inl ⟨b, rfl, by decide, fun _ => ⟨(fun h => by cases h), (fun h => by cases h)⟩⟩

theorem witness_CommittedTextChangesAtFrameStarts :
    runs (.flywheelFrameStart true) readyTile = true ∧
    ((after (.flywheelFrameStart true) readyTile).fmt.tiles.read 5).committed ≠ (readyTile.fmt.tiles.read 5).committed := by
  decide +kernel

theorem witness_TakeoverFollowsNotices : readyTile.ModesLegal ∧ readyTile.startsOutput (.flywheelFrameStart true) :=
  ⟨⟨by decide +kernel, by intro x h; cases h⟩, flywheel_starts_output true⟩

theorem witness_LockLosses : State.reset.feed.lock = .noSignal ∧
    (feedAt .search .absent .between 0 0 .closed).feed.lock ≠ .noSignal ∧
    (feedAt .search .absent .between 0 0 .closed).feed.lock ≠ .locked ∧
    (feedAt .locked .absent .between 0 0 .closed).feed.lock = .locked := by decide

theorem witness_SearchAndLock_completion :
    let s := feedAt .search .complete .between 0 1080 .closed
    s.feed.lock = .search ∧ s.feed.candidate = .complete ∧ (5 : Byte) = s.feed.record.count + 1 ∧
    (6 : Byte) ≠ s.feed.record.count + 1 := by decide

theorem witness_SearchAndLock_candidate :
    let s (c : Candidate) (n k : Nat) := feedAt .search c .margin n k .closed
    (s .absent 0 0).feed.lock = .search ∧ (s .absent 0 0).feed.candidate = .absent ∧
    (s .following 23 1080).feed.candidate = .following ∧ (s .following 23 1080).feed.record.lineGroups = 1080 ∧
    (s .following 24 1079).feed.record.lineGroups ≠ 1080 ∧ (s .following 23 0).feed.record.phase = .margin ∧
    (s .following 23 0).feed.record.marginPackets < 24 ∧ 24 ≤ (s .following 24 0).feed.record.marginPackets ∧
    (s .complete 0 0).feed.candidate ≠ .following := by decide

theorem witness_MalformedInLocked :
    let s := feedAt .locked .absent .margin 24 0 (.feed 0)
    s.feed.lock = .locked ∧ s.feed.record.phase ≠ .between ∧ s.feed.record.lineGroups ≠ 1080 ∧
    s.feed.record.phase = .margin ∧ 24 ≤ s.feed.record.marginPackets := by decide

theorem witness_LockedFrame :
    let s (p : FramePhase) (k : Nat) := feedAt .locked .absent p 0 k (.feed (min k 1080))
    (s .active 1079).feed.lock = .locked ∧ (s .active 1079).feed.record.phase ≠ .between ∧
    (s .active 1079).feed.record.lineGroups < 1080 ∧ 1080 ≤ (s .active 1080).feed.record.lineGroups ∧
    (s .active 1080).feed.record.lineGroups = 1080 ∧
    ((s .between 1080).feed.lock = .locked ∧ (s .between 1080).feed.record.phase = .between) ∧
    (s .active 1080).feed.record.phase ≠ .margin := by decide

theorem witness_FlywheelFrames : readyTile.startsOutput (.flywheelFrameStart true) ∧
    (∀ b, ¬ (feedAt .locked .absent .between 0 0 .closed).startsOutput (.flywheelFrameStart b)) ∧
    (feedAt .search .absent .between 0 0 (.flywheel 1079)).feed.output = .flywheel 1079 ∧
    (feedAt .search .absent .between 0 0 (.completing 1079)).feed.output = .completing 1079 ∧
    State.reset.feed.output = .closed :=
  ⟨flywheel_starts_output true,
   fun _ h => by rcases h with ⟨_, _, h, _⟩ | ⟨_, _, _, h, _⟩; exacts [h rfl, by cases h],
   rfl, rfl, by decide⟩

/-- A state that takes margin packets. -/
def margin : State := feedAt .locked .absent .margin 23 0 (.feed 0)

theorem witness_MarginPackets_check :
    margin.feed.lock = .locked ∧ margin.feed.record.phase = .margin ∧ margin.feed.record.marginPackets < 24 ∧
    byteSum [0x5C, 15, 0x10, 7, 0, 0] ≠ 0 ∧
    (byteSum [0x5C, 3, 0x10, 7, 0, 0x8A] = 0 ∧ (3 : Byte).toNat ≠ margin.feed.identity.val ∧ (3 : Byte).toNat ≠ 15) ∧
    byteSum [0x5C, 15, 0x77, 7, 0, 0x17] = 0 ∧ DirectiveKind.ofCode 0x77 = none := by decide +kernel

theorem witness_MarginPackets_command :
    margin.feed.lock = .locked ∧ margin.feed.record.phase = .margin ∧ margin.feed.record.marginPackets < 24 ∧
    (15 : Byte).toNat = 15 ∧ ([3, 1, 40, 0xE7] : List Byte).length ≤ 40 ∧
    byteSum ([0x5C, 15, DirectiveKind.sale.code, 7, BitVec.ofNat 8 4] ++ [3, 1, 40, 0xE7] ++ [0x67]) = 0 := by decide +kernel

theorem witness_DecodingRefuses : DirectiveKind.sale.payloadLength = some 4 ∧ ([3] : List Byte).length ≠ 4 ∧
    ({ table := .show, index := none } : Cursor).index = none ∧
    (atEntry State.reset .tile 159).dir.cursor.table ∈ [TableName.desk, .notice, .display, .tile] ∧
    (atEntry State.reset .show 95).dir.cursor.table ∉ [TableName.desk, .notice, .display, .tile] ∧
    ([1, 2] : List Byte).length ≠ (atEntry State.reset .show 95).dir.cursor.table.imageLength ∧
    (([0] : List Byte).head? = some 0 ∧ ([0] : List Byte).length ≠ 40) := by decide +kernel

theorem witness_CursorAndSpan : TableName.ofCode (12 : Byte).toNat = some .tile ∧ (159 : Byte).toNat < TableName.tile.entries ∧
    12 < (13 : Byte).toNat ∧ TableName.tile.entries ≤ (160 : Byte).toNat ∧ 11 < (12 : Byte).toNat := by decide

theorem witness_StagedDirectives :
    (0x3B : Byte).toNat % 16 ≤ 11 ∧ (0x3B : Byte).toNat / 16 ≤ 3 ∧ State.reset.dir.staging.length < 8 ∧
    DisplayMode.ofDirectiveCode (2 : Byte).toNat = some .dark ∧ Lane.ofCode (3 : Byte).toNat = some .d ∧
    (15 : Byte).toNat < 16 ∧
    8 ≤ (List.replicate 8 ({ kind := 0x42, tag := 0, mark := .current, body := .selectProgram [0] .a } : Staged)).length ∧
    11 < (0x0C : Byte).toNat % 16 ∧ 3 < (0x40 : Byte).toNat / 16 ∧ 2 < (3 : Byte).toNat ∧ 15 < (16 : Byte).toNat ∧
    4 < (5 : Byte).toNat := by decide

/-- A REGION image in the last cell, its fields at their greatest values, with a kind code and a byte at offset 11. -/
def regionImg (kind started : Byte) : List Byte := [kind, 79, 44, 1, 1, 15, 15, 31, 15, 1, 24, started, 60]

theorem witness_StagedWrites :
    let s (t : TableName) (i : Nat) := atEntry State.reset t i
    (s .layout 15).dir.staging.length < 8 ∧ (s .layout 15).dir.cursor = { table := .layout, index := some 15 } ∧
    (s .region 127).dir.cursor = { table := .region, index := some 127 } ∧
    (s .palette 15).dir.cursor = { table := .palette, index := some 15 } ∧
    (s .glyph 255).dir.cursor = { table := .glyph, index := some 255 } ∧
    (147 : Byte).toNat ≤ 147 ∧ (8 : Byte).toNat ≤ 8 ∧ 147 < (148 : Byte).toNat ∧ 8 < (9 : Byte).toNat ∧
    (regionImg 1 1).length = 13 ∧ (regionOfImage (regionImg 1 1)).isSome = true ∧
    (regionOfImage (regionImg 1 2)).isSome = false ∧ (List.replicate 36 (0 : Byte)).length = 36 := by
  decide +kernel

theorem witness_StagedWrites_regions :
    ¬ BadRegionImage (regionImg 1 1) ∧ BadRegionImage (regionImg 6 0) ∧ BadRegionImage (regionImg 1 2) := by
  simp [BadRegionImage, regionImg, imageByte]

/-- A state with directives that are handed over at its next output frame start. -/
def handing (s : State) (bodies : List StagedBody) : State :=
  { s with dir := { s.dir with
      staging := bodies.map fun body => { kind := 0x31, tag := 1, mark := .closed, body := body } } }

/-- Outside LOCKED, with no frame of the feed in progress, a flywheel frame start opens an output frame; directives that
are not SET DISPLAY MODE keep the modes legal. -/
theorem handing_starts (s : State) (bodies : List StagedBody) (lock : s.feed.lock ≠ .locked)
    (output : s.feed.output = .closed) (saved : ∀ d : DisplayNo, (s.display d).saved ≠ .takeover)
    (plain : ∀ b ∈ bodies, ∀ ds m, b = .displayMode ds m → m ≠ .takeover) :
    (handing s bodies).startsOutput (.flywheelFrameStart true) ∧ (handing s bodies).ModesLegal ∧
    (handing s bodies).handedOver = (handing s bodies).dir.staging := by
  refine ⟨.inl ⟨true, rfl, lock, fun k => ?_⟩, ⟨saved, fun x hx ds m e => ?_⟩, ?_⟩
  · have : (handing s bodies).feed.output = .closed := output
    rw [this]
    exact ⟨(fun h => by cases h), (fun h => by cases h)⟩
  · obtain ⟨b, hb, rfl⟩ := List.mem_map.1 hx
    exact plain b hb ds m e
  · simp [State.handedOver, handing]

theorem witness_StagedApplied :
    let s := handing readyTile [.displayMode [2] .attract]
    s.startsOutput (.flywheelFrameStart true) ∧ s.ModesLegal ∧
    s.handedOver = [{ kind := 0x31, tag := 1, mark := .closed, body := .displayMode [2] .attract }] :=
  handing_starts readyTile _ (by decide) rfl (by decide +kernel) fun b hb ds m e => by
    rw [List.mem_singleton.1 hb] at e; cases e; decide

/-- Two directives, a SELECT LAYOUT of two displays the first of them. -/
theorem witness_StagedApplied_several :
    let s := handing readyTile [.selectLayout [0, 1] 3, .writePalette 15 Colour.black]
    s.startsOutput (.flywheelFrameStart true) ∧ s.ModesLegal ∧ s.handedOver.length = 2 := by
  obtain ⟨starts, legal, all⟩ := handing_starts readyTile [.selectLayout [0, 1] 3, .writePalette 15 Colour.black]
    (by decide) rfl (by decide +kernel) fun b hb ds m e => by subst e; simp at hb
  exact ⟨starts, legal, by rw [all]; rfl⟩

/-- A DARK display with a wake request, and a SELECT LAYOUT and a LAYOUT write whose tiles another display's layout has, while
no grant can be made. -/
theorem witness_StagedApplied_flags :
    let dark := { State.reset with
      notice := { State.reset.notice with wake := 4 }
      comp := { State.reset.comp with displays := State.reset.comp.displays.write 2 { State.reset.display 2 with mode := .dark } } }
    let twoRows : Region := { Region.reset with kind := .listing, width := 1, height := 2 }
    let c : Compositor := { State.reset.comp with
      layouts := State.reset.comp.layouts.write 0 { tileBase := 0, regionCount := 1 }
      regions := (State.reset.comp.regions.write 0 twoRows).write 8 twoRows
      displays := State.reset.comp.displays.write 0 { State.reset.display 0 with layout := 1 } }
    let c' : Compositor := { c with layouts := c.layouts.write 1 { tileBase := 1, regionCount := 1 } }
    dark.rep.Quiet ∧ (takeoverNotice dark.notice.queue 2).isSome = false ∧ (dark.display 2).mode = .dark ∧
    dark.notice.wake.getLsbD (2 : DisplayNo).val = true ∧
    c.writePasses 0 = true ∧ c'.writePasses 1 = false ∧ c'.selectionMeets 2 1 = true := by
  refine ⟨fun _ => rfl, ?_⟩
  decide +kernel

theorem witness_ReadEntriesReports :
    let s := { atEntry State.reset .palette 8 with rep := (lane [] [] 0 .chainSide).rep }
    s.dir.cursor.index = some 8 ∧ 1 ≤ (8 : Byte).toNat ∧ (8 : Byte).toNat ≤ 8 ∧ s.rep.Quiet ∧
    8 + (8 : Byte).toNat ≤ s.dir.cursor.table.entries ∧ s.rep.queue.length + (8 : Byte).toNat ≤ 16 ∧
    8 < (9 : Byte).toNat ∧ ({ table := .palette, index := none } : Cursor).index = none :=
  ⟨rfl, by decide, by decide, (fun h => by cases h), by decide⟩

/-- A read that stops at "end" after one entry, one that stops at a full queue, and one whose first report is granted. -/
theorem witness_ReadEntriesReports_stops :
    let full := (lane (List.replicate 12 (.alert 1 .opened .few 5)) [] 0 .chainSide).rep
    min (8 : Byte).toNat (TableName.palette.entries - 15) = 1 ∧ 16 - full.queue.length < (8 : Byte).toNat ∧ full.Quiet ∧
    (idleReady 1).rep.lane = .idle ∧ (idleReady 1).rep.upstreamReady = true ∧ (idleReady 1).rep.queue = [] ∧
    (idleReady 1).rep.chain = [] ∧ (idleReady 1).rep.owed = false :=
  ⟨by decide, by decide, (fun h => by cases h), by decide⟩

theorem witness_MaskReplaced : 16384 ≤ half 0x40 0 ∧ half 0x3F 0xFF < 16384 ∧ (lane [] [] 0x40 .chainSide).rep.Quiet ∧
    (AttentionFlag.band.isIn (BitVec.ofNat 14 (half 0 0x41)) = true ∧
      AttentionFlag.band.isIn (lane [] [] 0x40 .chainSide).rep.mask = false ∧
      AttentionFlag.band.isIn (lane [] [] 0x40 .chainSide).rep.flags = true) ∧
    Report.status ∉ (lane [] [] 0x40 .chainSide).rep.queue ∧
    16 ≤ (lane (List.replicate 16 (.alert 1 .opened .few 5)) [] 0x40 .chainSide).rep.queue.length :=
  ⟨by decide, by decide, (fun h => by cases h), by decide +kernel⟩

theorem witness_MaskReplaced_idle :
    AttentionFlag.band.isIn (BitVec.ofNat 14 (half 0 0x41)) = true ∧ AttentionFlag.band.isIn (idleReady 1).rep.mask = false ∧
    AttentionFlag.band.isIn (idleReady 1).rep.flags = true ∧ (idleReady 1).rep.queue = [] ∧ (idleReady 1).rep.chain = [] ∧
    (idleReady 1).rep.lane = .idle ∧ (idleReady 1).rep.upstreamReady = true := by decide +kernel

theorem witness_LaneEvents :
    (lane [.status] [[1]] 0 .chainSide).rep.lane = .sending [1] ∧ (lane [.status] [[1]] 0 .chainSide).rep.upstreamReady = true ∧
    (after .upstreamReadyWithdrawal (lane [] [] 0 .chainSide)).rep.upstreamReady = false ∧
    State.reset.rep.lane = .idle ∧ (lane [] [[1], [2], [3]] 0 .chainSide).rep.chain.length < 4 ∧
    (lane [] [[1], [2], [3]] 0 .chainSide).rep.Quiet ∧
    (after .transmissionCompletion (lane [] [] 0 .chainSide)).rep.lane = .idle ∧
    (after .transmissionCompletion (lane [] [] 0 .chainSide)).rep.upstreamReady = true :=
  ⟨rfl, rfl, rfl, by decide, by decide, (fun h => by cases h), by decide +kernel, by decide +kernel⟩

theorem witness_StatusReports : Report.status ∈ (lane [.status] [] 0 .chainSide).rep.queue ∧
    Report.status ∉ (lane [] [] 0 .chainSide).rep.queue ∧ (lane [] [] 0 .chainSide).rep.Quiet ∧
    16 ≤ (lane (List.replicate 16 (.alert 1 .opened .few 5)) [] 0 .chainSide).rep.queue.length ∧
    ((idleReady 1).rep.queue = [] ∧ (idleReady 1).rep.chain = [] ∧ (idleReady 1).rep.lane = .idle ∧
      (idleReady 1).rep.upstreamReady = true) :=
  ⟨by decide +kernel, by decide +kernel, (fun h => by cases h), by decide⟩

theorem witness_StatusReports_payload : inUse.feed.Coherent ∧ inUse.dir.InRange ∧ inUse.clock.InRange ∧ inUse.fmt.Coherent ∧
    NoticesOrdered inUse.notice.queue :=
  ⟨inUse_safe.feed, inUse_safe.dir, inUse_safe.clock, inUse_safe.renders, inUse_safe.notices.1⟩

/-- A TITLE image of a text of one code with a rating. -/
def titleImg (length present rating code : Byte) : List Byte := [length, present, rating, code] ++ List.replicate 31 0

/-- A TEMPLATE image of one field, with a pool of two codes. -/
def templateImg (kind width run : Byte) : List Byte :=
  [kind, width, run] ++ (List.replicate 7 [0xFF, 0, 0]).flatten ++ [72, 73] ++ List.replicate 14 0

/-- A SETTINGS image with a cadence, a dwell and a palette index at the end. -/
def settingsImg (cadence dwell colour : Byte) : List Byte :=
  [cadence, 1, 5, 0x9F, 0, 9, 3, 99, 99, 3, 0xE7, 100, 126, dwell, 0, 15, 1, 15, colour]

/-- A TALLY image with a remaining, a clip, a net and bits. -/
def tallyImg (remaining clip net1 net0 bits : Byte) : List Byte := [0, remaining, clip, net1, net0, 1, bits, 3, 3, 4]

/-- Images at the ends of the ranges, and one past each. -/
theorem witness_EntryImages_title : (titleImg 1 1 80 72).length = 35 ∧ ¬ BadTitleImage (titleImg 1 1 80 72) ∧
    BadTitleImage (titleImg 33 0 0 72) ∧ BadTitleImage (titleImg 1 1 0 72) ∧ BadTitleImage (titleImg 2 0 0 72) := by
  unfold BadTitleImage
  decide +kernel

theorem witness_EntryImages_template :
    (templateImg 0x2C 160 0x10).length = 40 ∧ ¬ BadTemplateImage (templateImg 0x2C 160 0x10) ∧
    BadTemplateImage (templateImg 0x2C 160 0x11) ∧ BadTemplateImage (templateImg 0x0D 1 0) ∧
    BadTemplateImage (templateImg 0x30 1 0) ∧ BadTemplateImage (templateImg 0 161 0) := by
  unfold BadTemplateImage
  decide +kernel

theorem witness_EntryImages_settings :
    (settingsImg 60 30 15).length = 19 ∧ ¬ BadSettingsImage (settingsImg 60 30 15) ∧
    BadSettingsImage (settingsImg 61 30 15) ∧ BadSettingsImage (settingsImg 60 31 15) ∧
    BadSettingsImage (settingsImg 60 30 16) := by
  refine ⟨rfl, ?_, ?_, ?_, ?_⟩ <;> unfold BadSettingsImage <;> decide +kernel

theorem witness_EntryImages_tally :
    (tallyImg 240 129 0xD8 0xF1 3).length = 10 ∧ ¬ BadTallyImage 240 (tallyImg 240 129 0xD8 0xF1 3) ∧
    BadTallyImage 239 (tallyImg 240 129 0xD8 0xF1 3) ∧ BadTallyImage 240 (tallyImg 240 128 0 0 3) ∧
    BadTallyImage 240 (tallyImg 240 0 0xD8 0xF0 3) ∧ BadTallyImage 240 (tallyImg 240 0 0x27 0x10 3) ∧
    BadTallyImage 240 (tallyImg 240 0 0 0 4) := by
  unfold BadTallyImage
  decide +kernel

theorem witness_EntryImages : inUse.Safe ∧ imageByte (List.replicate 19 0) 0 = 0 ∧ imageByte (showImg 2879 7) 0 = 1 ∧
    (glyphImage (State.reset.comp.glyphs.read 0)).length = 36 := ⟨inUse_safe, by decide +kernel⟩

theorem witness_ClockDirectives_mark : half 0x0B 0x3F ≤ 2879 ∧ (59 : Byte).toNat ≤ 59 ∧ (dayAt .lost 5 0 60).clock.state ≠ .unset ∧
    (half 0x0B 0x3F = (dayAt .running 2879 0 0).clock.minute ∧ (dayAt .running 2879 0 0).clock.state ≠ .lost) ∧
    half 0x0B 0x3F ≠ (dayAt .running 2878 0 0).clock.minute ∧
    (listed.board.nextDue = some 525 ∧ 525 ≤ half 2 13 ∧ half 2 12 < 525) ∧
    State.reset.clock.state = .unset ∧ 2879 < half 0x0B 0x40 ∧ 59 < (60 : Byte).toNat := by decide +kernel

theorem witness_ClockDirectives_day : half 0x05 0x9F ≤ 1439 ∧ State.reset.clock.state = .unset ∧ 1439 < half 0x05 0xA0 ∧
    inUse.clock.state ≠ .unset ∧ inUse.board.Ordered ∧
    (∃ n ∈ inUse.notice.queue, 160 ≤ n.id.toNat) ∧
    ∀ n ∈ inUse.notice.queue, 160 ≤ n.id.toNat → n.cls = .show ∨ n.linked ≠ none :=
  ⟨by decide, by decide, by decide, by decide, witness_ListingStaysOrdered.1, by decide +kernel⟩

theorem witness_ClockCounts : inUse.clock.InRange ∧ inUse.clock.state = .running ∧ inUse.clock.minute < 2879 ∧
    (dayAt .running 5 59 9).clock.sinceMark = 9 ∧ (dayAt .holdover 5 59 59).clock.sinceMark = 59 ∧
    (dayAt .holdover 5 59 59).clock.state = .holdover ∧
    ((dayAt .running 2879 59 3).clock.minute = 2879 ∧ (dayAt .running 2879 59 3).clock.second = 59) :=
  ⟨witness_ClockStaysInRange.1, rfl, by decide, rfl, rfl, rfl, rfl, rfl⟩

theorem witness_ChimeLinesPlay : Pitch.ofCode (1 : Byte).toNat = some .high ∧
    (State.reset.notice.chimes.read 0).mode = .level ∧ ((toneLine none [2]).notice.chimes.read 1).mode = .tone ∧
    ((toneLine none [2]).notice.chimes.read 1).pattern = none ∧
    ((toneLine (some { strikesLeft := 2, phase := .silence, countdown := 1 }) []).notice.chimes.read 1).pattern =
      some { strikesLeft := 2, phase := .silence, countdown := 1 } ∧
    1 < (2 : Byte).toNat := by decide +kernel

theorem witness_ShowInserted :
    let s := atEntry (dayAt .running 559 0 0) .show 95
    s.dir.cursor = { table := .show, index := some 95 } ∧ (showImg 540 4).length = 19 ∧
    showOfImage (showImg 540 4) = some (.record (aShow .listed) .reconcile) ∧ (s.showOf 95).state = .vacant ∧
    ¬ (s.clock.state ≠ .unset ∧ 540 + 20 ≤ s.clock.minute) ∧
    ((dayAt .running 560 0 0).clock.state ≠ .unset ∧ 540 + 20 ≤ (dayAt .running 560 0 0).clock.minute) ∧
    s.board.order = [] ∧ 1 ≤ s.settings.fillingPercent := by decide +kernel

theorem witness_ShowInserted_order : (atEntry (dayAt .running 559 0 0) .show 95).board.Ordered := by
  constructor <;> decide +kernel

/-- A clash: another slot in the same auditorium at the same time. -/
theorem witness_ShowInserted_clash : (listed.showOf 40).state ≠ .vacant ∧ (listed.showOf 40).state ≠ .retired ∧
    (listed.showOf 40).auditorium = (aShow .listed).auditorium ∧
    (aShow .listed).start < (listed.showOf 40).start + (listed.showOf 40).runtime ∧
    (listed.showOf 40).start < (aShow .listed).start + (aShow .listed).runtime := by decide +kernel

theorem witness_ShowRewritten :
    let s (st : ShowState) := atEntry (withShow (dayAt .running 530 0 0) (aShow st)
      (aTally 240 0 0 .reconcile .opened .opened)) .show 40
    (s .listed).dir.cursor = { table := .show, index := some 40 } ∧ (showImg 540 4).length = 19 ∧
    showOfImage (showImg 540 4) = some (.record (aShow .listed) .reconcile) ∧ ((s .listed).showOf 40).state = .listed ∧
    ((s .boarding).showOf 40).state = .boarding ∧ ((s .started).showOf 40).state = .started ∧
    ((s .retired).showOf 40).state = .retired ∧
    (aShow .listed).capacity = ((s .boarding).showOf 40).capacity ∧ ((s .boarding).tallyOf 40).mode = .reconcile ∧
    showOfImage (showImg 541 4) ≠ some (.record (aShow .listed) .reconcile) ∧
    ((List.replicate 19 (0 : Byte)).head? = some 0 ∧ (listed.showOf 95).state = .vacant) := by decide +kernel

/-- An edit that cuts the capacity of a tally at the clip limit, one that changes the mode, and one that clashes. -/
theorem witness_ShowRewritten_edit :
    let s := atEntry (withShow (dayAt .running 530 0 0) (aShow .listed)
      (aTally 0 (-127) (-367) .reconcile .soldOut .soldOut)) .show 40
    showOfImage ((showImg 540 4).set 12 200) = some (.record { aShow .listed with capacity := 200 } .reconcile) ∧
    (200 : Int) - (s.showOf 40).capacity = -40 ∧ (s.tallyOf 40).remaining = 0 ∧ (s.tallyOf 40).clip + -40 < -127 ∧
    showOfImage (showImg 540 0) = some (.record (aShow .listed) .strict) ∧ (s.tallyOf 40).mode = .reconcile ∧
    (aShow .listed).capacity = (s.showOf 40).capacity ∧
    (let other := { s with board := { s.board with shows := s.board.shows.write 41 (aShow .listed) } }
     (other.showOf 41).state ≠ .vacant ∧ (other.showOf 41).auditorium = (aShow .listed).auditorium ∧
     (aShow .listed).start < (other.showOf 41).start + (other.showOf 41).runtime) := by decide +kernel

theorem witness_ShowRewritten_images : ((showImg 540 4).set 2 25).length = 19 ∧ BadShowImage ((showImg 540 4).set 2 25) ∧
    BadShowImage (List.replicate 19 2) ∧ ¬ BadShowImage ((showImg 2879 7).set 2 24) := by
  refine ⟨rfl, ?_, ?_, ?_⟩
  · exact .inr ⟨rfl, .inr (.inl (by decide))⟩
  · exact .inl (by decide)
  · rintro (h | ⟨-, h⟩)
    · exact absurd h (by decide)
    · revert h; decide

theorem witness_BoundaryEvaluatesShows :
    let s (m : Nat) := { listed with clock := (dayAt .holdover m 59 20).clock }
    (s 524).clock.state = .holdover ∧ (s 524).clock.minute < 2879 ∧ (s 524).board.nextDue = some 525 ∧
    525 ≤ (s 524).clock.minute + 1 ∧ (s 523).clock.minute + 1 < 525 := by decide +kernel

/-- The show with announce set, and the clock about to reach a minute. -/
def announced (st : ShowState) (minute : Nat) (q : List Notice) : State :=
  withQueue (withShow (dayAt .running minute 59 0) { aShow st with announce := true }
    (aTally 240 0 0 .reconcile .opened .opened)) q

/-- The one show comes to board, starts and retires at minutes that its due minute has reached; no other slot moves. -/
theorem witness_BoardingNotices :
    let s := announced .listed 524 []
    NoticesOrdered s.notice.queue ∧ s.clock.state = .running ∧ s.clock.minute < 2879 ∧ s.board.nextDue = some 525 ∧
    (∀ y : Slot, y ≠ 40 → (s.showOf y).state = .vacant) ∧ (s.showOf 40).state = .listed ∧ (s.showOf 40).announce = true ∧
    (540 - 15 ≤ s.clock.minute + 1 ∧ s.clock.minute + 1 < 540) ∧ (∀ n ∈ s.notice.queue, n.id ≠ BitVec.ofNat 8 (160 + 40)) ∧
    ((listed.showOf 40).announce = false ∧ (listed.showOf 40).state = .listed) := by
  refine ⟨by constructor <;> decide, ?_⟩
  decide +kernel

/-- The notice joins a queue with room, takes the place of a HOUSE tail of a full one, and finds no place where the tail is
URGENT. -/
theorem witness_BoardingNotices_places :
    let n := { aNotice (BitVec.ofNat 8 200) .show with linked := some 40 }
    (queueWith [] n).isSome = true ∧ (queueWith fullQueue n).isSome = true ∧ 32 ≤ fullQueue.length ∧
    (queueWith ((List.range 32).map fun i => aNotice (BitVec.ofNat 8 i) .urgent) n).isSome = false := by decide +kernel

theorem witness_BoardingNotices_leaves :
    let s := announced .boarding 539 [{ aNotice (BitVec.ofNat 8 200) .show with linked := some 40 }]
    (s.showOf 40).state = .boarding ∧ 540 ≤ s.clock.minute + 1 ∧ (announced .boarding 559 []).clock.minute + 1 = 540 + 20 ∧
    (atEntry s .show 40).dir.cursor = { table := .show, index := some (40 : Slot).val } ∧
    (List.replicate 19 (0 : Byte)).head? = some 0 := by decide +kernel

/-- An insert and an edit at a minute of boarding, and live edits that set, clear and keep announce. -/
theorem witness_BoardingNotices_writes :
    let image (bits : Byte) (a : Bool) :=
      showOfImage (showImg 540 bits) = some (.record { aShow .listed with announce := a } .reconcile)
    let passes (s : State) (x : Slot) (a : Bool) :=
      s.showWriteRefusal x (.record { aShow .listed with announce := a } .reconcile) = none
    image 5 true ∧ image 4 false ∧ passes (dayAt .running 530 0 0) 95 true ∧
    passes (announced .listed 530 []) 40 false ∧ (announced .boarding 530 []).clock.minute < 540 ∧
    passes (announced .boarding 530 []) 40 false ∧ ((announced .boarding 530 []).showOf 40).announce = true ∧
    (aShow .boarding).announce = false := by decide +kernel

theorem witness_BoardingNotices_text : (inUse.showOf 40).InRange ∧ ∀ i : Fin 64, (inUse.board.titles.read i).Fits := by
  have fits := witness_RecordsStayInRange.1
  refine ⟨?_, fits.titles⟩
  have show40 := fits.shows 40
  unfold Show.Fits at show40
  rwa [if_neg (by decide +kernel)] at show40

theorem witness_TablesWritten :
    (atEntry State.reset .title 63).dir.cursor = { table := .title, index := some 63 } ∧
    ([2, 0, 0, 72, 73] ++ List.replicate 30 0 : List Byte).length = 35 ∧
    (List.replicate 40 (0 : Byte)).length = 40 ∧ settingsOfImage (settingsImage State.reset.settings State.reset.clock) = some (State.reset.settings, 0, 0) ∧
    State.reset.clock.civilStart = 0 ∧ State.reset.clock.dayNumber = 0 ∧ (dayAt .running 0 0 0).clock.civilStart ≠ 0 := by
  decide +kernel

/-- The images of the tables that are taken, and one of each that is refused. -/
theorem witness_TablesWritten_images :
    ¬ BadTitleImage (titleImg 1 1 80 72) ∧ BadTitleImage (titleImg 33 0 0 72) ∧
    ¬ BadTemplateImage (templateImg 0x2C 160 0x10) ∧ BadTemplateImage (templateImg 0x0D 1 0) ∧
    ¬ BadSettingsImage (settingsImage State.reset.settings State.reset.clock) ∧
    BadSettingsImage (settingsImg 61 30 15) := by
  refine ⟨witness_EntryImages_title.2.1, witness_EntryImages_title.2.2.1, witness_EntryImages_template.2.1,
    witness_EntryImages_template.2.2.2.1, ?_, witness_EntryImages_settings.2.2.1⟩
  unfold BadSettingsImage
  decide +kernel

theorem witness_SaleApplied : (listed.tally.desks.read 15).toggle ≠ some ((1 : Fin 2) == 1) ∧ listed.clock.state ≠ .unset ∧
    (listed.showOf 40).state ≠ .vacant ∧ (listed.showOf 40).state ≠ .retired ∧ (listed.showOf 40).salesClosed = false ∧
    (lane [] [] 0 .chainSide).rep.queue.length < 15 := by decide +kernel

theorem witness_SaleChecks_desk :
    let s := after (.sale 1 [15, 1, 40, 0]) listed
    (s.tally.desks.read 15).toggle = some ((1 : Fin 2) == 1) ∧
    (s.tally.desks.read 15).toggle ≠ some ((0 : Fin 2) == 1) := by decide +kernel

theorem witness_SaleChecks_gate : State.reset.clock.state = .unset ∧ (State.reset.tally.desks.read 0).toggle ≠ some true ∧
    (listed.clock.state ≠ .unset ∧ (listed.showOf 0).state = .vacant) ∧
    (closedSales.clock.state ≠ .unset ∧ (closedSales.showOf 40).state = .started ∧
      (closedSales.showOf 40).salesClosed = true) ∧
    (listed.showOf 40).state = .listed ∧ (listed.showOf 40).salesClosed = false := by decide +kernel

theorem witness_BandsAndModes : Band.ofCode (3 : Byte).toNat = some .soldOut ∧ (listed.showOf 40).state ≠ .vacant ∧
    (listed.showOf 95).state = .vacant ∧ 95 < (96 : Byte).toNat ∧ 3 < (4 : Byte).toNat ∧
    (atEntry listed .tally 40).dir.cursor = { table := .tally, index := some 40 } ∧
    tallyOfImage 240 (tallyImage (aTally 240 0 0 .strict .opened .opened)) =
      some (aTally 240 0 0 .strict .opened .opened) ∧
    ({ aTally 240 0 0 .strict .opened .opened with mode := (listed.tallyOf 40).mode } : Tally) = listed.tallyOf 40 ∧
    (listed.showOf 40).state = .listed ∧ (closedSales.showOf 40).state = .started ∧
    ({ aTally 239 0 0 .strict .opened .opened with mode := (listed.tallyOf 40).mode } : Tally) ≠ listed.tallyOf 40 ∧
    BadTallyImage 240 (tallyImage (aTally 241 0 0 .strict .opened .opened)) ∧
    ¬ BadTallyImage 240 (tallyImage (aTally 240 0 0 .strict .opened .opened)) ∧
    (tallyImage (aTally 241 0 0 .strict .opened .opened)).length = 10 := by
  unfold BadTallyImage
  decide +kernel

theorem witness_PostPlaced : NoticesOrdered (withQueue State.reset fullQueue).notice.queue ∧
    fragment 159 2 = [0, 159, 2, 0, 0, 0x10, 0xFF, 2] ++ ([72, 73] ++ List.replicate 30 0) ∧
    ([72, 73] ++ List.replicate 30 (0 : Byte)).length = 32 ∧ (2 : Byte).toNat < 64 ∧
    NoticeClass.ofCode ((2 : Byte).toNat % 8) = some .desk ∧ half 0 0 ≤ 3600 ∧
    rangeField none 0x10 = some [0, 1] ∧ optionalSlot 0xFF = some none ∧ 1 ≤ (2 : Byte).toNat ∧ (2 : Byte).toNat ≤ 80 ∧
    (0 : Byte) ∉ ([72, 73] ++ List.replicate 30 (0 : Byte)).take (2 : Byte).toNat ∧ 160 ≤ (160 : Byte).toNat ∧
    (32 ≤ fullQueue.length ∧ (fullQueue.getLast?.map fun m => decide (m.cls.code ≤ NoticeClass.house.code)) = some true) ∧
    32 < (33 : Byte).toNat := by
  refine ⟨by constructor <;> decide +kernel, ?_⟩
  decide +kernel

/-- Indexes above 2 at both lengths, and the fields of fragment 0 past their ranges. -/
theorem witness_PostPlaced_fields : 2 < (3 : Byte).toNat ∧ (3 :: List.replicate 25 (0 : Byte)).length = 26 ∧
    3 < (4 : Byte).toNat % 8 ∧ 63 < (64 : Byte).toNat ∧ 3600 < half 14 17 ∧ 11 < (12 : Byte).toNat % 16 ∧
    3 < (64 : Byte).toNat / 16 ∧ (95 < (96 : Byte).toNat ∧ (96 : Byte) ≠ 0xFF) ∧ 80 < (81 : Byte).toNat ∧
    (0 : Byte) ∈ ([72, 0] ++ List.replicate 30 (0 : Byte)).take (2 : Byte).toNat := by decide

/-- A partial post of 40 codes that waits for fragment 1. -/
def partialPost : PartialPost :=
  { notice := { aNotice 9 .desk with text := List.replicate 32 65 }, declared := 40, expected := 1, tag := 1 }

theorem witness_PostPlaced_fragment :
    ([1, 9] ++ List.replicate 24 (66 : Byte)).length = 26 ∧ State.reset.notice.post = none ∧
    (9 : Byte) = partialPost.notice.id ∧ (1 : Byte).toNat = partialPost.expected ∧
    (0 : Byte) ∉ (List.replicate 24 (66 : Byte)).take (partialPost.declared - 32) ∧
    (partialPost.notice.text ++ (List.replicate 24 (66 : Byte)).take (partialPost.declared - 32)).length =
      partialPost.declared ∧ (8 : Byte) ≠ partialPost.notice.id := by decide +kernel

theorem witness_NoticesLeave :
    (∃ n ∈ (withQueue State.reset fullQueue).notice.queue, n.id = 31) ∧
    (∀ n ∈ (withQueue State.reset fullQueue).notice.queue, n.id ≠ 32) ∧
    (dayAt .running 5 58 0).clock.second ≠ 59 ∧ State.reset.clock.state = .unset ∧ (dayAt .lost 5 59 60).clock.state = .lost := by
  decide +kernel

theorem witness_RenderCycle : inUse.fmt.Coherent ∧ inUse.fmt.engine = some { tile := 5, text := [] } ∧
    (rendering [5] none .queued).fmt.engine = none ∧ (rendering [5] none .queued).fmt.queue = [5] ∧
    State.reset.fmt.queue = [] :=
  ⟨witness_RendersStayCoherent.1, rfl, rfl, rfl, by decide⟩

/-- The show at slot 40, BOARDING at minute 531, and a region of layout 0 whose row 0 and row 1 the tiles 0 and 1 serve, under
template 4. -/
def rowOf (kind : RegionKind) (template : Nat) (k0 k1 : Byte) : State :=
  { inUse with
    clock := (dayAt .running 531 0 0).clock
    fmt := { State.reset.fmt with
      templates := State.reset.fmt.templates.write 4 template4
      tiles := (State.reset.fmt.tiles.write 0 { Tile.reset with binding := some { layout := 0, region := 0, row := 0 } }).write 1
        { Tile.reset with binding := some { layout := 0, region := 0, row := 1 } } }
    comp := { inUse.comp with
      layouts := inUse.comp.layouts.write 0 { tileBase := 0, regionCount := 1 }
      regions := inUse.comp.regions.write 0
        { Region.reset with kind := kind, width := 20, height := 2, template := template, k0 := k0, k1 := k1, k2 := 24 }
      tickers := inUse.comp.tickers.write 0 { running := true, classes := 15, current := some 200, countdown := 6 } } }

/-- A LISTING row with a show and one past the list; a CARD with the show, with a VACANT slot and with a template past 31; the
next show of an auditorium, and none; a CLOCK. -/
theorem witness_RenderCycle_rows :
    let row (s : State) (u : TileNo) := ((s.renderRow u).bound, (s.renderRow u).minutes, (s.renderRow u).text.length)
    NoticesOrdered (rowOf .listing 4 15 1).notice.queue ∧
    row (rowOf .listing 4 15 1) 0 = (some (.slot 40), some 9, 40) ∧ row (rowOf .listing 4 15 1) 1 = (none, none, 40) ∧
    row (rowOf .card 4 0 40) 0 = (some (.slot 40), some 9, 40) ∧ row (rowOf .card 4 0 95) 0 = (some (.slot 95), none, 40) ∧
    row (rowOf .card 31 0 40) 0 = (some (.slot 40), none, 40) ∧ row (rowOf .card 31 0 40) 1 = (some (.slot 40), none, 40) ∧
    row (rowOf .card 4 1 8) 0 = (some (.slot 40), some 9, 40) ∧ row (rowOf .card 4 1 24) 0 = (none, none, 40) ∧
    row (rowOf .clock 4 0 0) 0 = (none, none, 40) :=
  ⟨by constructor <;> decide, by decide +kernel⟩

/-- A display that leaves ATTRACT for a takeover, its notice tile needed before and after. -/
def takenOver (before : DisplayMode) (needed : BitVec 12) : State :=
  { withQueue State.reset [{ aNotice 7 .urgent with takeover := true, target := 1 }] with
    comp := { State.reset.comp with
      tileNeeded := needed
      displays := State.reset.comp.displays.write 0 { State.reset.display 0 with mode := before } } }

/-- The takeover notice of a display and none of another; the ticker's notice in ATTRACT, and in LIVE with a TICKER region;
a DARK display. -/
theorem witness_RenderCycle_notices :
    let row (s : State) (u : TileNo) := ((s.renderRow u).bound, (s.renderRow u).text.length)
    let seen (s : State) (m : DisplayMode) : State :=
      { s with comp := { s.comp with displays := s.comp.displays.write 0 { s.display 0 with mode := m } } }
    FirstTakeover (takenOver .takeover 0).notice.queue 0 { aNotice 7 .urgent with takeover := true, target := 1 } ∧
    row (takenOver .takeover 0) 148 = (some (.notice 7), 160) ∧ row (seen State.reset .takeover) 148 = (none, 160) ∧
    row (seen (rowOf .ticker 4 15 0) .attract) 148 = (some (.notice 200), 160) ∧
    row (seen State.reset .attract) 148 = (none, 160) ∧
    row (rowOf .ticker 4 15 0) 148 = (some (.notice 200), 40) ∧ row (rowOf .ticker 4 15 0) 159 = (none, 40) ∧
    (rowOf .ticker 4 15 0).comp.FirstTicker 0 0 ∧ row (rowOf .clock 4 0 0) 148 = (none, 160) ∧
    row (seen State.reset .dark) 148 = (none, 160) :=
  ⟨⟨0, rfl, ⟨rfl, rfl, by decide⟩, fun j _ h => absurd h (Nat.not_lt_zero j)⟩, by decide +kernel, by decide +kernel,
    by decide +kernel, by decide +kernel, by decide +kernel, by decide +kernel,
    ⟨⟨by decide +kernel, by decide +kernel⟩, fun q h => absurd h (Nat.not_lt_zero q.val)⟩, by decide +kernel, by decide +kernel⟩

/-- A formatter with an idle engine, an empty queue and no tile QUEUED or RENDERING is coherent. -/
theorem coherent_of_idle (f : Formatter) (queue : f.queue = []) (engine : f.engine = none)
    (still : ∀ u : TileNo, (f.tiles.read u).state ≠ .queued ∧ (f.tiles.read u).state ≠ .rendering) : f.Coherent where
  room := by simp [queue]
  once := by simp [queue]
  queued u := by simp [queue, (still u).1]
  rendering u := by simp [engine, (still u).2]
  busy _ := queue

/-- The show on a LISTING region of layout 0, which every display shows: tile 0 is CLEAN and bound to it, its template has a
seats and a clock field, and the region's page state is at the first of two pages. -/
def onScreen : State :=
  let field (k : FieldKind) : TemplateField := { kind := k, width := 8, align := .left, runFirst := 0, runLength := 1 }
  { inUse with
    dir := { inUse.dir with staging := [] }
    fmt := { State.reset.fmt with
      templates := State.reset.fmt.templates.write 0 { fields := [field .seats, field .clock], pool := [] }
      tiles := State.reset.fmt.tiles.write 0 { Tile.reset with
        state := .clean, binding := some { layout := 0, region := 0, row := 0 }, bound := some (.slot 40) } }
    comp := { inUse.comp with
      layouts := inUse.comp.layouts.write 0 { tileBase := 0, regionCount := 1 }
      regions := inUse.comp.regions.write 0
        { Region.reset with kind := .listing, width := 8, height := 1, k0 := 15, k1 := 1, k2 := 24, k4 := 3 }
      inUse := inUse.comp.inUse.write 0 12
      pages := inUse.comp.pages.write 0 { active := true, index := 0, count := 2, countdown := 1 } } }

theorem onScreen_coherent : onScreen.fmt.Coherent :=
  coherent_of_idle _ rfl rfl (by decide +kernel)

theorem ticking_coherent (current : Byte) : (ticking current).fmt.Coherent :=
  coherent_of_idle _ rfl rfl (by decide +kernel : ∀ u : TileNo, (State.reset.fmt.tiles.read u).state ≠ .queued ∧
    (State.reset.fmt.tiles.read u).state ≠ .rendering)

theorem witness_DirtyMarks :
    (onScreen.fmt.tiles.read 0).bound = some (.slot 40) ∧ onScreen.tileTemplate 0 = some 0 ∧
    ((onScreen.fmt.templates.read 0).fields.map TemplateField.kind) = [.seats, .clock] ∧
    (atEntry onScreen .template 0).dir.cursor = { table := .template, index := some (0 : Fin 32).val } ∧
    settingsOfImage (settingsImage onScreen.settings onScreen.clock) =
      some (onScreen.settings, onScreen.clock.civilStart, onScreen.clock.dayNumber) ∧
    ((onScreen.showOf 40).state ≠ .vacant ∧ (onScreen.showOf 40).title = (0 : Fin 64).val) ∧
    (∃ n ∈ onScreen.notice.queue, n.id = 200 ∧ n.targets 0 = true) ∧
    onScreen.clock.state = .running ∧ onScreen.clock.minute < 2879 := by decide +kernel

theorem witness_DirtyMarks_steps :
    (let p := onScreen.page 0 0
     p.active = true ∧ (onScreen.comp.region 0 0).effectivePeriod ≠ 0 ∧
      (if p.index + 1 < p.count then p.index + 1 else 0) ≠ p.index) ∧
    (let k := (ticking 8).comp.tickers.read 0
     k.running = true ∧ k.current = some 8 ∧ (ticking 8).nextTickerNotice 0 k.classes 8 ≠ some 8) ∧
    ((after (.sale 1 [5, 0, 40, 0xE7]) onScreen).tallyOf 40).remaining ≠ (onScreen.tallyOf 40).remaining := by
  decide +kernel

/-- The tile of a row with a seats field joins the render at a SALE. -/
theorem test_sale_renders_its_row :
    ((after (.sale 1 [5, 0, 40, 0xE7]) onScreen).fmt.tiles.read 0).state = .rendering := by decide +kernel

/-- An output frame start that takes directives which select no layout and change no mode, on the screen state with some
layouts in use. -/
theorem screen_starts (users : Table Nat 16) (bodies : List StagedBody)
    (plain : ∀ b ∈ bodies, ∀ ds m, b = .displayMode ds m → m ≠ .takeover) :
    let s := handing { onScreen with comp := { onScreen.comp with inUse := users } } bodies
    s.startsOutput (.flywheelFrameStart true) ∧ s.ModesLegal ∧ s.fmt.Coherent ∧ s.comp.RangesFit ∧
    s.handedOver = s.dir.staging := by
  have saved : ∀ d : DisplayNo, (onScreen.display d).saved ≠ .takeover := by decide +kernel
  have all : ∀ l : LayoutNo, onScreen.comp.inBounds l = true ∧ (onScreen.comp.selected l = true → l = 0) := by
    decide +kernel
  obtain ⟨starts, legal, taken⟩ :=
    handing_starts { onScreen with comp := { onScreen.comp with inUse := users } } bodies
      (show onScreen.feed.lock ≠ .locked by decide) rfl saved plain
  exact ⟨starts, legal, onScreen_coherent,
    ⟨fun l => (all l).1, fun l m ne hl hm => absurd (((all l).2 hl).trans ((all m).2 hm).symm) ne⟩, taken⟩

theorem witness_TileBindings :
    let s := handing { onScreen with comp := { onScreen.comp with inUse := Table.tabulate fun _ => 0 } } []
    (s.startsOutput (.flywheelFrameStart true) ∧ s.ModesLegal ∧ s.fmt.Coherent ∧ s.comp.RangesFit) ∧
    s.comp.inUse.read 0 = 0 ∧ 0 < (after (.flywheelFrameStart true) s).comp.inUse.read 0 ∧ s.comp.inRange 0 0 = true := by
  obtain ⟨starts, legal, coherent, fit, -⟩ := screen_starts (Table.tabulate fun _ => 0) [] (fun _ h => by cases h)
  exact ⟨⟨starts, legal, coherent, fit⟩, by decide +kernel⟩

/-- A SELECT LAYOUT that takes every display to another layout. -/
theorem witness_TileBindings_leaves :
    let s := handing { onScreen with comp := { onScreen.comp with inUse := onScreen.comp.inUse } }
      [.selectLayout (List.finRange 12) 3]
    (s.startsOutput (.flywheelFrameStart true) ∧ s.ModesLegal ∧ s.fmt.Coherent ∧ s.comp.RangesFit) ∧
    (s.dir.staging.all fun z => !z.writesLayout) = true ∧ 0 < s.comp.inUse.read 0 ∧
    (after (.flywheelFrameStart true) s).comp.inUse.read 0 = 0 ∧ s.comp.inRange 0 0 = true ∧ s.comp.inRange 3 0 = false := by
  obtain ⟨starts, legal, coherent, fit, -⟩ :=
    screen_starts onScreen.comp.inUse [.selectLayout (List.finRange 12) 3] fun b hb ds m e => by
      subst e; cases List.mem_singleton.1 hb
  exact ⟨⟨starts, legal, coherent, fit⟩, by decide +kernel⟩

/-- A REGION write that gives the region a second row, and a LAYOUT write that moves its tiles up by one. -/
theorem witness_TileBindings_writes :
    let taller := { onScreen.comp.region 0 0 with height := 2 }
    let v : Compositor := { onScreen.comp with regions := onScreen.comp.regions.write 0 taller }
    let moved : Compositor := { onScreen.comp with
      layouts := onScreen.comp.layouts.write 0 { tileBase := 1, regionCount := 1 } }
    regionLayout 0 = 0 ∧ regionNumber 0 = 0 ∧ v.writePasses 0 = true ∧ moved.writePasses 0 = true ∧
    (∀ m, onScreen.comp.inUse.read m = onScreen.comp.users m) ∧ 0 < onScreen.comp.inUse.read 0 ∧
    (v.inRange 0 1 = true ∧ v.bindingAt 0 1 ≠ onScreen.comp.bindingAt 0 1) ∧
    (moved.inRange 0 0 = false ∧ onScreen.comp.inRange 0 0 = true) := by decide +kernel

/-- A notice tile that comes to be needed, and one that is needed no longer. -/
theorem witness_TileBindings_notice :
    let s := handing onScreen [.displayMode [2] .attract]
    let u := { onScreen with comp := { onScreen.comp with tileNeeded := 1 } }
    s.comp.tileNeeded.getLsbD 2 = false ∧ (after (.flywheelFrameStart true) s).comp.tileNeeded.getLsbD 2 = true ∧
    u.comp.tileNeeded.getLsbD 0 = true ∧ (after (.flywheelFrameStart true) u).comp.tileNeeded.getLsbD 0 = false := by
  decide +kernel

theorem witness_TileBindings_change :
    let s := takenOver .attract 1
    let t := after (.flywheelFrameStart true) s
    s.comp.tileNeeded.getLsbD 0 = true ∧ t.comp.tileNeeded.getLsbD 0 = true ∧
    (t.display 0).mode ≠ (s.display 0).mode := by decide +kernel

/-- R171: the tile of a display that a takeover brings out of DARK is bound, its render starts at once, and the display
change of the same frame start leaves that render alone. -/
theorem test_takeover_from_dark_renders_once :
    let x := (after (.flywheelFrameStart true) (takenOver .dark 0)).fmt.tiles.read 148
    x.state = .rendering ∧ x.stale = false := by decide +kernel

theorem witness_PagesAndTickers :
    let s := paged { active := true, index := 2, count := 3, countdown := 1 }
    ((s.page 0 0).active = true ∧ (s.comp.region 0 0).effectivePeriod ≠ 0 ∧ (s.page 0 0).index < (s.page 0 0).count) ∧
    (State.reset.page 15 7).active = false ∧ s.clock.state = .unset ∧
    ((ticking 9).comp.tickers.read 0).running = true ∧
    ((eligibleNotices (ticking 9).notice.queue 0 15)[2]?.map Notice.id) = some 9 ∧
    ((eligibleNotices (ticking 9).notice.queue 0 15)[(2 + 1) % 3]?.map Notice.id) = some 7 ∧
    ((ticking 9).comp.tickers.read 0).current = some 9 ∧ (State.reset.comp.tickers.read 11).running = false ∧
    (dayAt .running 5 58 0).clock.second ≠ 59 ∧ (dayAt .lost 5 59 60).clock.state = .lost ∧
    ((ticking 9).clock.state = .unset ∧ ∀ a ∈ (ticking 9).notice.queue, a.lifetime ≠ 1) := by
  decide +kernel

/-- A queue with an URGENT notice for display 0 and one without; a show that the region of the screen state keeps. -/
theorem witness_PagesAndTickers_lists :
    let taken (n : Notice) (cs : ClassSet) : Bool := n.target.getLsbD 0 && cs.getLsbD n.cls.code
    (∃ n ∈ [aNotice 7 .urgent, aNotice 8 .desk], taken n 15 = true ∧ n.cls = .urgent) ∧
    eligibleNotices [aNotice 7 .urgent, aNotice 8 .desk] 0 15 = [aNotice 7 .urgent] ∧
    (∀ n ∈ [aNotice 7 .urgent, aNotice 8 .desk], taken n 14 = true → n.cls ≠ .urgent) ∧
    eligibleNotices [aNotice 7 .urgent, aNotice 8 .desk] 0 14 = [aNotice 8 .desk] ∧
    onScreen.board.eligible (onScreen.comp.region 0 0) = [40] := by decide +kernel

theorem witness_PagesAndTickers_order : NoticesOrdered (ticking 9).notice.queue := by
  constructor <;> decide +kernel

/-- The clear of the one show in the listing order, with a page state active. -/
theorem witness_PagesAndTickers_recount :
    (atEntry onScreen .show 40).dir.cursor = { table := .show, index := some (40 : Slot).val } ∧
    (onScreen.showOf 40).state ≠ .vacant ∧ (40 : Slot) ∈ onScreen.board.order ∧ (onScreen.page 0 0).active = true ∧
    (onScreen.page 0 0).index < 1 := by decide +kernel

/-- Page states of a layout that enters, leaves and stays in use (the states of the tile bindings), and a display that comes
to have a ticker. -/
theorem witness_PagesAndTickersStart :
    let s := handing onScreen [.displayMode [1] .attract, .displayMasks [1] 15 0]
    let t := after (.flywheelFrameStart true) s
    (0 : RegionNo).val < (onScreen.comp.layouts.read 0).regionCount ∧ (onScreen.comp.region 0 0).kind = .listing ∧
    (t.display 1).mode = .attract ∧ (t.display 1).attractPass = 15 ∧ (s.comp.tickers.read 1).running = false ∧
    (t.display 1).banner = true ∧ 0 < s.comp.inUse.read 0 ∧ 0 < t.comp.inUse.read 0 := by decide +kernel

/-- A REGION write that makes the region a TICKER, one that keeps it a LISTING, and a LAYOUT write that lets a TICKER region
act. -/
theorem witness_PagesAndTickersStart_writes :
    let ticker : Region := { Region.reset with kind := .ticker, width := 1, height := 1, k0 := 15 }
    let v : Compositor := { onScreen.comp with regions := onScreen.comp.regions.write 0 ticker }
    let waiting : Compositor := { onScreen.comp with regions := onScreen.comp.regions.write 1 ticker }
    let wider : Compositor := { waiting with layouts := waiting.layouts.write 0 { tileBase := 0, regionCount := 2 } }
    v.writePasses 0 = true ∧ v.tickerRegion 0 = some (regionNumber 0) ∧ v.actingListing 0 0 = false ∧
    onScreen.comp.actingListing 0 0 = true ∧ wider.writePasses 0 = true ∧
    waiting.tickerRegion 0 ≠ wider.tickerRegion 0 ∧ wider.actingListing 0 0 = true ∧ wider.actingListing 0 1 = false := by
  decide +kernel

theorem witness_PanelsSensed : ((after (.panelAttachment 11) State.reset).comp.displays.read 11).panelPresent = true ∧
    (State.reset.comp.displays.read 0).panelPresent = false := by decide +kernel

/-- A display in a mode, with a FILL region of colour 15 over the first cell of its layout. -/
def showing (m : DisplayMode) : State :=
  { State.reset with comp := { State.reset.comp with
      displays := State.reset.comp.displays.write 0 { Display.reset true with mode := m, banner := true }
      layouts := State.reset.comp.layouts.write 0 { tileBase := 0, regionCount := 1 }
      regions := State.reset.comp.regions.write 0 { Region.reset with kind := .fill, width := 1, height := 1, background := 15 } } }

theorem test_fill_region_covers_its_cell : (showing .live).pixel none 0 23 23 = Colour.white ∧
    (showing .live).pixel none 0 23 24 = Colour.black ∧ (showing .dark).pixel none 0 23 23 = Colour.black := by
  decide +kernel

theorem witness_PixelRules : ((showing .dark).comp.displays.read 0).mode = .dark ∧
    ((showing .takeover).comp.displays.read 0).mode = .takeover ∧
    (((showing .attract).comp.displays.read 0).mode = .attract ∧ ((showing .attract).comp.displays.read 0).banner = true) ∧
    ((showing .live).comp.displays.read 0).mode = .live ∧
    (0 < ((showing .live).comp.layouts.read 0).regionCount ∧ ((showing .live).comp.region 0 0).kind = .fill ∧
      ((showing .live).comp.region 0 0).background ≠ 0) := by decide +kernel

/-- A region with background 0, and a second TICKER region. -/
theorem witness_PixelRules_beneath :
    let ticker : Region := { Region.reset with kind := .ticker, width := 1, height := 1 }
    let c : Compositor := { (showing .live).comp with
      layouts := (showing .live).comp.layouts.write 0 { tileBase := 0, regionCount := 2 }
      regions := ((showing .live).comp.regions.write 0 ticker).write 1 ticker }
    c.tickerRegion 0 = some 0 ∧ (c.region 0 1).kind = .ticker ∧ (c.region 0 1).background = 0 := by decide +kernel

end Sys2Proof.Tests
end

section
/-! SUPPORT. The blocks that the directives and the device's own events can reach: all but the feed receiver's, RESTART
apart (R17 to R39). -/

namespace Sys2Proof.Machine

/-- The blocks that a directive other than RESTART, or an event of the device's own, can reach. -/
abbrev beyondFeed : List Block :=
  [.dir, .rep, .clock, .divider, .settings, .board, .tally, .notice, .fmt, .comp, .sense]

/-- A change that does not reach the feed receiver. -/
abbrev State.KeepsFeed (s t : State) : Prop := SameBut beyondFeed s t

theorem State.Leaves.keepsFeed {ks : List Block} {s t : State} (h : s.Leaves ks t) (sub : ks ⊆ beyondFeed := by simp) :
    s.KeepsFeed t := h.blocks.mono sub

/-! ### Refusals, staging and the cursor -/

theorem State.refuseKind_keepsFeed (s : State) (k : DirectiveKind) (tag : Byte) (reason : Reason) :
    s.KeepsFeed (s.refuseKind k tag reason) := (State.refuse_leaves k.code tag reason s).keepsFeed

theorem State.consumeSpan_keepsFeed (s : State) : s.KeepsFeed s.consumeSpan := by constructor <;> simp

theorem State.advanceCursor_keepsFeed (s : State) : s.KeepsFeed s.advanceCursor := by constructor <;> simp

theorem State.refuseStageFull_keepsFeed (s : State) (k : DirectiveKind) (tag : Byte) :
    s.KeepsFeed (s.refuseStageFull k tag) :=
  (s.refuseKind_keepsFeed k tag _).trans (State.setFlag_leaves _ _).keepsFeed

theorem State.stage_keepsFeed (s : State) (k : DirectiveKind) (tag : Byte) (b : StagedBody) :
    s.KeepsFeed (s.stage k tag b) :=
  .ite (by constructor <;> simp) (s.refuseStageFull_keepsFeed k tag)

theorem State.stageWrite_keepsFeed (s : State) (tag : Byte) (b : StagedBody) : s.KeepsFeed (s.stageWrite tag b) :=
  .ite (by constructor <;> simp) (s.refuseStageFull_keepsFeed .writeEntry tag)

/-! ### The clock, the day and the ticks -/

theorem State.setClock_keepsFeed (s : State) (c : Clock) : s.KeepsFeed (s.setClock c) := by constructor <;> simp

theorem State.takeMark_keepsFeed (s : State) (m sec : Nat) : s.KeepsFeed (s.takeMark m sec) := by
  have text : ∀ (u : State) (p : Prop) [Decidable p], u.KeepsFeed (if p then u.clockTextChange else u) := fun u p _ =>
    .ite (State.clockTextChange_leaves u).keepsFeed (.refl _ u)
  exact (s.setClock_keepsFeed _).trans ((text _ _).trans (.ite (State.minuteBoundary_leaves _ _).keepsFeed (.refl _ _)))

theorem State.takeOpen_keepsFeed (s : State) (c d : Nat) : s.KeepsFeed (s.takeOpen c d) :=
  (((s.setClock_keepsFeed _).trans (State.clockTextChange_leaves _).keepsFeed).trans
    (State.minuteBoundary_leaves _ _).keepsFeed).trans (State.markAllInUse_leaves _).keepsFeed

theorem State.closeBoard_keepsFeed (s : State) : s.KeepsFeed s.closeBoard :=
  SameBut.trans (t := (List.finRange 96).foldl State.clearSlot s)
    (State.Leaves.foldl State.clearSlot_leaves _ s).keepsFeed (by constructor <;> simp [State.closeBoard])

theorem State.closeDesks_keepsFeed (s : State) : s.KeepsFeed s.closeDesks := by
  constructor <;> simp [State.closeDesks]

theorem State.closeClock_keepsFeed (s : State) : s.KeepsFeed s.closeClock :=
  (s.setClock_keepsFeed _).trans (State.clockTextChange_leaves _).keepsFeed

theorem State.takeClose_keepsFeed (s : State) : s.KeepsFeed s.takeClose :=
  (((s.removeNotices_leaves _).keepsFeed.trans (State.closeBoard_keepsFeed _)).trans
    (State.closeDesks_keepsFeed _)).trans (State.closeClock_keepsFeed _)

/-! ### Sales, acknowledgements and notices -/

theorem State.setTally_keepsFeed (s : State) (x : Slot) (t : Tally) : s.KeepsFeed (s.setTally x t) :=
  (s.setTally_leaves x t).keepsFeed

theorem State.setDesk_keepsFeed (s : State) (k : Fin 16) (r : Desk) : s.KeepsFeed (s.setDesk k r) := by
  constructor <;> simp

theorem State.takeSale_keepsFeed (s : State) (tag : Byte) (k : Fin 16) (g : Bool) (x : Slot) (d : Int) :
    s.KeepsFeed (s.takeSale tag k g x d) := by
  unfold State.takeSale
  dsimp only
  split
  · exact (s.setDesk_keepsFeed k _).trans (.ite (State.setTally_keepsFeed _ x _) (.refl _ _))
  · split
    · exact (s.setDesk_keepsFeed k _).trans (State.refuseKind_keepsFeed _ _ _ _)
    · exact (s.setDesk_keepsFeed k _).trans (State.saleApply_leaves _ _ _ _).keepsFeed

theorem State.acknowledge_keepsFeed (s : State) (tag : Byte) (x : Slot) (b : Band) :
    s.KeepsFeed (s.acknowledge tag x b) :=
  .ite (s.setTally_keepsFeed x _) (s.refuseKind_keepsFeed _ _ _)

theorem State.setPost_keepsFeed (s : State) (p : Option PartialPost) : s.KeepsFeed (s.setPost p) := by
  constructor <;> simp

theorem State.setChime_keepsFeed (s : State) (i : Fin 2) (l : ChimeLine) : s.KeepsFeed (s.setChime i l) := by
  constructor <;> simp

theorem State.placePost_keepsFeed (s : State) (tag : Byte) (n : Notice) : s.KeepsFeed (s.placePost tag n) := by
  unfold State.placePost
  split
  · next h => exact (State.placeNotice_spec h).1.keepsFeed
  · exact s.refuseKind_keepsFeed _ _ _

theorem State.takeFragmentZero_keepsFeed (s : State) (tag : Byte) (p : PartialPost) :
    s.KeepsFeed (s.takeFragmentZero tag p) :=
  .ite (s.refuseKind_keepsFeed _ _ _)
    (.ite ((s.setPost_keepsFeed _).trans (State.placePost_keepsFeed _ _ _)) (s.setPost_keepsFeed _))

theorem State.takeFragmentMore_keepsFeed (s : State) (tag : Byte) (i : Nat) (id : Byte) (ps : List Byte) :
    s.KeepsFeed (s.takeFragmentMore tag i id ps) := by
  unfold State.takeFragmentMore
  split
  · exact s.refuseKind_keepsFeed _ _ _
  · exact .ite ((s.setPost_keepsFeed _).trans (State.refuseKind_keepsFeed _ _ _ _))
      (.ite ((s.setPost_keepsFeed _).trans (State.placePost_keepsFeed _ _ _)) (s.setPost_keepsFeed _))

/-! ### Entries written and read -/

theorem State.evaluateAtWrite_keepsFeed (s : State) (x : Slot) : s.KeepsFeed (s.evaluateAtWrite x) :=
  (s.evaluateAtWrite_leaves x).keepsFeed

theorem State.slotMark_keepsFeed (s : State) (x : Slot) : s.KeepsFeed (s.slotMark x) := (s.slotMark_leaves x).keepsFeed

theorem State.writeListing_keepsFeed (s : State) (x : Slot) (c : Bool) : s.KeepsFeed (s.writeListing x c) :=
  (s.writeListing_leaves x c).keepsFeed

theorem State.setShow_keepsFeed (s : State) (x : Slot) (w : Show) : s.KeepsFeed (s.setShow x w) :=
  (s.setShow_leaves x w).keepsFeed

theorem State.setOrder_keepsFeed (s : State) (o : List Slot) : s.KeepsFeed (s.setOrder o) := (s.setOrder_leaves o).keepsFeed

theorem State.insertShow_keepsFeed (s : State) (x : Slot) (img : Show) (mode : TallyMode) :
    s.KeepsFeed (s.insertShow x img mode) :=
  (((((s.setShow_keepsFeed x _).trans (State.setTally_keepsFeed _ x _)).trans (State.setOrder_keepsFeed _ _)).trans
    (State.writeListing_keepsFeed _ x _)).trans (State.evaluateAtWrite_keepsFeed _ x)).trans
    (State.slotMark_keepsFeed _ x)

theorem State.editShow_keepsFeed (s : State) (x : Slot) (img : Show) (mode : TallyMode) :
    s.KeepsFeed (s.editShow x img mode) := by
  have capacity : ∀ (u : State) (o n : Nat) (p : Prop) [Decidable p], u.KeepsFeed (if p then u.changeCapacity x o n else u) :=
    fun u o n p _ => .ite (u.changeCapacity_leaves x o n).keepsFeed (.refl _ u)
  have toMode : ∀ (u : State) (p : Prop) [Decidable p], u.KeepsFeed (if p then u.changeMode x mode else u) :=
    fun u p _ => .ite (u.setTally_keepsFeed x _) (.refl _ u)
  have moved : ∀ (u : State) (p : Prop) [Decidable p],
      u.KeepsFeed (if p then (u.unplaceSlot x).placeSlot x else u) := fun u p _ =>
    .ite ((u.setOrder_keepsFeed _).trans (State.setOrder_keepsFeed _ _)) (.refl _ u)
  exact ((((((s.setShow_keepsFeed x _).trans (capacity _ _ _ _)).trans (toMode _ _)).trans (moved _ _)).trans
    (State.writeListing_keepsFeed _ x _)).trans (State.evaluateAtWrite_keepsFeed _ x)).trans
    (State.slotMark_keepsFeed _ x)

theorem State.liveEditShow_keepsFeed (s : State) (x : Slot) (img : Show) : s.KeepsFeed (s.liveEditShow x img) := by
  have boards : ∀ (u : State) (p q : Prop) [Decidable p] [Decidable q],
      u.KeepsFeed (if p then (if q then u.requestBoarding x else u.withdrawBoarding x) else u) := fun u p q _ _ =>
    .ite (.ite (u.requestBoarding_leaves x).keepsFeed (u.removeNotices_leaves _).keepsFeed) (.refl _ u)
  exact ((((s.setShow_keepsFeed x _).trans (State.writeListing_keepsFeed _ x _)).trans (boards _ _ _)).trans
    (State.evaluateAtWrite_keepsFeed _ x)).trans (State.slotMark_keepsFeed _ x)

theorem State.takeShow_keepsFeed (s : State) (x : Slot) (w : ShowWrite) : s.KeepsFeed (s.takeShow x w) := by
  have dispose : s.KeepsFeed (s.disposeShow x w) := by
    unfold State.disposeShow
    split
    · exact (s.clearSlot_leaves x).keepsFeed
    · split
      · exact s.insertShow_keepsFeed x _ _
      · exact s.editShow_keepsFeed x _ _
      · exact s.liveEditShow_keepsFeed x _
      · exact s.liveEditShow_keepsFeed x _
      · exact .refl _ s
  exact dispose.trans (State.recomputeDue_leaves _).keepsFeed

theorem State.takeTitle_keepsFeed (s : State) (i : Fin 64) (t : Title) : s.KeepsFeed (s.takeTitle i t) :=
  SameBut.trans (t := { s with board := { s.board with titles := s.board.titles.write i t } }) (by constructor <;> simp)
    (SameBut.foldl State.slotMark_keepsFeed _ _)

theorem State.takeTemplate_keepsFeed (s : State) (i : Fin 32) (t : Template) : s.KeepsFeed (s.takeTemplate i t) :=
  SameBut.trans (t := { s with fmt := { s.fmt with templates := s.fmt.templates.write i t } }) (by constructor <;> simp)
    (State.templateMarks_leaves _ i).keepsFeed

theorem State.takeSettings_keepsFeed (s : State) (st : Settings) : s.KeepsFeed (s.takeSettings st) :=
  SameBut.trans (t := { s with settings := st }) (by constructor <;> simp)
    ((State.recomputeBands_leaves _).keepsFeed.trans (State.markAllInUse_leaves _).keepsFeed)

theorem State.writeStaged_keepsFeed (s : State) (tag : Byte) (b : Option StagedBody) :
    s.KeepsFeed (s.writeStaged tag b) := by
  unfold State.writeStaged
  split
  · exact s.stageWrite_keepsFeed tag _
  · exact s.refuseKind_keepsFeed _ _ _

theorem State.atEntry_keepsFeed {n : Nat} (s : State) (i : Nat) (f : Fin n → State) (h : ∀ k, s.KeepsFeed (f k)) :
    s.KeepsFeed (s.atEntry i f) := by
  unfold State.atEntry
  split
  · exact h _
  · exact .refl _ s

theorem State.writeSettings_keepsFeed (s : State) (tag : Byte) (img : List Byte) :
    s.KeepsFeed (s.writeSettings tag img) := by
  unfold State.writeSettings
  split
  · exact .ite ((s.takeSettings_keepsFeed _).trans (State.advanceCursor_keepsFeed _)) (s.refuseKind_keepsFeed _ _ _)
  · exact s.refuseKind_keepsFeed _ _ _

theorem State.writeShow_keepsFeed (s : State) (tag : Byte) (x : Slot) (img : List Byte) :
    s.KeepsFeed (s.writeShow tag x img) := by
  unfold State.writeShow
  split
  · split
    · exact s.refuseKind_keepsFeed _ _ _
    · exact (s.takeShow_keepsFeed x _).trans (State.advanceCursor_keepsFeed _)
  · exact s.refuseKind_keepsFeed _ _ _

theorem State.writeTally_keepsFeed (s : State) (tag : Byte) (x : Slot) (img : List Byte) :
    s.KeepsFeed (s.writeTally tag x img) := by
  unfold State.writeTally
  split
  · split
    · exact s.refuseKind_keepsFeed _ _ _
    · exact (s.setTally_keepsFeed x _).trans (State.advanceCursor_keepsFeed _)
  · exact s.refuseKind_keepsFeed _ _ _

theorem State.writeTitle_keepsFeed (s : State) (tag : Byte) (i : Fin 64) (img : List Byte) :
    s.KeepsFeed (s.writeTitle tag i img) := by
  unfold State.writeTitle
  split
  · exact (s.takeTitle_keepsFeed i _).trans (State.advanceCursor_keepsFeed _)
  · exact s.refuseKind_keepsFeed _ _ _

theorem State.writeTemplate_keepsFeed (s : State) (tag : Byte) (i : Fin 32) (img : List Byte) :
    s.KeepsFeed (s.writeTemplate tag i img) := by
  unfold State.writeTemplate
  split
  · exact (s.takeTemplate_keepsFeed i _).trans (State.advanceCursor_keepsFeed _)
  · exact s.refuseKind_keepsFeed _ _ _

theorem State.writeAt_keepsFeed (s : State) (tag : Byte) (t : TableName) (i : Nat) (img : List Byte) :
    s.KeepsFeed (s.writeAt tag t i img) := by
  match t with
  | .settings => exact s.writeSettings_keepsFeed tag img
  | .show => exact s.atEntry_keepsFeed i _ fun x => s.writeShow_keepsFeed tag x img
  | .tally => exact s.atEntry_keepsFeed i _ fun x => s.writeTally_keepsFeed tag x img
  | .title => exact s.atEntry_keepsFeed i _ fun k => s.writeTitle_keepsFeed tag k img
  | .template => exact s.atEntry_keepsFeed i _ fun k => s.writeTemplate_keepsFeed tag k img
  | .layout => exact s.atEntry_keepsFeed i _ fun _ => s.writeStaged_keepsFeed tag _
  | .region => exact s.atEntry_keepsFeed i _ fun _ => s.writeStaged_keepsFeed tag _
  | .palette => exact s.atEntry_keepsFeed i _ fun _ => s.writeStaged_keepsFeed tag _
  | .glyph => exact s.atEntry_keepsFeed i _ fun _ => s.writeStaged_keepsFeed tag _
  | .desk | .notice | .display | .tile => exact .refl _ s

theorem State.writeEntry_keepsFeed (s : State) (tag : Byte) (img : List Byte) : s.KeepsFeed (s.writeEntry tag img) := by
  unfold State.writeEntry
  split
  · exact s.refuseKind_keepsFeed _ _ _
  · exact .ite (s.refuseKind_keepsFeed _ _ _) (.ite (s.writeAt_keepsFeed tag _ _ img) (s.refuseKind_keepsFeed _ _ _))

theorem State.readTurns_keepsFeed : ∀ (n : Nat) (s : State), s.KeepsFeed (State.readTurns n s)
  | 0, s => .refl _ s
  | n + 1, s => by
    unfold State.readTurns
    split
    · exact .refl _ s
    · exact .ite (((State.queueReport_leaves _ s).keepsFeed.trans (State.advanceCursor_keepsFeed _)).trans
        (State.readTurns_keepsFeed n _)) (State.setFlag_leaves _ s).keepsFeed

/-! ### The directives -/

/-- The blocks that a directive can reach: the feed receiver at RESTART alone (R16, R17, R38). -/
theorem State.carryOut_keepsFeed (s : State) {k : DirectiveKind} (held : Option (Fin 12)) (tag : Byte) (p : List Byte)
    (hk : k ≠ .restart) : s.KeepsFeed (s.carryOut k held tag p) := by
  have no := s.refuseKind_keepsFeed
  cases k <;> dsimp only [State.carryOut]
  case markTime =>
    unfold State.markTime
    split
    · exact .ite (.ite (no _ _ _) (s.takeMark_keepsFeed _ _)) (no _ _ _)
    · exact no _ _ _
  case openDay =>
    unfold State.openDay
    split
    · exact .ite (.ite (s.takeOpen_keepsFeed _ _) (no _ _ _)) (no _ _ _)
    · exact no _ _ _
  case closeDay =>
    unfold State.closeDay
    split
    · exact .ite (no _ _ _) s.takeClose_keepsFeed
    · exact no _ _ _
  case sale =>
    unfold State.sale
    split
    · split
      · exact s.takeSale_keepsFeed _ _ _ _ _
      · exact no _ _ _
    · exact no _ _ _
  case acknowledgeBand =>
    unfold State.acknowledgeBand
    split
    · split
      · exact s.acknowledge_keepsFeed _ _ _
      · exact no _ _ _
    · exact no _ _ _
  case postNotice =>
    unfold State.postNotice
    dsimp only
    refine .ite (.ite ?_ (.ite (s.takeFragmentMore_keepsFeed _ _ _ _) (no _ _ _))) (no _ _ _)
    split
    · exact s.takeFragmentZero_keepsFeed _ _
    · exact no _ _ _
  case withdrawNotice =>
    unfold State.withdrawNotice
    split
    · exact .ite (s.removeNotices_leaves _).keepsFeed (no _ _ _)
    · exact no _ _ _
  case driveChimeLine =>
    unfold State.driveChimeLine
    split
    · split
      · exact s.setChime_keepsFeed _ _
      · exact no _ _ _
    · exact no _ _ _
  case setCursor =>
    unfold State.setCursor
    split
    · split
      · exact .ite (by constructor <;> simp) (no _ _ _)
      · exact no _ _ _
    · exact no _ _ _
  case writeEntry => exact s.writeEntry_keepsFeed tag p
  case readEntries =>
    unfold State.readEntries
    split
    · refine .ite (no _ _ _) ?_
      split
      · exact no _ _ _
      · exact State.readTurns_keepsFeed _ s
    · exact no _ _ _
  case requestStatus =>
    unfold State.requestStatus
    split
    · exact s.queueStatus_leaves.keepsFeed
    · exact no _ _ _
  case setAttentionMask =>
    unfold State.setAttentionMask
    split
    · refine .ite ?_ (no _ _ _)
      have mask : ∀ m, s.KeepsFeed { s with rep := { s.rep with mask := m } } := fun m => by constructor <;> simp
      exact .ite (mask _) ((mask _).trans (State.queueStatus_leaves _).keepsFeed)
    · exact no _ _ _
  case span =>
    unfold State.takeSpan
    split
    · split
      · constructor <;> simp
      · exact no _ _ _
    · exact no _ _ _
  case restart => exact absurd rfl hk
  case setDisplayMode =>
    unfold State.setDisplayMode
    split
    · split
      · exact s.stage_keepsFeed _ _ _
      · exact no _ _ _
    · exact no _ _ _
  case selectLayout =>
    unfold State.selectLayout
    split
    · split
      · exact s.stage_keepsFeed _ _ _
      · exact no _ _ _
    · exact no _ _ _
  case selectProgram =>
    unfold State.selectProgram
    split
    · split
      · exact s.stage_keepsFeed _ _ _
      · exact no _ _ _
    · exact no _ _ _
  case setDisplayMasks =>
    unfold State.setDisplayMasks
    split
    · split
      · exact s.stage_keepsFeed _ _ _
      · exact no _ _ _
    · exact no _ _ _

end Sys2Proof.Machine
end

section
/-! SUPPORT. The commands by kind: those that carry a directive, and those that can reach the feed receiver. -/

namespace Sys2Proof

/-- The kind, the tag and the payload of the directive that a command carries, if it carries one (log 9). -/
def Instr.directive? : Instr → Option (Machine.DirectiveKind × Byte × List Byte)
  | .markTime tag p => some (.markTime, tag, p)
  | .openDay tag p => some (.openDay, tag, p)
  | .closeDay tag p => some (.closeDay, tag, p)
  | .sale tag p => some (.sale, tag, p)
  | .acknowledgeBand tag p => some (.acknowledgeBand, tag, p)
  | .postNoticeFragment0 tag p => some (.postNotice, tag, p)
  | .postNoticeFragment12 tag p => some (.postNotice, tag, p)
  | .withdrawNotice tag p => some (.withdrawNotice, tag, p)
  | .driveChimeLine tag p => some (.driveChimeLine, tag, p)
  | .setCursor tag p => some (.setCursor, tag, p)
  | .writeEntrySettings tag p => some (.writeEntry, tag, p)
  | .writeEntryShow tag p => some (.writeEntry, tag, p)
  | .writeEntryTally tag p => some (.writeEntry, tag, p)
  | .writeEntryTitle tag p => some (.writeEntry, tag, p)
  | .writeEntryTemplate tag p => some (.writeEntry, tag, p)
  | .writeEntryStaged tag p => some (.writeEntry, tag, p)
  | .readEntries tag p => some (.readEntries, tag, p)
  | .requestStatus tag p => some (.requestStatus, tag, p)
  | .setAttentionMask tag p => some (.setAttentionMask, tag, p)
  | .restart tag p => some (.restart, tag, p)
  | .span tag p => some (.span, tag, p)
  | .setDisplayMode tag p => some (.setDisplayMode, tag, p)
  | .selectLayout tag p => some (.selectLayout, tag, p)
  | .selectProgram tag p => some (.selectProgram, tag, p)
  | .setDisplayMasks tag p => some (.setDisplayMasks, tag, p)
  | .powerOnReset _ _ | .symbolAcquisition | .symbolLoss | .frameStart _ _ _ | .marginPacket _ | .lineGroup _ | .frameEnd
  | .frameTimeout | .flywheelFrameStart _ | .flywheelLine | .flywheelFrameEnd => none
  | .tenthTick | .secondTick _ | .minuteBoundary | .enterHoldover | .enterLost | .clockSaturation | .lifetimeExpiry
  | .chimePatternStart _ | .chimeCountdownExpiry _ | .pageTurn _ _ | .tickerStep _ | .renderStart | .renderCompletion
  | .chainPacketArrival _ | .upstreamReady | .upstreamReadyWithdrawal | .transmissionCompletion | .panelRemoval _
  | .panelAttachment _ => none

/-- Can a command reach the feed receiver? The resets, the feed's events and the flywheel's. -/
def Instr.reachesFeed : Instr → Bool
  | .powerOnReset _ _ | .symbolAcquisition | .symbolLoss | .frameStart _ _ _ | .marginPacket _ | .lineGroup _ | .frameEnd
  | .frameTimeout | .flywheelFrameStart _ | .flywheelLine | .flywheelFrameEnd | .restart _ _ => true
  | .markTime _ _ | .openDay _ _ | .closeDay _ _ | .sale _ _ | .acknowledgeBand _ _ | .postNoticeFragment0 _ _
  | .postNoticeFragment12 _ _ | .withdrawNotice _ _ | .driveChimeLine _ _ | .setCursor _ _ | .writeEntrySettings _ _
  | .writeEntryShow _ _ | .writeEntryTally _ _ | .writeEntryTitle _ _ | .writeEntryTemplate _ _ | .writeEntryStaged _ _
  | .readEntries _ _ | .requestStatus _ _ | .setAttentionMask _ _ | .span _ _ | .setDisplayMode _ _ | .selectLayout _ _
  | .selectProgram _ _ | .setDisplayMasks _ _ => false
  | .tenthTick | .secondTick _ | .minuteBoundary | .enterHoldover | .enterLost | .clockSaturation | .lifetimeExpiry
  | .chimePatternStart _ | .chimeCountdownExpiry _ | .pageTurn _ _ | .tickerStep _ | .renderStart | .renderCompletion
  | .chainPacketArrival _ | .upstreamReady | .upstreamReadyWithdrawal | .transmissionCompletion | .panelRemoval _
  | .panelAttachment _ => false

namespace Machine

/-- A command that carries a directive carries it out with the held span consumed (R18, R20). -/
theorem exec_of_directive {c : Instr} {k : DirectiveKind} {tag : Byte} {p : List Byte}
    (h : c.directive? = some (k, tag, p)) (s : State) :
    exec c s = .next (s.consumeSpan.carryOut k s.dir.span tag p) := by
  cases c <;> simp only [Instr.directive?, Option.some.injEq, Prod.mk.injEq, reduceCtorEq] at h <;>
    obtain ⟨rfl, rfl, rfl⟩ := h <;> rfl

theorem DirectiveKind.command_directive (k : DirectiveKind) (tag : Byte) (p : List Byte) :
    (k.command tag p).directive? = some (k, tag, p) := by cases k <;> rfl

/-- The kind of a directive that a command other than RESTART carries is not RESTART. -/
theorem directive_ne_restart {c : Instr} {k : DirectiveKind} {tag : Byte} {p : List Byte}
    (h : c.directive? = some (k, tag, p)) (hc : c.reachesFeed = false) : k ≠ .restart := by
  rintro rfl
  cases c <;> simp_all [Instr.directive?, Instr.reachesFeed]

/-! ### The device's own events -/

theorem State.loseClock_keepsFeed (s : State) : s.KeepsFeed s.loseClock := s.loseClock_spec.1.keepsFeed

theorem State.advanceMinute_keepsFeed (s : State) : s.KeepsFeed s.advanceMinute := s.advanceMinute_leaves.keepsFeed

theorem State.tickReceiver_keepsFeed (s : State) (r : TickReceiver) : s.KeepsFeed (s.tickReceiver r) := by
  cases r with
  | clock => exact s.tickClock_leaves.keepsFeed
  | notices => exact s.ageNotices_spec.1.keepsFeed
  | compositor => exact s.tickCompositor_leaves.1.keepsFeed

theorem State.completeRender_keepsFeed (s : State) : s.KeepsFeed s.completeRender := by
  have join : ∀ (u : State) (p : Prop) [Decidable p] (t : TileNo), u.KeepsFeed (if p then u.tryJoin t else u) :=
    fun u p _ t => .ite (u.tryJoin_leaves t).keepsFeed (.refl _ u)
  have sweep : ∀ u : State, u.KeepsFeed u.runSweep := fun u => by
    unfold State.runSweep
    refine .ite ?_ (.refl _ u)
    split
    · next t _ =>
      exact SameBut.trans (t := { u with fmt := { u.fmt with sweep := t } }) (by constructor <;> simp)
        (State.tryJoin_leaves _ t).keepsFeed
    · exact .refl _ u
  unfold State.completeRender
  split
  · exact .refl _ s
  · next r _ =>
    exact ((SameBut.trans (t := { s with fmt := { s.fmt with
        tiles := s.fmt.tiles.write r.tile ((s.fmt.tiles.read r.tile).completed r.text), engine := none } })
      (by constructor <;> simp) (State.startRender_leaves _).keepsFeed).trans (join _ _ r.tile)).trans (sweep _)

/-- A change of the report side and the grant that may follow it (R35 to R37). -/
theorem State.grantAfter_keepsFeed (s : State) (r : ReportUnit) : s.KeepsFeed ({ s with rep := r } : State).tryGrant := by
  constructor <;> simp

theorem State.completeTransmission_keepsFeed (s : State) : s.KeepsFeed s.completeTransmission := by
  unfold State.completeTransmission
  split
  · exact .refl _ s
  · exact s.grantAfter_keepsFeed _

theorem State.removePanel_keepsFeed (s : State) (d : DisplayNo) : s.KeepsFeed (s.removePanel d) := by
  refine .ite (SameBut.trans ?_ (State.setFlag_leaves _ _).keepsFeed) (.refl _ s)
  constructor <;> simp

theorem State.attachPanel_keepsFeed (s : State) (d : DisplayNo) : s.KeepsFeed (s.attachPanel d) :=
  .ite (.refl _ s) (by constructor <;> simp)

/-- A command that is neither a reset, nor an event of the feed or of the flywheel, leaves the feed receiver alone. -/
theorem exec_keepsFeed {c : Instr} {s t : State} (hc : c.reachesFeed = false) (h : exec c s = .next t) :
    s.KeepsFeed t := by
  cases hd : c.directive? with
  | some d =>
    obtain ⟨k, tag, p⟩ := d
    rw [exec_of_directive hd] at h
    cases h
    exact s.consumeSpan_keepsFeed.trans (State.carryOut_keepsFeed _ _ tag p (directive_ne_restart hd hc))
  | none =>
    cases c with
    | tenthTick => cases h; constructor <;> simp [State.tickChimes]
    | secondTick o =>
      cases h
      exact SameBut.trans (t := { s with divider := { s.divider with secondDue := false } }) (by constructor <;> simp)
        (SameBut.foldl State.tickReceiver_keepsFeed _ _)
    | minuteBoundary => cases h; exact .ite s.advanceMinute_keepsFeed (.refl _ s)
    | enterHoldover => cases h; exact .ite s.advanceMinute_keepsFeed s.holdoverStep_spec.1.keepsFeed
    | enterLost => cases h; exact .ite s.advanceMinute_keepsFeed s.lostStep_spec.1.keepsFeed
    | clockSaturation => cases h; exact .ite s.loseClock_keepsFeed (.refl _ s)
    | lifetimeExpiry => cases h; exact (s.removeNotices_leaves _).keepsFeed
    | chimePatternStart i => cases h; exact .ite (s.setChime_keepsFeed i _) (.refl _ s)
    | chimeCountdownExpiry i => cases h; exact s.setChime_keepsFeed i _
    | pageTurn l r => cases h; exact .ite (s.turnPage_leaves l r).leaves.keepsFeed (.refl _ s)
    | tickerStep d => cases h; exact .ite (s.stepTicker_leaves d).leaves.keepsFeed (.refl _ s)
    | renderStart => cases h; exact s.startRender_leaves.keepsFeed
    | renderCompletion => cases h; exact s.completeRender_keepsFeed
    | chainPacketArrival p => cases h; exact .ite (s.grantAfter_keepsFeed _) (.refl _ s)
    | upstreamReady => cases h; exact s.grantAfter_keepsFeed _
    | upstreamReadyWithdrawal => cases h; constructor <;> simp [State.withdrawUpstreamReady]
    | transmissionCompletion => cases h; exact s.completeTransmission_keepsFeed
    | panelRemoval d => cases h; exact s.removePanel_keepsFeed d
    | panelAttachment d => cases h; exact s.attachPanel_keepsFeed d
    | _ => simp [Instr.directive?, Instr.reachesFeed] at hd hc

end Machine
end Sys2Proof
end

section
/-! SUPPORT. What an output frame start keeps at the staging queue, the ports, the latched colours and the committed texts
(R28, R139, R167, R169, R178). -/

namespace Sys2Proof.Machine

/-- The staging queue, the latched colours, the ports and the committed texts are the same in two states. -/
structure State.KeepsOutput (s t : State) : Prop where
  staging   : t.dir.staging = s.dir.staging
  latched   : t.comp.latched = s.comp.latched
  ports     : t.comp.ports = s.comp.ports
  committed : ∀ k : TileNo, (t.fmt.tiles.read k).committed = (s.fmt.tiles.read k).committed

theorem State.KeepsOutput.refl (s : State) : s.KeepsOutput s := ⟨rfl, rfl, rfl, fun _ => rfl⟩

theorem State.KeepsOutput.trans {s t u : State} (h : s.KeepsOutput t) (k : t.KeepsOutput u) : s.KeepsOutput u :=
  ⟨k.staging.trans h.staging, k.latched.trans h.latched, k.ports.trans h.ports,
    fun n => (k.committed n).trans (h.committed n)⟩

theorem State.KeepsOutput.ite {s t u : State} {p : Prop} [Decidable p] (h : s.KeepsOutput t) (k : s.KeepsOutput u) :
    s.KeepsOutput (if p then t else u) := by split <;> assumption

theorem State.KeepsOutput.foldl {α : Type} {f : State → α → State} (h : ∀ s a, State.KeepsOutput s (f s a)) :
    ∀ (as : List α) (s : State), s.KeepsOutput (as.foldl f s)
  | [], s => .refl s
  | a :: as, s => (h s a).trans (State.KeepsOutput.foldl h as (f s a))

theorem State.KeepsOutput.of_marks {s t : State} (h : s.Leaves [.rep, .fmt] t) : s.KeepsOutput t where
  staging := by rw [h.blocks.dir (by simp)]
  latched := by rw [h.blocks.comp (by simp)]
  ports := by rw [h.blocks.comp (by simp)]
  committed k := (h.tiles.tiles k).1

theorem State.KeepsOutput.of_flag {s t : State} (h : s.Leaves [.rep] t) : s.KeepsOutput t := .of_marks (h.mono (by simp))

/-! ### Tiles and records -/

theorem State.refuse_keepsOutput (kind tag : Byte) (reason : Reason) (s : State) :
    s.KeepsOutput (State.refuse kind tag reason s) := ⟨rfl, rfl, rfl, fun _ => rfl⟩

theorem State.setPage_keepsOutput (s : State) (l : LayoutNo) (r : RegionNo) (p : PageState) :
    s.KeepsOutput (s.setPage l r p) := ⟨rfl, rfl, rfl, fun _ => rfl⟩

theorem State.setTicker_keepsOutput (s : State) (d : DisplayNo) (t : Ticker) : s.KeepsOutput (s.setTicker d t) :=
  ⟨rfl, rfl, rfl, fun _ => rfl⟩

theorem State.setDisplay_keepsOutput (s : State) (d : DisplayNo) (x : Display) : s.KeepsOutput (s.setDisplay d x) :=
  ⟨rfl, rfl, rfl, fun _ => rfl⟩

theorem State.setComp_keepsOutput (s : State) {c : Compositor} (hl : c.latched = s.comp.latched := by rfl)
    (hp : c.ports = s.comp.ports := by rfl) : s.KeepsOutput (s.setComp c) := ⟨rfl, hl, hp, fun _ => rfl⟩

/-- A tile record and the render queue replaced, with the tile's committed text kept. -/
theorem State.KeepsOutput.of_write {s : State} {t : TileNo} {x : Tile} {q : List TileNo}
    (h : x.committed = (s.fmt.tiles.read t).committed) :
    s.KeepsOutput { s with fmt := { s.fmt with tiles := s.fmt.tiles.write t x, queue := q } } :=
  ⟨rfl, rfl, rfl, fun k => by
    dsimp only
    rw [Table.read_write]
    split
    · next e => rw [e, h]
    · rfl⟩

theorem State.setTile_keepsOutput (s : State) (t : TileNo) {x : Tile}
    (h : x.committed = (s.fmt.tiles.read t).committed := by rfl) :
    s.KeepsOutput (s.setTile t x) := .of_write (q := s.fmt.queue) h

theorem State.bindTile_keepsOutput (s : State) (t : TileNo) (b : Option Binding) : s.KeepsOutput (s.bindTile t b) := by
  unfold State.bindTile
  dsimp only
  split
  · exact (s.setTile_keepsOutput t).trans (.of_marks (State.makeDirty_leaves _ t))
  · exact (s.setTile_keepsOutput t).trans (.of_marks (State.makeDirty_leaves _ t))
  · exact s.setTile_keepsOutput t
  · exact s.setTile_keepsOutput t
  · exact s.setTile_keepsOutput t

theorem State.releaseTile_keepsOutput (s : State) (t : TileNo) : s.KeepsOutput (s.releaseTile t) := by
  unfold State.releaseTile
  dsimp only
  split
  · exact s.setTile_keepsOutput t
  · exact s.setTile_keepsOutput t
  · exact s.setTile_keepsOutput t
  · exact .of_write rfl
  · exact s.setTile_keepsOutput t

theorem State.releaseAll_keepsOutput (s : State) (ts : List TileNo) : s.KeepsOutput (s.releaseAll ts) :=
  .foldl State.releaseTile_keepsOutput ts s

theorem State.bindAll_keepsOutput (s : State) (l : LayoutNo) (ts : List TileNo) : s.KeepsOutput (s.bindAll l ts) :=
  .foldl (fun s t => s.bindTile_keepsOutput t _) ts s

/-! ### Staged directives -/

theorem State.tilesAfterWrite_keepsOutput (s : State) (b : Compositor) (l : LayoutNo) (w z : RegionNo → Bool) :
    s.KeepsOutput (s.tilesAfterWrite b l w z) := by
  have pages : ∀ (u : State) (r : RegionNo), u.KeepsOutput (u.pageAfterWrite b w l r) := fun u r => by
    unfold State.pageAfterWrite
    exact .ite (.ite (u.setPage_keepsOutput l r _) (.refl u)) (.ite (u.setPage_keepsOutput l r _) (.refl u))
  exact .ite (((State.KeepsOutput.foldl pages _ s).trans (State.releaseAll_keepsOutput _ _)).trans
    (State.bindAll_keepsOutput _ _ _)) (.refl s)

theorem State.landLayout_keepsOutput (s : State) (tag : Byte) (l : LayoutNo) (img : Layout) :
    s.KeepsOutput (s.landLayout tag l img) :=
  .ite ((s.setComp_keepsOutput).trans (State.tilesAfterWrite_keepsOutput _ _ _ _ _))
    (State.refuse_keepsOutput _ _ _ s)

theorem State.landRegion_keepsOutput (s : State) (tag : Byte) (i : Fin 128) (img : Region) :
    s.KeepsOutput (s.landRegion tag i img) :=
  .ite ((s.setComp_keepsOutput).trans (State.tilesAfterWrite_keepsOutput _ _ _ _ _))
    (State.refuse_keepsOutput _ _ _ s)

theorem State.selectAt_keepsOutput (tag : Byte) (l : LayoutNo) (s : State) (d : DisplayNo) :
    s.KeepsOutput (s.selectAt tag l d) :=
  .ite (State.refuse_keepsOutput _ _ _ s) (s.setDisplay_keepsOutput d _)

theorem Landing.land_keepsOutput (p : Landing) (x : Staged) : p.state.KeepsOutput (p.land x).state := by
  unfold Landing.land
  dsimp only
  split
  · exact .foldl (fun s d => s.setDisplay_keepsOutput d _) _ _
  · exact .foldl (State.selectAt_keepsOutput _ _) _ _
  · exact .foldl (fun s d => s.setDisplay_keepsOutput d _) _ _
  · exact .foldl (fun s d => s.setDisplay_keepsOutput d _) _ _
  · rw [Landing.freshIf_state]; exact p.state.landLayout_keepsOutput _ _ _
  · rw [Landing.freshIf_state]; exact p.state.landRegion_keepsOutput _ _ _
  · exact p.state.setComp_keepsOutput
  · exact p.state.setComp_keepsOutput

theorem Landing.foldl_keepsOutput : ∀ (xs : List Staged) (p : Landing),
    p.state.KeepsOutput (xs.foldl Landing.land p).state
  | [], p => .refl p.state
  | x :: xs, p => (p.land_keepsOutput x).trans (Landing.foldl_keepsOutput xs (p.land x))

/-! ### Modes, layouts and notice tiles -/

theorem State.settleMode_keepsOutput (s : State) (d : DisplayNo) : s.KeepsOutput (s.settleMode d) := by
  unfold State.settleMode
  dsimp only
  have wakes : ∀ (u : State) (p : Prop) [Decidable p], u.KeepsOutput (if p then State.setFlag .displayWoke u else u) :=
    fun u p _ => .ite (.of_flag (State.setFlag_leaves _ u)) (.refl u)
  have request : ∀ (u : State) (w : DisplaySet), u.KeepsOutput { u with notice := { u.notice with wake := w } } :=
    fun u w => ⟨rfl, rfl, rfl, fun _ => rfl⟩
  exact (((s.setDisplay_keepsOutput d _).trans (wakes _ _)).trans (request _ _)).trans (State.setDisplay_keepsOutput _ d _)

theorem State.recountLayouts_keepsOutput (s : State) : s.KeepsOutput s.recountLayouts := by
  unfold State.recountLayouts
  dsimp only
  have leave : ∀ (u : State) (l : LayoutNo), u.KeepsOutput (u.leaveLayout l) := fun u l =>
    (u.releaseAll_keepsOutput _).trans (.foldl (fun s r => s.setPage_keepsOutput l r _) _ _)
  have enter : ∀ (u : State) (l : LayoutNo), u.KeepsOutput (u.enterLayout l) := fun u l =>
    (State.KeepsOutput.foldl (fun s r => s.setPage_keepsOutput l r _) _ u).trans (State.bindAll_keepsOutput _ _ _)
  exact ((State.KeepsOutput.foldl leave _ s).trans (.foldl enter _ _)).trans (State.setComp_keepsOutput _)

theorem State.settleNotice_keepsOutput (f : BitVec 16) (old : Table Display 12) (s : State) (d : DisplayNo) :
    s.KeepsOutput (s.settleNotice f old d) := by
  have tile : s.KeepsOutput (s.settleTile d) := by
    unfold State.settleTile
    dsimp only
    exact .ite ((s.setComp_keepsOutput).trans (State.bindTile_keepsOutput _ _ _))
      (.ite ((s.setComp_keepsOutput).trans (State.releaseTile_keepsOutput _ _)) (s.setComp_keepsOutput))
  have ticker : ∀ u : State, u.KeepsOutput (u.settleTicker f d) := fun u => by
    unfold State.settleTicker
    dsimp only
    split
    · exact .ite ((u.setTicker_keepsOutput d _).trans (.of_marks (State.markTile_leaves _ _))) (.refl u)
    · exact u.setTicker_keepsOutput d _
  have change : ∀ u : State, u.KeepsOutput (u.settleChange (old.read d) (s.comp.bindsNotice d) d) := fun u =>
    .ite (.of_marks (u.markTile_leaves _)) (.refl u)
  exact ((tile.trans (ticker _)).trans (State.setDisplay_keepsOutput _ d _)).trans (change _)

/-! ### The output frame start -/

theorem State.landStaged_keepsOutput (s : State) : s.takeHanded.KeepsOutput s.landStaged.state :=
  Landing.foldl_keepsOutput s.dir.handed { state := s.takeHanded, fresh := 0 }

/-- Steps 3 to 5 of the compositor's handling (R167). -/
theorem State.compositorStart_keepsOutput (s : State) : s.landStaged.state.latchColours.KeepsOutput s.compositorStart :=
  ((State.KeepsOutput.foldl State.settleMode_keepsOutput _ _).trans (State.recountLayouts_keepsOutput _)).trans
    (.foldl (State.settleNotice_keepsOutput _ _) _ _)

/-- The compositor takes the CLOSED directives (R28). -/
theorem State.compositorStart_staging (s : State) :
    s.compositorStart.dir.staging = s.dir.staging.filter Staged.isCurrent :=
  s.compositorStart_keepsOutput.staging.trans s.landStaged_keepsOutput.staging

/-- The compositor latches the colour fields (R169). -/
theorem State.compositorStart_latched (s : State) : s.compositorStart.comp.latched = s.settings.colours := by
  have settings : s.landStaged.state.settings = s.settings := s.landStaged_same.settings (by simp)
  rw [s.compositorStart_keepsOutput.latched, ← settings]
  rfl

theorem State.compositorStart_ports (s : State) : s.compositorStart.comp.ports = s.comp.ports :=
  s.compositorStart_keepsOutput.ports.trans s.landStaged_keepsOutput.ports

theorem State.compositorStart_committed (s : State) (k : TileNo) :
    (s.compositorStart.fmt.tiles.read k).committed = (s.fmt.tiles.read k).committed :=
  (s.compositorStart_keepsOutput.committed k).trans (s.landStaged_keepsOutput.committed k)

/-- The commit of a tile, told by its committed text (R139). -/
theorem State.commitTiles_committed (s : State) (k : TileNo) :
    (s.commitTiles.fmt.tiles.read k).committed =
      if (s.fmt.tiles.read k).ready = true then (s.fmt.tiles.read k).pendingText
      else (s.fmt.tiles.read k).committed := by
  simp only [State.commitTiles, Table.read_tabulate, Tile.commit]
  split <;> rfl

theorem State.frameStartHandling_commitFirst (s : State) :
    s.frameStartHandling true = s.commitTiles.compositorStart := if_pos rfl

theorem State.frameStartHandling_commitLast (s : State) :
    s.frameStartHandling false = s.compositorStart.commitTiles := if_neg Bool.false_ne_true

theorem State.frameStartHandling_staging (s : State) (b : Bool) :
    (s.frameStartHandling b).dir.staging = s.dir.staging.filter Staged.isCurrent := by
  cases b with
  | false => rw [State.frameStartHandling_commitLast, State.commitTiles_dir, State.compositorStart_staging]
  | true => rw [State.frameStartHandling_commitFirst, State.compositorStart_staging, State.commitTiles_dir]

theorem State.frameStartHandling_latched (s : State) (b : Bool) :
    (s.frameStartHandling b).comp.latched = s.settings.colours := by
  cases b with
  | false => rw [State.frameStartHandling_commitLast, State.commitTiles_comp, State.compositorStart_latched]
  | true => rw [State.frameStartHandling_commitFirst, State.compositorStart_latched, State.commitTiles_settings]

theorem State.frameStartHandling_ports (s : State) (b : Bool) :
    (s.frameStartHandling b).comp.ports = s.comp.ports := by
  cases b with
  | false => rw [State.frameStartHandling_commitLast, State.commitTiles_comp, State.compositorStart_ports]
  | true => rw [State.frameStartHandling_commitFirst, State.compositorStart_ports, State.commitTiles_comp]

/-- With the commit first, every ready tile's pending text is committed and no other committed text changes (R139). -/
theorem State.frameStartHandling_committed (s : State) (k : TileNo) :
    ((s.frameStartHandling true).fmt.tiles.read k).committed =
      if (s.fmt.tiles.read k).ready = true then (s.fmt.tiles.read k).pendingText
      else (s.fmt.tiles.read k).committed := by
  rw [State.frameStartHandling_commitFirst, State.compositorStart_committed, State.commitTiles_committed]

end Sys2Proof.Machine
end

section
/-! SUPPORT. What each operation of the feed receiver does, case by case: losses of lock, output frame starts, the events of
the feed and of the flywheel (R1 to R15). -/

namespace Sys2Proof.Machine

theorem bump16_eq_min (n : Nat) : bump16 n = min 65535 (n + 1) := by
  unfold bump16 Config.countMax
  split <;> omega

/-! ### Directives at the feed receiver (R16, R17) -/

/-- A directive leaves the feed receiver alone or, a RESTART, resets its counts. -/
theorem State.directive_feed (s : State) (kind tag : Byte) (p : List Byte) :
    (s.directive kind tag p).feed = s.feed ∨ (s.directive kind tag p).feed = s.feed.restart := by
  unfold State.directive
  split
  · next k _ =>
    by_cases hk : k = .restart
    · subst hk
      cases p with
      | nil => exact .inr rfl
      | cons => exact .inl rfl
    · exact .inl ((State.carryOut_keepsFeed s.consumeSpan s.dir.span tag p hk).feed (by simp))
  · exact .inl rfl

/-! ### Losses of lock (R4, R6, R14, R29) -/

/-- The output frame in progress after a loss of lock: the flywheel completes a frame of the feed (R14). -/
def OutputFrame.passedOn : OutputFrame → OutputFrame
  | .feed k => if k < 1080 then .completing k else .closed
  | .closed => .closed
  | .completing k => .completing k
  | .flywheel k => .flywheel k

@[simp] theorem State.lockLost_feed (s : State) : s.lockLost.feed = s.feed := s.lockLost_spec.1.blocks.feed (by simp)

theorem State.flywheelTakeover_feed (s : State) :
    s.flywheelTakeover.feed = { s.feed with output := s.feed.output.passedOn } := by
  rcases s with ⟨⟨_, _, _, _, _, _, output, _, _⟩⟩
  cases output with
  | feed k => by_cases h : k < 1080 <;>
      simp [State.flywheelTakeover, OutputFrame.passedOn, Config.lines, h, State.outputEnd, State.setOutput, State.portsEnd]
  | closed => rfl
  | completing k => rfl
  | flywheel k => rfl

theorem State.flywheelTakeover_same (s : State) :
    SameBut [.feed, .comp] s s.flywheelTakeover ∧ s.comp.SameButPorts s.flywheelTakeover.comp := by
  unfold State.flywheelTakeover
  split
  · split
    · exact ⟨by constructor <;> simp, rfl⟩
    · exact ⟨by constructor <;> simp [State.outputEnd, State.portsEnd], rfl⟩
  · exact ⟨.refl _ s, rfl⟩
  · exact ⟨.refl _ s, rfl⟩
  · exact ⟨.refl _ s, rfl⟩

/-- A directive dropped at a loss of lock sets STAGE_DROP (R29). -/
theorem State.lockLost_stageDrop {s : State} (q : s.rep.Quiet) (h : ∃ x ∈ s.dir.staging, x.mark = .current) :
    AttentionFlag.stageDrop.isIn s.lockLost.rep.flags = true := by
  obtain ⟨x, hx, current⟩ := h
  have dropped : s.dir.staging.any Staged.isCurrent = true :=
    List.any_eq_true.mpr ⟨x, hx, by simp [Staged.isCurrent, current]⟩
  unfold State.lockLost
  rw [if_pos dropped]
  exact ReportUnit.setFlag_isIn _ .stageDrop q

theorem Staged.not_isCurrent (x : Staged) : (!x.isCurrent) = (x.mark == .closed) := by
  cases h : x.mark <;> simp [Staged.isCurrent, h]

/-- Where FEED_LOST is set and the feed receiver has changed, the directive unit's loss of lock and the flywheel's takeover
are all that a loss of lock does (R14, R29). -/
theorem State.losesLock_of_feedLost {s u : State} (same : SameBut [.feed, .rep] s u)
    (output : u.feed.output = s.feed.output) (grown : s.rep.Quiet → s.rep.GrownFrom u.rep)
    (lost : s.rep.Quiet → AttentionFlag.feedLost.isIn u.rep.flags = true) :
    s.LosesLock u.lockLost.flywheelTakeover := by
  obtain ⟨unit, dir⟩ := u.lockLost_spec
  obtain ⟨taken, screens⟩ := u.lockLost.flywheelTakeover_same
  have dirs : u.dir = s.dir := same.dir (by simp)
  have dir' : u.lockLost.flywheelTakeover.dir = u.lockLost.dir := taken.dir (by simp)
  have rep' : u.lockLost.flywheelTakeover.rep = u.lockLost.rep := taken.rep (by simp)
  have quiet : s.rep.Quiet → u.rep.Quiet := fun q => ReportUnit.Quiet.of_grown (grown q) q
  refine ⟨?_, ?_, ?_, ?_, ?_, ?_, fun q => ⟨?_, fun x => ?_⟩, fun q => ?_, ?_, ?_⟩
  · rw [dir', dir, dirs]
    exact List.filter_congr fun x _ => x.not_isCurrent
  · rw [dir', dir, dirs]
  · rw [dir', dir]
  · rw [dir', dir]
  · rw [dir', dir, dirs]; exact ⟨rfl, rfl⟩
  · rw [State.flywheelTakeover_feed, State.lockLost_feed, output]; rfl
  · rw [rep']; exact unit.flag (quiet q) (lost q)
  · rw [rep']; exact State.lockLost_stageDrop (quiet q) (by rwa [dirs])
  · rw [rep']; exact (grown q).trans (unit.reports (quiet q))
  · have comp : u.lockLost.comp = s.comp := (unit.blocks.comp (by simp)).trans (same.comp (by simp))
    rwa [comp] at screens
  · exact ((same.mono (by simp)).trans (unit.blocks.mono (by simp))).trans (taken.mono (by simp))

/-- What the feed receiver records after a loss of lock, beside the output frame, is another matter. -/
theorem State.LosesLock.setFeed {s t : State} (h : s.LosesLock t) {f : FeedReceiver} (output : f.output = t.feed.output) :
    s.LosesLock (t.setFeed f) :=
  { h with output := output.trans h.output, blocks := h.blocks.trans (by constructor <;> simp) }

theorem State.malformedLocked_feed (s : State) :
    s.malformedLocked.feed = { s.feed with
      lock := .search, malformedCount := min 65535 (s.feed.malformedCount + 1), output := s.feed.output.passedOn } := by
  simp [State.malformedLocked, State.flywheelTakeover_feed, State.countMalformed, bump16_eq_min]

theorem State.malformedLocked_losesLock (s : State) : s.LosesLock s.malformedLocked :=
  State.losesLock_of_feedLost (u := (s.countMalformed.setFlag .feedLost).setFeed _) (by constructor <;> simp) rfl
    (fun q => ReportUnit.setFlag_grown _ _ q) (fun q => ReportUnit.setFlag_isIn _ _ q)

/-! ### Output frame starts (R12, R13, R15, R178) -/

theorem OutputFrame.isOpen_iff (o : OutputFrame) : o.isOpen = true ↔ o ≠ .closed := by
  cases o <;> simp [OutputFrame.isOpen]

/-- An output frame start at the feed receiver: the frame is open and the cadence is latched (R12, R13). -/
theorem State.outputStart_feed (s : State) (o : OutputFrame) (b : Bool) :
    (s.outputStart o b).feed = { s.feed with output := o, latchedCadence := s.settings.cadence } :=
  (State.frameStartHandling_same _ b).feed (by simp)

theorem State.outputStart_same (s : State) (o : OutputFrame) (b : Bool) :
    SameBut (.feed :: startBlocks) s (s.outputStart o b) :=
  SameBut.trans (t := (s.portsStart s.feed.output.isOpen).setFeed
      { s.feed with output := o, latchedCadence := s.settings.cadence })
    (by constructor <;> simp [State.portsStart]) ((State.frameStartHandling_same _ b).mono (by simp))

theorem State.outputStart_staging (s : State) (o : OutputFrame) (b : Bool) :
    (s.outputStart o b).dir.staging = s.dir.staging.filter fun x => x.mark == .current :=
  State.frameStartHandling_staging _ b

theorem State.outputStart_latched (s : State) (o : OutputFrame) (b : Bool) :
    (s.outputStart o b).comp.latched = s.settings.colours := State.frameStartHandling_latched _ b

/-- Each port at an output frame start: the end of the frame still open, then the start at a panel that is present
(R15, R177, R178). -/
theorem State.outputStart_ports (s : State) (o : OutputFrame) (b : Bool) (d : DisplayNo) :
    (s.outputStart o b).comp.ports.read d =
      { sending := (s.display d).panelPresent
        sent := (if s.feed.output ≠ .closed ∧ (s.comp.ports.read d).sending = true then [.frameEnd] else []) ++
          (if (s.display d).panelPresent = true then [.frameStart] else []) } := by
  have ports : (s.outputStart o b).comp.ports = (s.portsStart s.feed.output.isOpen).comp.ports :=
    State.frameStartHandling_ports _ b
  rw [ports, State.portsStart, State.setPorts_ports, Table.read_tabulate]
  simp only [Bool.and_eq_true, OutputFrame.isOpen_iff]
  rfl

theorem State.outputStart_committed (s : State) (o : OutputFrame) (k : TileNo) :
    ((s.outputStart o true).fmt.tiles.read k).committed =
      if (s.fmt.tiles.read k).ready = true then (s.fmt.tiles.read k).pendingText
      else (s.fmt.tiles.read k).committed := by
  have fmt : ∀ f : FeedReceiver, ((s.portsStart s.feed.output.isOpen).setFeed f).fmt = s.fmt := fun f => by
    simp [State.portsStart]
  rw [State.outputStart, State.frameStartHandling_committed, fmt]

/-! ### The events of the feed, by lock state, candidate and phase -/

section
variable {s : State}

theorem State.takeFrameStart_of_noSignal (h : s.feed.lock = .noSignal) (n : Byte) (l : LaneMap) (b : Bool) :
    s.takeFrameStart n l b = s.repeatOut (.frameStart n l) := by simp only [State.takeFrameStart, h]

theorem State.takeFrameStart_of_search (h : s.feed.lock = .search) (n : Byte) (l : LaneMap) (b : Bool) :
    s.takeFrameStart n l b = (s.repeatOut (.frameStart n l)).searchFrameStart n l b := by
  simp only [State.takeFrameStart, h]

theorem State.takeFrameStart_of_between (h : s.feed.lock = .locked) (hp : s.feed.record.phase = .between) (n : Byte)
    (l : LaneMap) (b : Bool) :
    s.takeFrameStart n l b =
      ((s.repeatOut (.frameStart n l)).setRecord (FrameRecord.start n l)).outputStart (.feed 0) b := by
  simp only [State.takeFrameStart, h, State.lockedFrameStart, State.repeatOut_record, hp]

theorem State.takeFrameStart_of_open (h : s.feed.lock = .locked) (hp : s.feed.record.phase ≠ .between) (n : Byte)
    (l : LaneMap) (b : Bool) :
    s.takeFrameStart n l b = (s.repeatOut (.frameStart n l)).malformedLocked.followFrame n l := by
  cases phase : s.feed.record.phase <;>
    simp_all only [State.takeFrameStart, State.lockedFrameStart, State.repeatOut_record, ne_eq, not_true_eq_false]

theorem State.takeLineGroup_of_noSignal (h : s.feed.lock = .noSignal) (z : LaneLines) :
    s.takeLineGroup z = s.repeatOut (.lineGroup z) := by simp only [State.takeLineGroup, h]

theorem State.takeLineGroup_of_following (h : s.feed.lock = .search) (hc : s.feed.candidate = .following) (z : LaneLines) :
    s.takeLineGroup z = (s.repeatOut (.lineGroup z)).setRecord s.feed.record.addLine := by
  simp only [State.takeLineGroup, h, hc]

theorem State.takeLineGroup_of_not_following (h : s.feed.lock = .search) (hc : s.feed.candidate ≠ .following)
    (z : LaneLines) : s.takeLineGroup z = s.repeatOut (.lineGroup z) := by
  cases candidate : s.feed.candidate <;> simp_all only [State.takeLineGroup, ne_eq, not_true_eq_false]

theorem State.takeLineGroup_of_between (h : s.feed.lock = .locked) (hp : s.feed.record.phase = .between) (z : LaneLines) :
    s.takeLineGroup z = s.repeatOut (.lineGroup z) := by simp only [State.takeLineGroup, h, hp]

/-- A line group of a frame in LOCKED up to the 1080th: it is the next output line at the ports (R7, R12). -/
theorem State.takeLineGroup_of_line (h : s.feed.lock = .locked) (hp : s.feed.record.phase ≠ .between)
    (hk : s.feed.record.lineGroups < 1080) (z : LaneLines) :
    s.takeLineGroup z =
      ((((s.repeatOut (.lineGroup z)).setRecord s.feed.record.addLine).portsLine
        (some (s.feed.record.lanes, z)) s.feed.record.lineGroups).setOutput (.feed (s.feed.record.lineGroups + 1))) := by
  cases phase : s.feed.record.phase <;>
    simp_all only [State.takeLineGroup, State.lockedLine, State.repeatOut_record, Config.lines, if_true, ne_eq,
      not_true_eq_false]

/-- A line group past the 1080th of a frame in LOCKED is counted and not handed on (R2, R12). -/
theorem State.takeLineGroup_of_excess (h : s.feed.lock = .locked) (hp : s.feed.record.phase ≠ .between)
    (hk : 1080 ≤ s.feed.record.lineGroups) (z : LaneLines) :
    s.takeLineGroup z = (s.repeatOut (.lineGroup z)).setRecord s.feed.record.addLine := by
  have past : ¬ s.feed.record.lineGroups < 1080 := Nat.not_lt.mpr hk
  cases phase : s.feed.record.phase <;>
    simp_all only [State.takeLineGroup, State.lockedLine, State.repeatOut_record, Config.lines, if_false, ne_eq,
      not_true_eq_false]

theorem State.takeFrameEnd_of_noSignal (h : s.feed.lock = .noSignal) : s.takeFrameEnd = s.repeatOut .frameEnd := by
  simp only [State.takeFrameEnd, h]

theorem State.takeFrameEnd_of_not_following (h : s.feed.lock = .search) (hc : s.feed.candidate ≠ .following) :
    s.takeFrameEnd = s.repeatOut .frameEnd := by
  cases candidate : s.feed.candidate <;> simp_all only [State.takeFrameEnd, ne_eq, not_true_eq_false]

/-- The frame end of a candidate frame with its 1080 line groups makes the candidate COMPLETE (R3). -/
theorem State.takeFrameEnd_of_complete (h : s.feed.lock = .search) (hc : s.feed.candidate = .following)
    (hk : s.feed.record.lineGroups = 1080) :
    s.takeFrameEnd = (s.repeatOut .frameEnd).setFeed { (s.repeatOut .frameEnd).feed with
      record := s.feed.record.leave, candidate := .complete } := by
  simp only [State.takeFrameEnd, h, hc, hk, Config.lines, if_true]

theorem State.takeFrameEnd_of_cut (h : s.feed.lock = .search) (hc : s.feed.candidate = .following)
    (hk : s.feed.record.lineGroups ≠ 1080) :
    s.takeFrameEnd = (s.repeatOut .frameEnd).countMalformed.abandonFrame := by
  simp only [State.takeFrameEnd, h, hc, hk, Config.lines, if_false]

theorem State.takeFrameEnd_of_between (h : s.feed.lock = .locked) (hp : s.feed.record.phase = .between) :
    s.takeFrameEnd = s.repeatOut .frameEnd := by simp only [State.takeFrameEnd, h, hp]

/-- The frame end of a well-formed frame in LOCKED (R12, R27). -/
theorem State.takeFrameEnd_of_wellFormed (h : s.feed.lock = .locked) (hp : s.feed.record.phase ≠ .between)
    (hk : s.feed.record.lineGroups = 1080) :
    s.takeFrameEnd = (((s.repeatOut .frameEnd).setRecord s.feed.record.leave).outputEnd).frameClosed := by
  cases phase : s.feed.record.phase <;>
    simp_all only [State.takeFrameEnd, State.lockedFrameEnd, State.repeatOut_record, Config.lines, if_true, ne_eq,
      not_true_eq_false]

theorem State.takeFrameEnd_of_malformed (h : s.feed.lock = .locked) (hp : s.feed.record.phase ≠ .between)
    (hk : s.feed.record.lineGroups ≠ 1080) :
    s.takeFrameEnd = (s.repeatOut .frameEnd).malformedLocked.abandonFrame := by
  cases phase : s.feed.record.phase <;>
    simp_all only [State.takeFrameEnd, State.lockedFrameEnd, State.repeatOut_record, Config.lines, if_false, ne_eq,
      not_true_eq_false]

theorem State.takeMarginPacket_of_noSignal (h : s.feed.lock = .noSignal) (bytes : List Byte) :
    s.takeMarginPacket bytes = s.repeatOut (.marginPacket bytes) := by simp only [State.takeMarginPacket, h]

theorem State.takeMarginPacket_of_not_following (h : s.feed.lock = .search) (hc : s.feed.candidate ≠ .following)
    (bytes : List Byte) : s.takeMarginPacket bytes = s.repeatOut (.marginPacket bytes) := by
  cases candidate : s.feed.candidate <;>
    simp_all only [State.takeMarginPacket, State.searchPacket, State.repeatOut_candidate, ne_eq, not_true_eq_false]

/-- A margin packet outside the margin interval of the candidate frame is repeated and no more (log 19). -/
theorem State.takeMarginPacket_of_search_not_margin (h : s.feed.lock = .search) (hp : s.feed.record.phase ≠ .margin)
    (bytes : List Byte) : s.takeMarginPacket bytes = s.repeatOut (.marginPacket bytes) := by
  cases candidate : s.feed.candidate <;> cases phase : s.feed.record.phase <;>
    simp_all only [State.takeMarginPacket, State.searchPacket, State.repeatOut_candidate, State.repeatOut_record, ne_eq,
      not_true_eq_false]

theorem State.takeMarginPacket_of_counted (h : s.feed.lock = .search) (hc : s.feed.candidate = .following)
    (hp : s.feed.record.phase = .margin) (hk : s.feed.record.marginPackets < 24) (bytes : List Byte) :
    s.takeMarginPacket bytes = (s.repeatOut (.marginPacket bytes)).setRecord s.feed.record.addPacket := by
  simp only [State.takeMarginPacket, h, State.searchPacket, State.repeatOut_candidate, hc, State.repeatOut_record, hp,
    Config.marginLimit, hk, if_true]

theorem State.takeMarginPacket_of_search_excess (h : s.feed.lock = .search) (hc : s.feed.candidate = .following)
    (hp : s.feed.record.phase = .margin) (hk : 24 ≤ s.feed.record.marginPackets) (bytes : List Byte) :
    s.takeMarginPacket bytes =
      (((s.repeatOut (.marginPacket bytes)).setRecord s.feed.record.addPacket).countMalformed).abandonFrame := by
  simp only [State.takeMarginPacket, h, State.searchPacket, State.repeatOut_candidate, hc, State.repeatOut_record, hp,
    Config.marginLimit, Nat.not_lt.mpr hk, if_false]

theorem State.takeMarginPacket_of_not_margin (h : s.feed.lock = .locked) (hp : s.feed.record.phase ≠ .margin)
    (bytes : List Byte) : s.takeMarginPacket bytes = s.repeatOut (.marginPacket bytes) := by
  cases phase : s.feed.record.phase <;>
    simp_all only [State.takeMarginPacket, State.lockedPacket, State.repeatOut_record, ne_eq, not_true_eq_false]

theorem State.takeMarginPacket_of_margin (h : s.feed.lock = .locked) (hp : s.feed.record.phase = .margin)
    (hk : s.feed.record.marginPackets < 24) (bytes : List Byte) :
    s.takeMarginPacket bytes =
      ((s.repeatOut (.marginPacket bytes)).setRecord s.feed.record.addPacket).takePacket bytes := by
  simp only [State.takeMarginPacket, h, State.lockedPacket, State.repeatOut_record, hp, Config.marginLimit, hk, if_true]

theorem State.takeMarginPacket_of_locked_excess (h : s.feed.lock = .locked) (hp : s.feed.record.phase = .margin)
    (hk : 24 ≤ s.feed.record.marginPackets) (bytes : List Byte) :
    s.takeMarginPacket bytes =
      ((s.repeatOut (.marginPacket bytes)).setRecord s.feed.record.addPacket).malformedLocked.abandonFrame := by
  simp only [State.takeMarginPacket, h, State.lockedPacket, State.repeatOut_record, hp, Config.marginLimit,
    Nat.not_lt.mpr hk, if_false]

end

end Sys2Proof.Machine
end

section
/-! SUPPORT. The coherence of the feed receiver, kept by every command (R2, R3, R8, R12, R14). -/

namespace Sys2Proof.Machine

/-! ### The output frame and the counts -/

theorem OutputFrame.passedOn_ne_feed (o : OutputFrame) (k : Nat) : o.passedOn ≠ .feed k := by
  cases o with
  | feed j => simp only [OutputFrame.passedOn]; split <;> simp
  | closed | completing | flywheel => simp [OutputFrame.passedOn]

theorem OutputFrame.passedOn_next {o : OutputFrame} (h : ∀ k, o.next? = some k → k ≤ 1080) (k : Nat)
    (hk : o.passedOn.next? = some k) : k ≤ 1080 := by
  cases o with
  | feed j =>
    simp only [OutputFrame.passedOn] at hk
    split at hk
    · exact h k hk
    · cases hk
  | closed | completing | flywheel => exact h k hk

theorem bump16_le (n : Nat) : bump16 n ≤ 65535 := by rw [bump16_eq_min]; omega

/-! ### Changes of the feed receiver that keep its coherence -/

namespace FeedReceiver.Coherent
variable {f : FeedReceiver}

theorem withFeedOut (h : f.Coherent) (o : FeedOut) : Coherent { f with feedOut := o } := { h with }

theorem withCheckFails (h : f.Coherent) {n : Nat} (hn : n ≤ 65535) : Coherent { f with checkFailCount := n } :=
  { h with checks := hn }

theorem restart (h : f.Coherent) : f.restart.Coherent := { h with malformed := Nat.zero_le _, checks := Nat.zero_le _ }

/-- Outside LOCKED, with no candidate frame followed, the output frame does not follow the feed (R1, R4, R6, R14). -/
theorem leave (h : f.Coherent) {lock : LockState} (hl : lock ≠ .locked) {r : FrameRecord} (hr : r.phase = .between)
    {n : Nat} (hn : n ≤ 65535) {o : OutputFrame} (ho : ∀ k, o ≠ .feed k) (lines : ∀ k, o.next? = some k → k ≤ 1080) :
    Coherent { f with lock := lock, candidate := .absent, record := r, malformedCount := n, output := o } where
  malformed := hn
  checks := h.checks
  silent _ := hr
  search _ := by simp [hr]
  locked e := absurd e hl
  unlocked _ := ho
  margin e := by simp [hr] at e
  active e := by simp [hr] at e
  lines := lines

/-- A frame start in SEARCH, or one that loses lock, is a new candidate (R3 to R5). -/
theorem follow (h : f.Coherent) {lock : LockState} (hl : lock = .search) (n : Byte) (l : LaneMap) {m : Nat}
    (hm : m ≤ 65535) {o : OutputFrame} (ho : ∀ k, o ≠ .feed k) (lines : ∀ k, o.next? = some k → k ≤ 1080) :
    Coherent { f with
      lock := lock, candidate := .following, record := FrameRecord.start n l, malformedCount := m, output := o } where
  malformed := hm
  checks := h.checks
  silent e := by simp [hl] at e
  search _ := by simp [FrameRecord.start]
  locked e := by simp [hl] at e
  unlocked _ := ho
  margin _ := ⟨rfl, Nat.zero_le _⟩
  active := nofun
  lines := lines

/-- The frame start of a frame in LOCKED opens the output frame (R3, R12). -/
theorem openFrame (h : f.Coherent) {lock : LockState} (hl : lock = .locked) (n : Byte) (l : LaneMap) (c : Candidate)
    (cadence : Cadence) :
    Coherent { f with
      lock := lock, candidate := c, record := FrameRecord.start n l, output := .feed 0, latchedCadence := cadence } where
  malformed := h.malformed
  checks := h.checks
  silent e := by simp [hl] at e
  search e := by simp [hl] at e
  locked _ := rfl
  unlocked e := absurd hl e
  margin _ := ⟨rfl, Nat.zero_le _⟩
  active := nofun
  lines k e := by cases e; exact Nat.zero_le _

/-- A frame of the flywheel's own opens outside LOCKED (R13). -/
theorem openFlywheel (h : f.Coherent) (hl : f.lock ≠ .locked) (cadence : Cadence) :
    Coherent { f with output := .flywheel 0, latchedCadence := cadence } :=
  { h with
    locked := fun e => absurd e hl
    unlocked := nofun
    lines := fun k e => by cases e; exact Nat.zero_le _ }

/-- The output frame closes outside LOCKED (R14). -/
theorem closeOutput (h : f.Coherent) (hl : f.lock ≠ .locked) : Coherent { f with output := .closed } :=
  { h with locked := fun e => absurd e hl, unlocked := nofun, lines := nofun }

/-- The output frame closes at the frame end of a frame in LOCKED (R12). -/
theorem closeFrame (h : f.Coherent) (hl : f.lock = .locked) : Coherent { f with record := f.record.leave, output := .closed } :=
  { h with
    silent := fun _ => rfl
    search := fun e => by rw [hl] at e; cases e
    locked := fun _ => rfl
    unlocked := nofun
    margin := nofun
    active := nofun
    lines := nofun }

/-- The candidate frame is well-formed (R3). -/
theorem completeCandidate (h : f.Coherent) (hl : f.lock = .search) :
    Coherent { f with record := f.record.leave, candidate := .complete } :=
  { h with
    silent := fun _ => rfl
    search := fun _ => by simp [FrameRecord.leave]
    locked := fun e => by rw [hl] at e; cases e
    margin := nofun
    active := nofun }

/-- A margin packet of the frame is counted (R2). -/
theorem addPacket (h : f.Coherent) (hp : f.record.phase = .margin) (hk : f.record.marginPackets < 24) :
    Coherent { f with record := f.record.addPacket } :=
  { h with
    margin := fun e => ⟨(h.margin e).1, hk⟩
    active := fun e => by simp [FrameRecord.addPacket, hp] at e }

/-- The margin packets and the line groups of a frame in progress (R2). -/
theorem packets_of_open (h : f.Coherent) (hp : f.record.phase ≠ .between) : f.record.marginPackets ≤ 24 := by
  cases phase : f.record.phase with
  | between => exact absurd phase hp
  | margin => exact (h.margin phase).2
  | active => exact (h.active phase).2

/-- A line group of a candidate frame (R3). -/
theorem addCandidateLine (h : f.Coherent) (hl : f.lock = .search) (hc : f.candidate = .following) :
    Coherent { f with record := f.record.addLine } :=
  { h with
    silent := fun e => by rw [hl] at e; cases e
    search := fun _ => by simp [FrameRecord.addLine, hc]
    locked := fun e => by rw [hl] at e; cases e
    margin := nofun
    active := fun _ => ⟨Nat.le_add_left 1 _, h.packets_of_open ((h.search hl).mp hc)⟩ }

/-- A line group of a frame in LOCKED: the output frame follows (R12). -/
theorem addLine (h : f.Coherent) (hl : f.lock = .locked) (hp : f.record.phase ≠ .between) {o : OutputFrame}
    (ho : o = .feed (min (f.record.lineGroups + 1) 1080)) :
    Coherent { f with record := f.record.addLine, output := o } :=
  { h with
    silent := fun e => by rw [hl] at e; cases e
    search := fun e => by rw [hl] at e; cases e
    locked := fun _ => ho
    unlocked := fun e => absurd hl e
    margin := nofun
    active := fun _ => ⟨Nat.le_add_left 1 _, h.packets_of_open hp⟩
    lines := fun k e => by subst ho; cases e; exact Nat.min_le_right _ _ }

/-- The next line of an output frame that does not follow the feed (R13, R14). -/
theorem nextLine (h : f.Coherent) (hl : f.lock ≠ .locked) {o : OutputFrame} (hf : ∀ k, o ≠ .feed k)
    (ho : ∀ k, o.next? = some k → k ≤ 1080) : Coherent { f with output := o } :=
  { h with locked := fun e => absurd e hl, unlocked := fun _ => hf, lines := ho }

/-- In LOCKED the output frame is closed or follows the feed, so a frame of the flywheel's says that lock is not held (R12). -/
theorem unlocked_of_output (h : f.Coherent) (hc : f.output ≠ .closed) (hf : ∀ k, f.output ≠ .feed k) :
    f.lock ≠ .locked := fun lock => by
  have output := h.locked lock
  split at output
  · exact hc output
  · exact hf _ output

end FeedReceiver.Coherent

/-! ### The operations -/

theorem State.abandonFrame_feed (s : State) :
    s.abandonFrame.feed = { s.feed with record := s.feed.record.leave, candidate := .absent } := rfl

theorem State.followFrame_feed (s : State) (n : Byte) (l : LaneMap) :
    (s.followFrame n l).feed = { s.feed with record := FrameRecord.start n l, candidate := .following } := rfl

section
variable {s : State}

theorem State.repeatOut_coherent (h : s.feed.Coherent) (e : FeedEvent) : (s.repeatOut e).feed.Coherent := h.withFeedOut _

/-- A malformed frame in LOCKED that its event abandons (R4). -/
theorem State.malformedLocked_abandon_coherent (h : s.feed.Coherent) (r : FrameRecord) :
    (s.setRecord r).malformedLocked.abandonFrame.feed.Coherent := by
  rw [State.abandonFrame_feed, State.malformedLocked_feed]
  exact h.leave (lock := .search) nofun rfl (Nat.min_le_left _ _) (OutputFrame.passedOn_ne_feed _)
    (OutputFrame.passedOn_next h.lines)

theorem State.acquireSymbols_coherent (h : s.feed.Coherent) : s.acquireSymbols.feed.Coherent := by
  unfold State.acquireSymbols
  split
  · next lock =>
    have unlocked : s.feed.lock ≠ .locked := by simp [lock]
    exact (h.leave (lock := .search) nofun (h.silent lock) h.malformed (h.unlocked unlocked) h.lines).withFeedOut _
  · exact h
  · exact h

theorem State.loseSymbols_coherent (h : s.feed.Coherent) : s.loseSymbols.feed.Coherent := by
  unfold State.loseSymbols
  dsimp only
  split
  · next lock =>
    have unlocked : s.feed.lock ≠ .locked := by simp [lock]
    exact (h.leave (lock := .noSignal) nofun rfl h.malformed (h.unlocked unlocked) h.lines).withFeedOut _
  · next lock =>
    have unlocked : s.feed.lock ≠ .locked := by simp [lock]
    exact (h.leave (lock := .noSignal) nofun rfl h.malformed (h.unlocked unlocked) h.lines).withFeedOut _
  · rw [State.flywheelTakeover_feed, State.lockLost_feed, State.setFlag_feed, State.setFeed_feed]
    exact (h.leave (lock := .noSignal) nofun rfl h.malformed (OutputFrame.passedOn_ne_feed _)
      (OutputFrame.passedOn_next h.lines)).withFeedOut _

theorem State.frameTimeout_coherent (h : s.feed.Coherent) : s.frameTimeout.feed.Coherent := by
  unfold State.frameTimeout
  split
  · exact h
  · exact h
  · dsimp only
    rw [State.flywheelTakeover_feed, State.lockLost_feed, State.setFeed_feed, State.setFlag_feed]
    exact h.leave (lock := .search) nofun rfl h.malformed (OutputFrame.passedOn_ne_feed _)
      (OutputFrame.passedOn_next h.lines)

theorem State.takeFrameStart_coherent (h : s.feed.Coherent) (n : Byte) (l : LaneMap) (b : Bool) :
    (s.takeFrameStart n l b).feed.Coherent := by
  have k := State.repeatOut_coherent h (.frameStart n l)
  cases lock : s.feed.lock with
  | noSignal => rwa [State.takeFrameStart_of_noSignal lock]
  | search =>
    have unlocked : s.feed.lock ≠ .locked := by simp [lock]
    rw [State.takeFrameStart_of_search lock, State.searchFrameStart]
    split
    · exact k.follow lock n l k.malformed (k.unlocked unlocked) k.lines
    · exact k.follow lock n l (bump16_le _) (k.unlocked unlocked) k.lines
    · split
      · rw [State.acquireLock, State.outputStart_feed]
        exact k.openFrame rfl n l .absent _
      · exact k.follow lock n l k.malformed (k.unlocked unlocked) k.lines
  | locked =>
    by_cases phase : s.feed.record.phase = .between
    · rw [State.takeFrameStart_of_between lock phase, State.outputStart_feed]
      exact k.openFrame lock n l _ _
    · rw [State.takeFrameStart_of_open lock phase, State.followFrame_feed, State.malformedLocked_feed]
      exact k.follow rfl n l (Nat.min_le_left _ _) (OutputFrame.passedOn_ne_feed _) (OutputFrame.passedOn_next k.lines)

theorem State.takeLineGroup_coherent (h : s.feed.Coherent) (z : LaneLines) : (s.takeLineGroup z).feed.Coherent := by
  have k := State.repeatOut_coherent h (.lineGroup z)
  cases lock : s.feed.lock with
  | noSignal => rwa [State.takeLineGroup_of_noSignal lock]
  | search =>
    by_cases candidate : s.feed.candidate = .following
    · rw [State.takeLineGroup_of_following lock candidate]
      exact k.addCandidateLine lock candidate
    · rwa [State.takeLineGroup_of_not_following lock candidate]
  | locked =>
    by_cases phase : s.feed.record.phase = .between
    · rwa [State.takeLineGroup_of_between lock phase]
    · by_cases lines : s.feed.record.lineGroups < 1080
      · rw [State.takeLineGroup_of_line lock phase lines]
        exact k.addLine lock phase (by rw [State.repeatOut_record, Nat.min_eq_left lines])
      · have excess := Nat.le_of_not_lt lines
        rw [State.takeLineGroup_of_excess lock phase excess]
        refine k.addLine lock phase ?_
        have output := h.locked lock
        rw [if_neg phase, Nat.min_eq_right excess] at output
        rw [State.repeatOut_output, State.repeatOut_record, output, Nat.min_eq_right (Nat.le_succ_of_le excess)]

theorem State.takeFrameEnd_coherent (h : s.feed.Coherent) : s.takeFrameEnd.feed.Coherent := by
  have k := State.repeatOut_coherent h .frameEnd
  cases lock : s.feed.lock with
  | noSignal => rwa [State.takeFrameEnd_of_noSignal lock]
  | search =>
    have unlocked : s.feed.lock ≠ .locked := by simp [lock]
    by_cases candidate : s.feed.candidate = .following
    · by_cases lines : s.feed.record.lineGroups = 1080
      · rw [State.takeFrameEnd_of_complete lock candidate lines]
        exact k.completeCandidate lock
      · rw [State.takeFrameEnd_of_cut lock candidate lines]
        exact k.leave unlocked rfl (bump16_le _) (k.unlocked unlocked) k.lines
    · rwa [State.takeFrameEnd_of_not_following lock candidate]
  | locked =>
    by_cases phase : s.feed.record.phase = .between
    · rwa [State.takeFrameEnd_of_between lock phase]
    · by_cases lines : s.feed.record.lineGroups = 1080
      · rw [State.takeFrameEnd_of_wellFormed lock phase lines]
        exact k.closeFrame lock
      · rw [State.takeFrameEnd_of_malformed lock phase lines]
        exact State.malformedLocked_abandon_coherent k s.feed.record

theorem State.takePacket_coherent (h : s.feed.Coherent) (bytes : List Byte) : (s.takePacket bytes).feed.Coherent := by
  unfold State.takePacket
  split
  · split
    · rcases s.directive_feed (imageByte bytes 2) (imageByte bytes 3) (packetPayload bytes) with e | e
      · rwa [e]
      · rw [e]; exact h.restart
    · exact h
  · exact h.withCheckFails (bump16_le _)

theorem State.takeMarginPacket_coherent (h : s.feed.Coherent) (bytes : List Byte) :
    (s.takeMarginPacket bytes).feed.Coherent := by
  have k := State.repeatOut_coherent h (.marginPacket bytes)
  cases lock : s.feed.lock with
  | noSignal => rwa [State.takeMarginPacket_of_noSignal lock]
  | search =>
    have unlocked : s.feed.lock ≠ .locked := by simp [lock]
    by_cases phase : s.feed.record.phase = .margin
    · have candidate : s.feed.candidate = .following := (h.search lock).mpr (by simp [phase])
      by_cases room : s.feed.record.marginPackets < 24
      · rw [State.takeMarginPacket_of_counted lock candidate phase room]
        exact k.addPacket phase room
      · rw [State.takeMarginPacket_of_search_excess lock candidate phase (Nat.le_of_not_lt room)]
        exact k.leave unlocked rfl (bump16_le _) (k.unlocked unlocked) k.lines
    · rwa [State.takeMarginPacket_of_search_not_margin lock phase]
  | locked =>
    by_cases phase : s.feed.record.phase = .margin
    · by_cases room : s.feed.record.marginPackets < 24
      · rw [State.takeMarginPacket_of_margin lock phase room]
        exact State.takePacket_coherent (k.addPacket phase room) bytes
      · rw [State.takeMarginPacket_of_locked_excess lock phase (Nat.le_of_not_lt room)]
        exact State.malformedLocked_abandon_coherent k _
    · rwa [State.takeMarginPacket_of_not_margin lock phase]

theorem State.flywheelStart_coherent (h : s.feed.Coherent) (b : Bool) : (s.flywheelStart b).feed.Coherent := by
  unfold State.flywheelStart
  split
  · next free =>
    have unlocked : s.feed.lock ≠ .locked := by
      rintro e
      simp [FeedReceiver.flywheelFree, e] at free
    rw [State.outputStart_feed]
    exact h.openFlywheel unlocked _
  · exact h

theorem State.flywheelLine_coherent (h : s.feed.Coherent) : s.flywheelLine.feed.Coherent := by
  have next : ∀ k, k < 1080 → ∀ j, some (k + 1) = some j → j ≤ 1080 := fun k hk j e => by cases e; exact hk
  unfold State.flywheelLine
  split
  · exact h
  · exact h
  · next k output =>
    split
    · next hk =>
      exact h.nextLine (h.unlocked_of_output (by simp [output]) (by simp [output])) (o := .completing (k + 1)) nofun
        (next k hk)
    · exact h
  · next k output =>
    split
    · next hk =>
      exact h.nextLine (h.unlocked_of_output (by simp [output]) (by simp [output])) (o := .flywheel (k + 1)) nofun
        (next k hk)
    · exact h

theorem State.flywheelEnd_coherent (h : s.feed.Coherent) : s.flywheelEnd.feed.Coherent := by
  unfold State.flywheelEnd
  split
  · exact h
  · exact h
  · next output => exact h.closeOutput (h.unlocked_of_output (by simp [output]) (by simp [output]))
  · next output => exact h.closeOutput (h.unlocked_of_output (by simp [output]) (by simp [output]))

end

/-- The feed receiver after power-on reset is coherent (R16). -/
theorem FeedReceiver.reset_coherent (straps : Fin 8) : (FeedReceiver.reset straps).Coherent where
  malformed := Nat.zero_le _
  checks := Nat.zero_le _
  silent _ := rfl
  search := nofun
  locked := nofun
  unlocked _ := nofun
  margin := nofun
  active := nofun
  lines := nofun

/-- Every command keeps the feed receiver coherent. -/
theorem exec_keeps_feed_coherent {c : Instr} {s t : State} (h : s.feed.Coherent) (run : exec c s = .next t) :
    t.feed.Coherent := by
  cases reaches : c.reachesFeed with
  | false => rw [(exec_keepsFeed reaches run).feed (by simp)]; exact h
  | true =>
    cases c with
    | powerOnReset straps sense => cases run; exact FeedReceiver.reset_coherent straps
    | symbolAcquisition => cases run; exact State.acquireSymbols_coherent h
    | symbolLoss => cases run; exact State.loseSymbols_coherent h
    | frameStart n l b => cases run; exact State.takeFrameStart_coherent h n l b
    | marginPacket bytes => cases run; exact State.takeMarginPacket_coherent h bytes
    | lineGroup z => cases run; exact State.takeLineGroup_coherent h z
    | frameEnd => cases run; exact State.takeFrameEnd_coherent h
    | frameTimeout => cases run; exact State.frameTimeout_coherent h
    | flywheelFrameStart b => cases run; exact State.flywheelStart_coherent h b
    | flywheelLine => cases run; exact State.flywheelLine_coherent h
    | flywheelFrameEnd => cases run; exact State.flywheelEnd_coherent h
    | restart tag p =>
      cases run
      cases p with
      | nil => exact h.restart
      | cons => exact h
    | _ => simp [Instr.reachesFeed] at reaches

/-- Settles O6: an idle step changes nothing, and every command keeps the feed receiver coherent. -/
theorem feedStaysCoherent : Obligations.FeedStaysCoherent := by
  unfold Obligations.FeedStaysCoherent
  intro s t h run
  unfold step at run
  split at run
  · cases run; exact h
  · next c rest _ => exact exec_keeps_feed_coherent (s := { s with pending := rest }) h run

end Sys2Proof.Machine
end

section
/-! SUPPORT. Every event of the program feed on feed out (R11). -/

namespace Sys2Proof.Machine

theorem State.takeFrameStart_feedOut (s : State) (n : Byte) (l : LaneMap) (b : Bool) :
    (s.takeFrameStart n l b).feed.feedOut = .event (.frameStart n l) := by
  cases lock : s.feed.lock with
  | noSignal => rw [State.takeFrameStart_of_noSignal lock]; rfl
  | search =>
    rw [State.takeFrameStart_of_search lock, State.searchFrameStart]
    split
    · rfl
    · rfl
    · split
      · rw [State.acquireLock, State.outputStart_feed]; rfl
      · rfl
  | locked =>
    by_cases phase : s.feed.record.phase = .between
    · rw [State.takeFrameStart_of_between lock phase, State.outputStart_feed]; rfl
    · rw [State.takeFrameStart_of_open lock phase, State.followFrame_feed, State.malformedLocked_feed]; rfl

theorem State.takeLineGroup_feedOut (s : State) (z : LaneLines) :
    (s.takeLineGroup z).feed.feedOut = .event (.lineGroup z) := by
  cases lock : s.feed.lock with
  | noSignal => rw [State.takeLineGroup_of_noSignal lock]; rfl
  | search =>
    by_cases candidate : s.feed.candidate = .following
    · rw [State.takeLineGroup_of_following lock candidate]; rfl
    · rw [State.takeLineGroup_of_not_following lock candidate]; rfl
  | locked =>
    by_cases phase : s.feed.record.phase = .between
    · rw [State.takeLineGroup_of_between lock phase]; rfl
    · by_cases lines : s.feed.record.lineGroups < 1080
      · rw [State.takeLineGroup_of_line lock phase lines]; rfl
      · rw [State.takeLineGroup_of_excess lock phase (Nat.le_of_not_lt lines)]; rfl

theorem State.takeFrameEnd_feedOut (s : State) : s.takeFrameEnd.feed.feedOut = .event .frameEnd := by
  cases lock : s.feed.lock with
  | noSignal => rw [State.takeFrameEnd_of_noSignal lock]; rfl
  | search =>
    by_cases candidate : s.feed.candidate = .following
    · by_cases lines : s.feed.record.lineGroups = 1080
      · rw [State.takeFrameEnd_of_complete lock candidate lines]; rfl
      · rw [State.takeFrameEnd_of_cut lock candidate lines]; rfl
    · rw [State.takeFrameEnd_of_not_following lock candidate]; rfl
  | locked =>
    by_cases phase : s.feed.record.phase = .between
    · rw [State.takeFrameEnd_of_between lock phase]; rfl
    · by_cases lines : s.feed.record.lineGroups = 1080
      · rw [State.takeFrameEnd_of_wellFormed lock phase lines]; rfl
      · rw [State.takeFrameEnd_of_malformed lock phase lines, State.abandonFrame_feed, State.malformedLocked_feed]; rfl

/-- What a taken packet brings is never feed out's: a directive leaves it alone (R11, R17). -/
theorem State.takePacket_feedOut (s : State) (bytes : List Byte) : (s.takePacket bytes).feed.feedOut = s.feed.feedOut := by
  unfold State.takePacket
  split
  · split
    · rcases s.directive_feed (imageByte bytes 2) (imageByte bytes 3) (packetPayload bytes) with e | e
      · rw [e]
      · rw [e]; rfl
    · rfl
  · rfl

theorem State.takeMarginPacket_feedOut (s : State) (bytes : List Byte) :
    (s.takeMarginPacket bytes).feed.feedOut = .event (.marginPacket bytes) := by
  cases lock : s.feed.lock with
  | noSignal => rw [State.takeMarginPacket_of_noSignal lock]; rfl
  | search =>
    by_cases phase : s.feed.record.phase = .margin
    · by_cases candidate : s.feed.candidate = .following
      · by_cases room : s.feed.record.marginPackets < 24
        · rw [State.takeMarginPacket_of_counted lock candidate phase room]; rfl
        · rw [State.takeMarginPacket_of_search_excess lock candidate phase (Nat.le_of_not_lt room)]; rfl
      · rw [State.takeMarginPacket_of_not_following lock candidate]; rfl
    · rw [State.takeMarginPacket_of_search_not_margin lock phase]; rfl
  | locked =>
    by_cases phase : s.feed.record.phase = .margin
    · by_cases room : s.feed.record.marginPackets < 24
      · rw [State.takeMarginPacket_of_margin lock phase room, State.takePacket_feedOut]; rfl
      · rw [State.takeMarginPacket_of_locked_excess lock phase (Nat.le_of_not_lt room), State.abandonFrame_feed,
          State.malformedLocked_feed]
        rfl
    · rw [State.takeMarginPacket_of_not_margin lock phase]; rfl

/-- Settles O23: whatever else a feed event does, it is what feed out holds. -/
theorem feedEventsRepeated : Obligations.FeedEventsRepeated := by
  unfold Obligations.FeedEventsRepeated
  exact fun s => ⟨fun n l b => ⟨_, rfl, s.takeFrameStart_feedOut n l b⟩,
    fun bytes => ⟨_, rfl, s.takeMarginPacket_feedOut bytes⟩, fun z => ⟨_, rfl, s.takeLineGroup_feedOut z⟩,
    ⟨_, rfl, s.takeFrameEnd_feedOut⟩⟩

end Sys2Proof.Machine
end

section
/-! SUPPORT. Losses of lock and malformed frames (R1, R4, R6, R14, R29). -/

namespace Sys2Proof.Machine

section
variable {s : State}

theorem State.acquireSymbols_of_noSignal (h : s.feed.lock = .noSignal) :
    s.acquireSymbols = s.setFeed { s.feed with lock := .search, candidate := .absent, feedOut := .symbols } := by
  simp only [State.acquireSymbols, h]

theorem State.acquireSymbols_of_signal (h : s.feed.lock ≠ .noSignal) : s.acquireSymbols = s := by
  cases lock : s.feed.lock <;> simp_all only [State.acquireSymbols, ne_eq, not_true_eq_false]

theorem State.loseSymbols_of_unlocked (h : s.feed.lock ≠ .locked) :
    s.loseSymbols = s.setFeed { s.feed with
      lock := .noSignal, candidate := .absent, record := s.feed.record.leave, feedOut := .silent } := by
  cases lock : s.feed.lock <;> simp_all only [State.loseSymbols, ne_eq, not_true_eq_false]

theorem State.loseSymbols_of_locked (h : s.feed.lock = .locked) :
    s.loseSymbols =
      (((s.setFeed { s.feed with
        lock := .noSignal, candidate := .absent, record := s.feed.record.leave, feedOut := .silent }).setFlag
          .feedLost).lockLost).flywheelTakeover := by
  simp only [State.loseSymbols, h]

theorem State.frameTimeout_of_unlocked (h : s.feed.lock ≠ .locked) : s.frameTimeout = s := by
  cases lock : s.feed.lock <;> simp_all only [State.frameTimeout, ne_eq, not_true_eq_false]

theorem State.frameTimeout_of_locked (h : s.feed.lock = .locked) :
    s.frameTimeout =
      (((s.setFlag .feedLost).setFeed { s.feed with
        lock := .search, candidate := .absent, record := s.feed.record.leave }).lockLost).flywheelTakeover := by
  simp only [State.frameTimeout, h]
  rfl

/-- A symbol loss in LOCKED is a loss of lock (R1). -/
theorem State.loseSymbols_losesLock (h : s.feed.lock = .locked) : s.LosesLock s.loseSymbols := by
  rw [State.loseSymbols_of_locked h]
  exact State.losesLock_of_feedLost (by constructor <;> simp) rfl (fun q => ReportUnit.setFlag_grown _ _ q)
    (fun q => ReportUnit.setFlag_isIn _ _ q)

/-- A frame timeout in LOCKED is a loss of lock (R6). -/
theorem State.frameTimeout_losesLock (h : s.feed.lock = .locked) : s.LosesLock s.frameTimeout := by
  rw [State.frameTimeout_of_locked h]
  exact State.losesLock_of_feedLost (by constructor <;> simp) rfl (fun q => ReportUnit.setFlag_grown _ _ q)
    (fun q => ReportUnit.setFlag_isIn _ _ q)

end

/-- Settles O24: each event by the lock state it finds; from LOCKED, a loss of lock. -/
theorem lockLosses : Obligations.LockLosses := by
  unfold Obligations.LockLosses
  refine ⟨fun s h => ?_, fun s h => ?_, fun s h => ?_, fun s h => ⟨_, rfl, State.loseSymbols_losesLock h, ?_⟩,
    fun s h => ⟨_, rfl, State.frameTimeout_losesLock h, ?_⟩, fun s h => ?_⟩
  · exact congrArg Host.Outcome.next (State.acquireSymbols_of_noSignal h)
  · exact congrArg Host.Outcome.next (State.acquireSymbols_of_signal h)
  · exact congrArg Host.Outcome.next (State.loseSymbols_of_unlocked h)
  · rw [State.loseSymbols_of_locked h, State.flywheelTakeover_feed, State.lockLost_feed]
    rfl
  · rw [State.frameTimeout_of_locked h, State.flywheelTakeover_feed, State.lockLost_feed]
    rfl
  · exact congrArg Host.Outcome.next (State.frameTimeout_of_unlocked h)

/-- A change of the feed receiver alone, before a loss of lock that does not touch the output frame, is part of it. -/
theorem State.LosesLock.of_setFeed {s t : State} {f : FeedReceiver} (h : (s.setFeed f).LosesLock t)
    (output : f.output = s.feed.output) : s.LosesLock t :=
  { h with
    output := by rw [← output]; exact h.output
    blocks := SameBut.trans (t := s.setFeed f) (by constructor <;> simp) h.blocks }

/-- Settles O26: each of the three events takes the malformed frame's effects and then leaves its own record and
candidate. -/
theorem malformedInLocked : Obligations.MalformedInLocked := by
  unfold Obligations.MalformedInLocked
  intro s lock phase
  have lost : ∀ f : FeedReceiver, f.output = s.feed.output → ∀ g : FeedReceiver,
      g.output = (s.setFeed f).malformedLocked.feed.output → s.LosesLock ((s.setFeed f).malformedLocked.setFeed g) :=
    fun f hf g hg => (State.malformedLocked_losesLock (s.setFeed f)).setFeed hg |>.of_setFeed hf
  refine ⟨fun n l b => ⟨_, rfl, ?_, ?_⟩, fun lines => ⟨_, rfl, ?_, ?_⟩, fun bytes margin packets => ⟨_, rfl, ?_, ?_⟩⟩
  · rw [State.takeFrameStart_of_open lock phase]
    exact lost _ (by rfl) _ (by rfl)
  · rw [State.takeFrameStart_of_open lock phase, State.followFrame_feed, State.malformedLocked_feed]
    rfl
  · rw [State.takeFrameEnd_of_malformed lock phase lines]
    exact lost _ (by rfl) _ (by rfl)
  · rw [State.takeFrameEnd_of_malformed lock phase lines, State.abandonFrame_feed, State.malformedLocked_feed]
    rfl
  · rw [State.takeMarginPacket_of_locked_excess lock margin packets]
    exact lost _ (by rfl) _ (by rfl)
  · rw [State.takeMarginPacket_of_locked_excess lock margin packets, State.abandonFrame_feed, State.malformedLocked_feed]
    rfl

end Sys2Proof.Machine
end

section
/-! SUPPORT. SEARCH and the frames in LOCKED, event by event (R2 to R5, R7, R12, R15, R27). -/

namespace Sys2Proof.Machine

/-- Two next states are the same answer where they are the same state. -/
theorem next_congr {s t : State} (h : s = t) : (.next s : Host.Outcome State Fault Refusal) = .next t := congrArg _ h

theorem State.countMalformed_eq (s : State) :
    s.countMalformed = s.setFeed { s.feed with malformedCount := min 65535 (s.feed.malformedCount + 1) } := by
  rw [State.countMalformed, bump16_eq_min]

section
variable {s : State}

theorem State.takeFrameStart_of_absent (h : s.feed.lock = .search) (hc : s.feed.candidate = .absent) (n : Byte)
    (l : LaneMap) (b : Bool) : s.takeFrameStart n l b = (s.repeatOut (.frameStart n l)).followFrame n l := by
  simp only [State.takeFrameStart_of_search h, State.searchFrameStart, State.repeatOut_candidate, hc]

theorem State.takeFrameStart_of_following (h : s.feed.lock = .search) (hc : s.feed.candidate = .following) (n : Byte)
    (l : LaneMap) (b : Bool) :
    s.takeFrameStart n l b = (s.repeatOut (.frameStart n l)).countMalformed.followFrame n l := by
  simp only [State.takeFrameStart_of_search h, State.searchFrameStart, State.repeatOut_candidate, hc]

/-- The frame start with the next count after a COMPLETE candidate completes lock acquisition (R3). -/
theorem State.takeFrameStart_of_next (h : s.feed.lock = .search) (hc : s.feed.candidate = .complete) {n : Byte}
    (hn : n = s.feed.record.count + 1) (l : LaneMap) (b : Bool) :
    s.takeFrameStart n l b = (s.repeatOut (.frameStart n l)).acquireLock n l b := by
  simp only [State.takeFrameStart_of_search h, State.searchFrameStart, State.repeatOut_candidate, hc,
    State.repeatOut_record]
  exact if_pos hn

theorem State.takeFrameStart_of_other (h : s.feed.lock = .search) (hc : s.feed.candidate = .complete) {n : Byte}
    (hn : n ≠ s.feed.record.count + 1) (l : LaneMap) (b : Bool) :
    s.takeFrameStart n l b = (s.repeatOut (.frameStart n l)).followFrame n l := by
  simp only [State.takeFrameStart_of_search h, State.searchFrameStart, State.repeatOut_candidate, hc,
    State.repeatOut_record]
  exact if_neg hn

end

/-- Settles O25: the COMPLETE candidate at a frame start, then every event of SEARCH by the candidate. -/
theorem searchAndLock : Obligations.SearchAndLock := by
  unfold Obligations.SearchAndLock
  refine ⟨fun s n l b lock complete => ⟨fun next => ⟨_, rfl, ?_, ?_, ?_⟩, fun other => next_congr ?_⟩, fun s lock =>
    ⟨fun n l b absent => next_congr ?_, fun n l b following => next_congr ?_, fun z => next_congr ?_,
     fun following whole => next_congr ?_, fun following cut => next_congr ?_, fun idle => next_congr ?_,
     fun bytes following margin room => next_congr ?_, fun bytes following margin excess => next_congr ?_,
     fun bytes idle => next_congr ?_⟩⟩
  · rw [State.takeFrameStart_of_next lock complete next, State.acquireLock,
      State.outputStart_feed]
    rfl
  · intro d
    rw [State.takeFrameStart_of_next lock complete next, State.acquireLock,
      State.outputStart_ports]
    rfl
  · rw [State.takeFrameStart_of_next lock complete next, State.acquireLock]
    exact SameBut.trans (by constructor <;> simp) (State.outputStart_same _ _ b)
  · rw [State.takeFrameStart_of_other lock complete other]
    rfl
  · rw [State.takeFrameStart_of_absent lock absent]
    rfl
  · rw [State.takeFrameStart_of_following lock following, State.countMalformed_eq]
    rfl
  · by_cases following : s.feed.candidate = .following
    · rw [State.takeLineGroup_of_following lock following, if_pos following]
      rfl
    · rw [State.takeLineGroup_of_not_following lock following, if_neg following]
      rfl
  · rw [State.takeFrameEnd_of_complete lock following whole]
    rfl
  · rw [State.takeFrameEnd_of_cut lock following cut, State.countMalformed_eq]
    rfl
  · exact State.takeFrameEnd_of_not_following lock idle
  · rw [State.takeMarginPacket_of_counted lock following margin room]
    rfl
  · rw [State.takeMarginPacket_of_search_excess lock following margin excess, State.countMalformed_eq]
    rfl
  · exact State.takeMarginPacket_of_not_following lock idle bytes

/-! ### Lines and ends of output frames -/

/-- A composed line does not depend on the feed receiver (R172). -/
theorem State.composeLine_setFeed (s : State) (f : FeedReceiver) (lanes : LineLanes) (d : DisplayNo) (y : Nat) :
    (s.setFeed f).composeLine lanes d y = s.composeLine lanes d y := rfl

/-- An output line, with the feed receiver's changes at the same event (R12, R178). -/
theorem State.portsLine_setFeed (s : State) (f g : FeedReceiver) (lanes : LineLanes) (y : Nat) :
    ((s.setFeed f).portsLine lanes y).setFeed g = { s with
      feed := g
      comp := { s.comp with ports := Table.tabulate fun d => { s.comp.ports.read d with
        sent := if (s.comp.ports.read d).sending = true then [.line y (s.composeLine lanes d y)] else [] } } } := by
  simp only [State.portsLine, State.composeLine_setFeed]
  rfl

/-- An output frame end, with the feed receiver's changes at the same event (R12, R178). -/
theorem State.portsEnd_setFeed (s : State) (f g : FeedReceiver) :
    ((s.setFeed f).portsEnd).setFeed g = { s with
      feed := g
      comp := { s.comp with ports := Table.tabulate fun d => { s.comp.ports.read d with
        sent := if (s.comp.ports.read d).sending = true then [.frameEnd] else [] } } } := rfl

/-- Settles O27: every event of a frame in LOCKED by the phase that it finds. -/
theorem lockedFrame : Obligations.LockedFrame := by
  unfold Obligations.LockedFrame
  refine fun s lock => ⟨fun z phase line => next_congr ?_, fun z phase excess => next_congr ?_,
    fun phase whole => next_congr ?_,
    fun between => ⟨fun n l b => ⟨_, rfl, ?_, ?_, ?_, ?_⟩, fun z => next_congr ?_, next_congr ?_⟩,
    fun bytes phase => next_congr ?_⟩
  · rw [State.takeLineGroup_of_line lock phase line]
    exact s.portsLine_setFeed _ _ _ _
  · rw [State.takeLineGroup_of_excess lock phase excess]
    rfl
  · rw [State.takeFrameEnd_of_wellFormed lock phase whole]
    rfl
  · rw [State.takeFrameStart_of_between lock between, State.outputStart_feed]
    rfl
  · intro d
    rw [State.takeFrameStart_of_between lock between, State.outputStart_ports]
    rfl
  · rw [State.takeFrameStart_of_between lock between, State.outputStart_staging]
    rfl
  · rw [State.takeFrameStart_of_between lock between]
    exact SameBut.trans (by constructor <;> simp) (State.outputStart_same _ _ b)
  · exact State.takeLineGroup_of_between lock between z
  · exact State.takeFrameEnd_of_between lock between
  · exact State.takeMarginPacket_of_not_margin lock phase bytes

end Sys2Proof.Machine
end

section
/-! SUPPORT. The flywheel (R13, R14). -/

namespace Sys2Proof.Machine

/-- The flywheel is free exactly where its frame start is an output frame start (R13; log 23). -/
theorem State.startsOutput_flywheel_iff (s : State) (b : Bool) :
    s.startsOutput (.flywheelFrameStart b) ↔ s.feed.flywheelFree = true := by
  cases output : s.feed.output <;> simp [State.startsOutput, FeedReceiver.flywheelFree, output]

section
variable {s : State}

theorem State.flywheelStart_of_free (h : s.feed.flywheelFree = true) (b : Bool) :
    s.flywheelStart b = s.outputStart (.flywheel 0) b := if_pos h

theorem State.flywheelStart_of_not_free (h : ¬ s.feed.flywheelFree = true) (b : Bool) : s.flywheelStart b = s := if_neg h

theorem State.flywheelLine_of_flywheel {k : Nat} (h : s.feed.output = .flywheel k) (hk : k < 1080) :
    s.flywheelLine = (s.portsLine none k).setOutput (.flywheel (k + 1)) := by
  simp only [State.flywheelLine, h, Config.lines, hk, if_true]

theorem State.flywheelLine_of_completing {k : Nat} (h : s.feed.output = .completing k) (hk : k < 1080) :
    s.flywheelLine = (s.portsLine none k).setOutput (.completing (k + 1)) := by
  simp only [State.flywheelLine, h, Config.lines, hk, if_true]

theorem State.flywheelEnd_of_open {k : Nat} (h : s.feed.output = .flywheel k ∨ s.feed.output = .completing k) :
    s.flywheelEnd = s.outputEnd := by
  rcases h with h | h <;> simp only [State.flywheelEnd, h]

theorem State.flywheelLine_of_none (h : s.feed.output = .closed ∨ ∃ k, s.feed.output = .feed k) : s.flywheelLine = s := by
  rcases h with h | ⟨k, h⟩ <;> simp only [State.flywheelLine, h]

theorem State.flywheelEnd_of_none (h : s.feed.output = .closed ∨ ∃ k, s.feed.output = .feed k) : s.flywheelEnd = s := by
  rcases h with h | ⟨k, h⟩ <;> simp only [State.flywheelEnd, h]

end

/-- Settles O28: the flywheel's frame start where it is free, then its lines and ends by the output frame in progress. -/
theorem flywheelFrames : Obligations.FlywheelFrames := by
  unfold Obligations.FlywheelFrames
  refine fun s => ⟨fun b starts => ?_, fun b idle => next_congr ?_, fun k line output => next_congr ?_,
    fun k output => next_congr ?_, fun none => ⟨next_congr ?_, next_congr ?_⟩⟩
  · have run : exec (.flywheelFrameStart b) s = .next (s.outputStart (.flywheel 0) b) :=
      next_congr (State.flywheelStart_of_free ((s.startsOutput_flywheel_iff b).mp starts) b)
    exact ⟨_, run, s.outputStart_feed _ b, s.outputStart_staging _ b, s.outputStart_latched _ b,
      fun first k => by subst first; exact s.outputStart_committed _ k, s.outputStart_ports _ b, s.outputStart_same _ b⟩
  · exact State.flywheelStart_of_not_free (fun free => idle ((s.startsOutput_flywheel_iff b).mpr free)) b
  · rcases output with output | output
    · rw [State.flywheelLine_of_flywheel output line, if_pos output]
      exact s.portsLine_setFeed s.feed _ none k
    · rw [State.flywheelLine_of_completing output line, if_neg (by simp [output])]
      exact s.portsLine_setFeed s.feed _ none k
  · rw [State.flywheelEnd_of_open output]
    exact s.portsEnd_setFeed s.feed _
  · exact State.flywheelLine_of_none none
  · exact State.flywheelEnd_of_none none

end Sys2Proof.Machine
end

section
/-! SUPPORT. Margin packets in LOCKED (R9, R10, R17, R181). -/

namespace Sys2Proof.Machine

/-- What a margin packet fails its check by (R9). -/
theorem packetOk_eq_false_iff (bytes : List Byte) :
    packetOk bytes = false ↔
      imageByte bytes 0 ≠ 0x5C#8 ∨ 40 < (imageByte bytes 4).toNat ∨ bytes.length ≠ 6 + (imageByte bytes 4).toNat ∨
        byteSum bytes ≠ 0 := by
  simp only [packetOk, Config.payloadLimit, Bool.and_eq_false_iff, beq_eq_false_iff_ne, decide_eq_false_iff_not,
    Nat.not_le, or_assoc, ne_eq]
  exact Iff.rfl

theorem addressed_iff (identity : Fin 8) (target : Byte) :
    addressed identity target = true ↔ target.toNat = identity.val ∨ target.toNat = 15 := by
  simp only [addressed, Bool.or_eq_true, beq_iff_eq]

theorem DirectiveKind.ofCode_code (k : DirectiveKind) : DirectiveKind.ofCode k.code = some k := by cases k <;> rfl

/-- A directive of an assigned kind is its kind's command (R17, R18; log 9). -/
theorem State.directive_code (s : State) (k : DirectiveKind) (tag : Byte) (p : List Byte) :
    exec (k.command tag p) s = .next (s.directive k.code tag p) := by
  rw [exec_of_directive (k.command_directive tag p), State.directive, k.ofCode_code]

section
variable {s : State} {bytes : List Byte}

theorem State.takePacket_of_bad (h : packetOk bytes = false) : s.takePacket bytes = s.failCheck := by
  simp only [State.takePacket, h, Bool.false_eq_true, if_false]

theorem State.takePacket_of_other (h : packetOk bytes = true)
    (other : ¬ addressed s.feed.identity (imageByte bytes 1) = true) : s.takePacket bytes = s := by
  rw [State.takePacket, if_pos h, if_neg other]

theorem State.takePacket_of_own (h : packetOk bytes = true) (own : addressed s.feed.identity (imageByte bytes 1) = true) :
    s.takePacket bytes = s.directive (imageByte bytes 2) (imageByte bytes 3) (packetPayload bytes) := by
  rw [State.takePacket, if_pos h, if_pos own]

end

/-- A packet that fails its check raises the count and CHECK_FAIL, and no more (R8, R9). -/
theorem State.failCheck_spec (s : State) :
    s.failCheck.feed = { s.feed with checkFailCount := min 65535 (s.feed.checkFailCount + 1) } ∧
    (s.rep.Quiet → AttentionFlag.checkFail.isIn s.failCheck.rep.flags = true ∧ s.rep.GrownFrom s.failCheck.rep) ∧
    SameBut [.feed, .rep] s s.failCheck :=
  ⟨by rw [State.failCheck, bump16_eq_min]; rfl,
   fun q => ⟨ReportUnit.setFlag_isIn _ .checkFail q, ReportUnit.setFlag_grown _ .checkFail q⟩,
   by constructor <;> simp [State.failCheck]⟩

/-! ### The bytes of a packet (R181) -/

/-- A margin packet of a directive, before any check (R181). -/
def directivePacket (target kind tag check : Byte) (payload : List Byte) : List Byte :=
  [0x5C, target, kind, tag, BitVec.ofNat 8 payload.length] ++ payload ++ [check]

section
variable {target kind tag check : Byte} {payload : List Byte}

theorem directivePacket_length_byte (h : payload.length ≤ 40) :
    (imageByte (directivePacket target kind tag check payload) 4).toNat = payload.length := by
  have byte : imageByte (directivePacket target kind tag check payload) 4 = BitVec.ofNat 8 payload.length := rfl
  rw [byte, BitVec.toNat_ofNat]
  omega

theorem directivePacket_payload (h : payload.length ≤ 40) :
    packetPayload (directivePacket target kind tag check payload) = payload := by
  rw [packetPayload, directivePacket_length_byte h]
  exact List.take_left

theorem directivePacket_ok (h : payload.length ≤ 40) (sum : byteSum (directivePacket target kind tag check payload) = 0) :
    packetOk (directivePacket target kind tag check payload) = true := by
  refine Bool.of_not_eq_false fun bad => ?_
  rw [packetOk_eq_false_iff, directivePacket_length_byte h] at bad
  rcases bad with first | long | length | sum'
  · exact first rfl
  · exact absurd h (Nat.not_le.mpr long)
  · exact length (by simp [directivePacket]; omega)
  · exact sum' sum

end

/-- Settles O29: the check, the addressing and the kind of a margin packet in turn; a packet of an assigned kind is the command
of its kind. -/
theorem marginPackets : Obligations.MarginPackets := by
  unfold Obligations.MarginPackets
  refine ⟨fun s bytes lock margin room => ?_, fun s k target tag check payload lock margin room own size => ?_⟩
  · intro s1 n fails own
    have run : exec (.marginPacket bytes) s = .next (s1.takePacket bytes) :=
      next_congr (State.takeMarginPacket_of_margin lock margin room bytes)
    have passes : ¬ fails → packetOk bytes = true := fun good =>
      Bool.of_not_eq_false fun bad => good ((packetOk_eq_false_iff bytes).mp bad)
    rw [run]
    refine ⟨fun bad => ⟨_, rfl, ?_⟩, fun good other => next_congr ?_, fun good mine unknown => ⟨_, rfl, ?_⟩⟩
    · rw [State.takePacket_of_bad ((packetOk_eq_false_iff bytes).mpr bad)]
      obtain ⟨feed, flags, same⟩ := s1.failCheck_spec
      exact ⟨feed, flags, SameBut.trans (t := s1) (by constructor <;> simp [s1]) same⟩
    · exact State.takePacket_of_other (passes good) fun mine => other ((addressed_iff _ _).mp mine)
    · have here : addressed s1.feed.identity (imageByte bytes 1) = true := (addressed_iff _ _).mpr mine
      rw [State.takePacket_of_own (passes good) here, State.directive, unknown]
      exact State.refuse_refused _ _ _ s1
  · intro bytes sum
    have here : addressed s.feed.identity target = true := (addressed_iff _ _).mpr own
    have taken := State.takePacket_of_own (s := (s.repeatOut (.marginPacket bytes)).setRecord s.feed.record.addPacket)
      (directivePacket_ok size sum) here
    rw [State.directive_code]
    refine next_congr (((State.takeMarginPacket_of_margin lock margin room bytes).trans taken).trans ?_)
    exact congrArg _ (directivePacket_payload size)

end Sys2Proof.Machine
end

section
/-! SUPPORT. Power-on reset and RESTART, block by block (R16, R38, R39, R57, R79, R105, R127, R148, R165, R179). -/

namespace Sys2Proof.Machine

/-! ### What the tables of a reset block hold -/

@[simp] theorem Board.reset_shows (x : Slot) : Board.reset.shows.read x = Show.vacant := Table.read_fill _ x
@[simp] theorem Board.reset_titles (i : Fin 64) : Board.reset.titles.read i = { text := [], rating := none } :=
  Table.read_fill _ i
@[simp] theorem Board.restart_shows (b : Board) (x : Slot) : b.restart.shows.read x = Show.vacant := Table.read_fill _ x
@[simp] theorem TallyUnit.reset_tallies (x : Slot) : TallyUnit.reset.tallies.read x = Tally.zeroed := Table.read_fill _ x
@[simp] theorem TallyUnit.reset_desks (k : Fin 16) : TallyUnit.reset.desks.read k = Desk.reset := Table.read_fill _ k
@[simp] theorem NoticeUnit.reset_chimes (i : Fin 2) : NoticeUnit.reset.chimes.read i = ChimeLine.reset :=
  Table.read_fill _ i
@[simp] theorem Formatter.reset_tiles (k : TileNo) : Formatter.reset.tiles.read k = Tile.reset := Table.read_fill _ k
@[simp] theorem Formatter.reset_templates (n : Fin 32) :
    Formatter.reset.templates.read n = { fields := [], pool := [] } := Table.read_fill _ n
@[simp] theorem Formatter.restart_tiles (f : Formatter) (k : TileNo) : f.restart.tiles.read k = Tile.reset :=
  Table.read_fill _ k
@[simp] theorem displaysReset_read (sense : BitVec 12) (d : DisplayNo) :
    (displaysReset sense).read d = Display.reset (sense.getLsbD d.val) := Table.read_tabulate _ d

section
variable (sense : BitVec 12)

@[simp] theorem Compositor.reset_layouts (l : LayoutNo) :
    (Compositor.reset sense).layouts.read l = { tileBase := 0, regionCount := 0 } := Table.read_fill _ l
@[simp] theorem Compositor.reset_regions (i : Fin 128) : (Compositor.reset sense).regions.read i = Region.reset :=
  Table.read_fill _ i
@[simp] theorem Compositor.reset_inUse (l : LayoutNo) : (Compositor.reset sense).inUse.read l = 0 := Table.read_fill _ l
@[simp] theorem Compositor.reset_pages (i : Fin 128) : (Compositor.reset sense).pages.read i = PageState.inactive :=
  Table.read_fill _ i
@[simp] theorem Compositor.reset_tickers (d : DisplayNo) : (Compositor.reset sense).tickers.read d = Ticker.stopped :=
  Table.read_fill _ d
@[simp] theorem Compositor.reset_displays (d : DisplayNo) :
    (Compositor.reset sense).displays.read d = Display.reset (sense.getLsbD d.val) := displaysReset_read sense d
@[simp] theorem Compositor.reset_palette (k : Fin 16) :
    (Compositor.reset sense).palette.read k = if k = 15 then Colour.white else Colour.black := by
  simp [Compositor.reset, Table.read_write]
@[simp] theorem Compositor.reset_glyphs (c : Fin 256) (row : Fin 24) :
    ((Compositor.reset sense).glyphs.read c).read row = 0 := by simp [Compositor.reset]
@[simp] theorem Compositor.restart_inUse (c : Compositor) (l : LayoutNo) : (c.restart sense).inUse.read l = 0 :=
  Table.read_fill _ l
@[simp] theorem Compositor.restart_pages (c : Compositor) (i : Fin 128) :
    (c.restart sense).pages.read i = PageState.inactive := Table.read_fill _ i
@[simp] theorem Compositor.restart_tickers (c : Compositor) (d : DisplayNo) :
    (c.restart sense).tickers.read d = Ticker.stopped := Table.read_fill _ d
@[simp] theorem Compositor.restart_displays (c : Compositor) (d : DisplayNo) :
    (c.restart sense).displays.read d = Display.reset (sense.getLsbD d.val) := displaysReset_read sense d

end

/-! ### The invariants at power-on reset -/

theorem DirectiveUnit.reset_inRange : DirectiveUnit.reset.InRange where
  staging := Nat.zero_le _
  cursor i h := by cases h; exact Nat.zero_lt_one
  restore := nofun
  refusals := Nat.zero_le _

theorem ReportUnit.reset_coherent : ReportUnit.reset.Coherent := by constructor <;> decide

theorem Clock.reset_inRange : Clock.reset.InRange := by constructor <;> decide

theorem Board.reset_ordered : Board.reset.Ordered where
  once := List.nodup_nil
  members x := by simp [Show.vacant]; exact List.not_mem_nil
  sorted := List.Pairwise.nil

theorem Board.reset_noClash : Board.reset.NoClash := fun x _ _ occupied => absurd (by rw [Board.reset_shows]; rfl) occupied

theorem Formatter.reset_coherent : Formatter.reset.Coherent where
  room := Nat.zero_le _
  once := List.nodup_nil
  queued t := by simp [Tile.reset]; exact List.not_mem_nil
  rendering t := by simp [Tile.reset, Formatter.reset]
  busy _ := rfl

/-- With no region in action a layout has no text row, and so no tile (R152). -/
theorem Compositor.reset_tileCount (sense : BitVec 12) (l : LayoutNo) : (Compositor.reset sense).tileCount l = 0 := by
  simp [Compositor.tileCount, Compositor.textRows, Compositor.acts]

theorem Compositor.reset_inRange (sense : BitVec 12) (l : LayoutNo) (t : TileNo) :
    (Compositor.reset sense).inRange l t = false := by
  simp [Compositor.inRange, Compositor.tileEnd, Compositor.reset_tileCount]

theorem Compositor.reset_rangesFit (sense : BitVec 12) : (Compositor.reset sense).RangesFit where
  bounds l := by simp [Compositor.inBounds, Compositor.tileEnd, Compositor.reset_tileCount]
  disjoint l m _ _ _ := by simp [Compositor.rangesMeet, Compositor.reset_inRange]

theorem Compositor.reset_pagesFit (sense : BitVec 12) : (Compositor.reset sense).PagesFit := fun i active => by
  simp [PageState.inactive] at active

theorem Settings.reset_fits : Settings.reset.Fits := by constructor <;> decide

section
variable (straps : Fin 8) (sense : BitVec 12)

theorem State.powerOn_showOf (x : Slot) : (State.powerOn straps sense).showOf x = Show.vacant := Board.reset_shows x

theorem State.powerOn_talliesFit : (State.powerOn straps sense).TalliesFit := fun x => by
  have vacant : ((State.powerOn straps sense).showOf x).state = .vacant := by rw [State.powerOn_showOf]; rfl
  rw [if_pos vacant]
  exact TallyUnit.reset_tallies x

theorem State.powerOn_noticesFit : (State.powerOn straps sense).NoticesFit where
  left := ⟨Nat.zero_le _, List.nodup_nil, List.Pairwise.nil⟩
  right := ⟨fun _ ⟨_, held, _⟩ => absurd held List.not_mem_nil, nofun⟩

theorem State.powerOn_modesLegal : (State.powerOn straps sense).ModesLegal where
  saved d := by
    have display : (State.powerOn straps sense).display d = Display.reset (sense.getLsbD d.val) :=
      Compositor.reset_displays sense d
    rw [display]
    nofun
  staged _ held := by cases held

theorem Formatter.reset_textsFit : Formatter.reset.TextsFit where
  tiles u := by rw [Formatter.reset_tiles]; decide
  engine := nofun

theorem State.powerOn_recordsFit : (State.powerOn straps sense).RecordsFit where
  settings := Settings.reset_fits
  shows x := by rw [State.powerOn_showOf]; exact (if_pos rfl).mpr rfl
  titles i := by
    refine (Board.reset_titles i).symm ▸ ?_
    constructor <;> decide
  templates i := by
    refine (Formatter.reset_templates i).symm ▸ ?_
    constructor <;> decide
  layouts l := by
    refine (Compositor.reset_layouts sense l).symm ▸ ?_
    constructor <;> decide
  regions i := by
    refine (Compositor.reset_regions sense i).symm ▸ ?_
    constructor <;> decide
  staged _ held := by cases held
  texts := Formatter.reset_textsFit
  notices _ held := by cases held
  post := nofun
  chimes i := by
    refine (NoticeUnit.reset_chimes i).symm ▸ ?_
    exact ⟨fun _ => ⟨rfl, rfl⟩, Nat.zero_le _, nofun, nofun⟩
  desks k := by
    refine (TallyUnit.reset_desks k).symm ▸ ?_
    decide

/-- The state right after power-on reset meets every invariant. -/
theorem State.powerOn_safe : (State.powerOn straps sense).Safe where
  feed := FeedReceiver.reset_coherent straps
  dir := DirectiveUnit.reset_inRange
  reports := ReportUnit.reset_coherent
  clock := Clock.reset_inRange
  ordered := Board.reset_ordered
  clashes := Board.reset_noClash
  tallies := State.powerOn_talliesFit straps sense
  notices := State.powerOn_noticesFit straps sense
  renders := Formatter.reset_coherent
  ranges := Compositor.reset_rangesFit sense
  pages := Compositor.reset_pagesFit sense
  modes := State.powerOn_modesLegal straps sense
  records := State.powerOn_recordsFit straps sense

end

/-- Settles O3: each block's reset value meets its invariant. -/
theorem powerOnIsSafe : Obligations.PowerOnIsSafe := by
  unfold Obligations.PowerOnIsSafe
  exact ⟨State.powerOn_safe, State.powerOn_safe 0 0⟩

/-! ### The STATUS report of a reset (R33, R36, R183) -/

/-- What a STATUS report captures where every block but the feed receiver holds its reset value, with that receiver's lock
state and identity and no count (R33, R39). -/
def StatusView.reset (lock : LockState) (identity : Fin 8) : StatusView where
  lock := lock
  clock := Clock.reset
  refusalCount := 0
  lastRefusal := none
  checkFailCount := 0
  malformedCount := 0
  stagingDepth := 0
  renderDepth := 0
  noticeCount := 0
  identity := identity

theorem State.powerOn_statusView (straps : Fin 8) (sense : BitVec 12) :
    (State.powerOn straps sense).statusView = StatusView.reset .noSignal straps := rfl

theorem State.restartBlocks_statusView (s : State) :
    s.restartBlocks.statusView = StatusView.reset s.feed.lock s.feed.identity := rfl

/-- The payload of that report: RESTARTED, bit 0, is its one flag (R183). -/
theorem StatusView.reset_payload (lock : LockState) (identity : Fin 8) :
    Report.payload (StatusView.reset lock identity) 1 .status =
      [0, 1, BitVec.ofNat 8 lock.code] ++ List.replicate 16 0 ++ [BitVec.ofNat 8 identity.val] := by
  have zero : halfBytes 0 = [0, 0] := by decide
  have flag : halfBytes (1 : BitVec 14).toNat = [0, 1] := by decide
  simp only [Report.payload, StatusView.reset, Clock.reset, flag, zero, refusalBytes, ClockState.code]
  rfl

/-- A STATUS report that waits alone is granted at once, at an idle lane with the upstream ready given (R36). -/
theorem ReportUnit.tryGrant_alone (v : StatusView) {r : ReportUnit} (queue : r.queue = [.status]) (chain : r.chain = [])
    (owed : r.owed = false) (lane : r.lane = .idle) (ready : r.upstreamReady = true) :
    r.tryGrant v = { r with
      queue := [], flags := 0, lane := .sending (returnPacket v.identity 0x01 (Report.status.payload v r.flags)) } := by
  simp only [ReportUnit.tryGrant, lane, ready, queue, chain, and_self, if_true, ReportUnit.grantReport, Report.flagsAfter,
    owed, Bool.false_eq_true, if_false, Report.packet, Report.kindCode]

/-- The report side after power-on reset (R39; log 28). -/
theorem State.powerOnReset_rep (s : State) (straps : Fin 8) (sense : BitVec 12) :
    (s.powerOnReset straps sense).rep =
      if s.rep.upstreamReady = true then
        { flags := 0, mask := 1, queue := [], owed := false, chain := [],
          lane := .sending
            (returnPacket straps 0x01 ([0, 1] ++ List.replicate 17 0 ++ [BitVec.ofNat 8 straps.val])),
          lastWinner := .chainSide, upstreamReady := true }
      else
        { flags := 1, mask := 1, queue := [.status], owed := false, chain := [], lane := .idle,
          lastWinner := .chainSide, upstreamReady := false } := by
  have taken : (s.powerOnReset straps sense).rep =
      ReportUnit.tryGrant (State.powerOn straps sense).statusView
        { ReportUnit.reset with upstreamReady := s.rep.upstreamReady } := rfl
  rw [taken]
  cases s.rep.upstreamReady with
  | true =>
    rw [if_pos rfl, ReportUnit.tryGrant_alone _ rfl rfl rfl rfl rfl, State.powerOn_statusView]
    exact congrArg (fun payload => { ReportUnit.reset with
      flags := 0, queue := [], lane := .sending (returnPacket straps 0x01 payload), upstreamReady := true })
      (StatusView.reset_payload .noSignal straps)
  | false =>
    rw [if_neg Bool.false_ne_true]
    exact ReportUnit.tryGrant_of_quiet _ fun _ => rfl

/-- Settles O4: every block holds its reset value, and the report side the granted or the waiting STATUS report. -/
theorem powerOnResetValues : Obligations.PowerOnResetValues := by
  unfold Obligations.PowerOnResetValues
  intro straps sense s
  refine ⟨s.powerOnReset straps sense, rfl, rfl, rfl, ⟨rfl, rfl, rfl, rfl, rfl, rfl⟩, rfl,
    s.powerOnReset_rep straps sense, rfl, rfl, rfl, fun x => ⟨Board.reset_shows x, TallyUnit.reset_tallies x⟩,
    Board.reset_titles, rfl, rfl, TallyUnit.reset_desks, rfl, rfl, rfl, NoticeUnit.reset_chimes, Formatter.reset_tiles,
    Formatter.reset_templates, rfl, rfl, rfl,
    fun l => ⟨Compositor.reset_layouts sense l, Compositor.reset_inUse sense l⟩,
    fun i => ⟨Compositor.reset_regions sense i, Compositor.reset_pages sense i⟩, Compositor.reset_palette sense,
    Compositor.reset_glyphs sense, fun d => ⟨Compositor.reset_displays sense d, ?_, ?_⟩⟩
  · exact congrArg Ticker.running (Compositor.reset_tickers sense d)
  · exact congrArg Ticker.current (Compositor.reset_tickers sense d)

/-! ### RESTART -/

section
variable {s : State}

/-- RESTART clears the flags and then sets RESTARTED, bit 0, as the mask says (R30, R32, R38). -/
theorem State.restart_rep (s : State) :
    s.restart.rep =
      if AttentionFlag.restarted.isIn s.rep.mask then
        ReportUnit.queueStatus s.restartBlocks.statusView { s.rep.restart with flags := 1 }
      else { s.rep.restart with flags := 1 } := by
  have clear : AttentionFlag.restarted.isIn s.rep.restart.flags = false := by
    change AttentionFlag.restarted.isIn 0 = false
    decide
  have one : AttentionFlag.restarted.setIn s.rep.restart.flags = 1 := by
    change AttentionFlag.restarted.setIn 0 = 1
    decide
  change s.rep.restart.setFlag s.restartBlocks.statusView .restarted = _
  simp only [ReportUnit.setFlag, clear, one, Bool.false_eq_true, if_false]
  rfl

theorem State.restart_rep_of_disabled (h : AttentionFlag.restarted.isIn s.rep.mask = false) :
    s.restart.rep = { s.rep.restart with flags := 1 } := by
  rw [State.restart_rep, h, if_neg Bool.false_ne_true]

/-- Where the mask enables RESTARTED its STATUS report is queued, and may be granted (R32, R38). -/
theorem State.restart_rep_of_enabled (h : AttentionFlag.restarted.isIn s.rep.mask = true) :
    s.restart.rep =
      ReportUnit.tryGrant s.restartBlocks.statusView { s.rep.restart with flags := 1, queue := [.status] } := by
  rw [State.restart_rep, h, if_pos rfl]
  rfl

theorem State.restart_rep_of_quiet (h : AttentionFlag.restarted.isIn s.rep.mask = true) (q : s.rep.Quiet) :
    s.restart.rep = { s.rep.restart with flags := 1, queue := [.status] } := by
  rw [State.restart_rep_of_enabled h]
  exact ReportUnit.tryGrant_of_quiet _ q

/-- At an idle lane with the upstream ready given, the STATUS report of RESTARTED is granted at once (R33, R36). -/
theorem State.restart_rep_of_ready (h : AttentionFlag.restarted.isIn s.rep.mask = true) (lane : s.rep.lane = .idle)
    (ready : s.rep.upstreamReady = true) :
    s.restart.rep = { s.rep.restart with
      flags := 0
      lane := .sending (returnPacket s.feed.identity 0x01
        ([0, 1, BitVec.ofNat 8 s.feed.lock.code] ++ List.replicate 16 0 ++ [BitVec.ofNat 8 s.feed.identity.val])) } := by
  rw [State.restart_rep_of_enabled h,
    ReportUnit.tryGrant_alone _ (by rfl) (by rfl) (by rfl) (by exact lane) (by exact ready),
    State.restartBlocks_statusView, ← StatusView.reset_payload]
  rfl

/-- What the report side holds after RESTART in every case (R38). -/
theorem State.restart_rep_kept (s : State) :
    s.restart.rep.mask = s.rep.mask ∧ s.restart.rep.chain = [] ∧ s.restart.rep.owed = false ∧
    s.restart.rep.lastWinner = .chainSide ∧ s.restart.rep.upstreamReady = s.rep.upstreamReady := by
  cases enabled : AttentionFlag.restarted.isIn s.rep.mask with
  | false => rw [State.restart_rep_of_disabled enabled]; exact ⟨rfl, rfl, rfl, rfl, rfl⟩
  | true =>
    by_cases ready : s.rep.lane = .idle ∧ s.rep.upstreamReady = true
    · rw [State.restart_rep_of_ready enabled ready.1 ready.2]; exact ⟨rfl, rfl, rfl, rfl, rfl⟩
    · have quiet : s.rep.Quiet := fun lane => Bool.of_not_eq_true fun given => ready ⟨lane, given⟩
      rw [State.restart_rep_of_quiet enabled quiet]
      exact ⟨rfl, rfl, rfl, rfl, rfl⟩

/-- Where no grant is made at RESTART, its STATUS report waits if the mask enables it (R32, R38). -/
theorem State.restart_rep_waits (h : s.rep.Quiet ∨ AttentionFlag.restarted.isIn s.rep.mask = false) :
    s.restart.rep.lane = s.rep.lane ∧ s.restart.rep.flags = 1 ∧
    s.restart.rep.queue = if AttentionFlag.restarted.isIn s.rep.mask = true then [.status] else [] := by
  cases enabled : AttentionFlag.restarted.isIn s.rep.mask with
  | false => rw [State.restart_rep_of_disabled enabled]; exact ⟨rfl, rfl, rfl⟩
  | true =>
    have quiet : s.rep.Quiet := h.resolve_right (by simp [enabled])
    rw [State.restart_rep_of_quiet enabled quiet]
    exact ⟨rfl, rfl, rfl⟩

end

/-- Settles O5: every block holds its RESTART value, and the report side the waiting or the granted STATUS report. -/
theorem restartValues : Obligations.RestartValues := by
  unfold Obligations.RestartValues
  intro tag s
  obtain ⟨mask, chain, owed, winner, ready⟩ := s.restart_rep_kept
  refine ⟨s.restart, rfl, by constructor <;> simp [State.restart, State.restartBlocks], rfl, rfl, mask, chain, owed, winner,
    ready, State.restart_rep_waits, fun lane given enabled => ?_, rfl,
    fun x => ⟨s.board.restart_shows x, TallyUnit.reset_tallies x⟩, rfl, rfl, rfl, TallyUnit.reset_desks, rfl, rfl, rfl,
    NoticeUnit.reset_chimes, s.fmt.restart_tiles, rfl, rfl, rfl, rfl, rfl, rfl, rfl, rfl, s.comp.restart_inUse s.sense,
    s.comp.restart_pages s.sense, fun d => ⟨s.comp.restart_displays s.sense d, ?_, ?_⟩⟩
  · rw [State.restart_rep_of_ready enabled lane given]
    exact ⟨rfl, rfl, rfl⟩
  · exact congrArg Ticker.running (s.comp.restart_tickers s.sense d)
  · exact congrArg Ticker.current (s.comp.restart_tickers s.sense d)

end Sys2Proof.Machine
end

section
/-! SUPPORT. What the SHOW writes leave alone, and how a change of the blocks is read off (R61 to R66). -/

namespace Sys2Proof.Machine

theorem State.Leaves.ite {ks : List Block} {s t u : State} {p : Prop} [Decidable p] (h : s.Leaves ks t)
    (k : s.Leaves ks u) : s.Leaves ks (if p then t else u) := by split <;> assumption

theorem State.Leaves.clock {ks : List Block} {s t : State} (h : s.Leaves ks t) (out : Block.clock ∉ ks := by simp) :
    t.clock = s.clock := h.blocks.clock out

/-- The blocks that a SHOW write can reach. -/
abbrev writeBlocks : List Block := [.dir, .rep, .board, .tally, .notice, .fmt, .comp]

section
variable (s : State) (x : Slot) (img : Show) (mode : TallyMode)

theorem State.changeMode_leaves : s.Leaves [.rep, .tally, .fmt] (s.changeMode x mode) := s.setTally_leaves x _

theorem State.insertShow_leaves : s.Leaves writeBlocks (s.insertShow x img mode) :=
  ((((((s.setShow_leaves x _).mono (by simp)).trans ((State.setTally_leaves _ x _).mono (by simp))).trans
    ((State.setOrder_leaves _ _).mono (by simp))).trans ((State.writeListing_leaves _ x true).mono (by simp))).trans
    ((State.evaluateAtWrite_leaves _ x).mono (by simp))).trans ((State.slotMark_leaves _ x).mono (by simp))

theorem State.editShow_leaves : s.Leaves writeBlocks (s.editShow x img mode) := by
  have capacity : ∀ (u : State) (o n : Nat) (p : Prop) [Decidable p],
      u.Leaves writeBlocks (if p then u.changeCapacity x o n else u) := fun u o n p _ =>
    .ite ((u.changeCapacity_leaves x o n).mono (by simp)) (.refl _ u)
  have toMode : ∀ (u : State) (p : Prop) [Decidable p], u.Leaves writeBlocks (if p then u.changeMode x mode else u) :=
    fun u p _ => .ite ((u.changeMode_leaves x mode).mono (by simp)) (.refl _ u)
  have moved : ∀ (u : State) (p : Prop) [Decidable p],
      u.Leaves writeBlocks (if p then (u.unplaceSlot x).placeSlot x else u) := fun u p _ =>
    .ite (((u.setOrder_leaves _).trans (State.setOrder_leaves _ _)).mono (by simp)) (.refl _ u)
  exact (((((((s.setShow_leaves x _).mono (by simp)).trans (capacity _ _ _ _)).trans (toMode _ _)).trans
    (moved _ _)).trans ((State.writeListing_leaves _ x _).mono (by simp))).trans
    ((State.evaluateAtWrite_leaves _ x).mono (by simp))).trans ((State.slotMark_leaves _ x).mono (by simp))

theorem State.liveEditShow_leaves : s.Leaves writeBlocks (s.liveEditShow x img) := by
  have boards : ∀ (u : State) (p q : Prop) [Decidable p] [Decidable q],
      u.Leaves writeBlocks (if p then (if q then u.requestBoarding x else u.withdrawBoarding x) else u) :=
    fun u p q _ _ => .ite (.ite ((u.requestBoarding_leaves x).mono (by simp)) ((u.removeNotices_leaves _).mono (by simp)))
      (.refl _ u)
  exact (((((s.setShow_leaves x _).mono (by simp)).trans ((State.writeListing_leaves _ x _).mono (by simp))).trans
    (boards _ _ _)).trans ((State.evaluateAtWrite_leaves _ x).mono (by simp))).trans
    ((State.slotMark_leaves _ x).mono (by simp))

/-- An accepted SHOW image reaches the board, the tally and notice units, pages, tickers, marks and refusals (R61). -/
theorem State.takeShow_leaves (w : ShowWrite) : s.Leaves writeBlocks (s.takeShow x w) := by
  have dispose : s.Leaves writeBlocks (s.disposeShow x w) := by
    unfold State.disposeShow
    split
    · exact (s.clearSlot_leaves x).mono (by simp)
    · split
      · exact s.insertShow_leaves x _ _
      · exact s.editShow_leaves x _ _
      · exact s.liveEditShow_leaves x _
      · exact s.liveEditShow_leaves x _
      · exact .refl _ s
  exact dispose.trans ((State.recomputeDue_leaves _).mono (by simp))

end

end Sys2Proof.Machine
end

section
/-! SUPPORT. The ranges of the clock record, kept by every command (R40, R43 to R45, R47, R49, R50). -/

namespace Sys2Proof.Machine

/-! ### What counting makes of the record (R43 to R45) -/

/-- Does the record count? RUNNING or HOLDOVER (R42). -/
abbrev Clock.Counting (c : Clock) : Prop := c.state = .running ∨ c.state = .holdover

theorem ClockState.counts_iff (k : ClockState) : k.counts = true ↔ k = .running ∨ k = .holdover := by
  cases k <;> simp [ClockState.counts]

/-- The record after its minute advances by counting (R44). -/
def Clock.advanced (c : Clock) : Clock := { c with
  minute := c.minute + 1, second := 0, sinceMark := c.sinceMark + 1
  state := if c.state = .running ∧ c.sinceMark + 1 = 10 then .holdover
    else if c.state = .holdover ∧ c.sinceMark + 1 = 60 then .lost else c.state }

/-- The record after a second tick (R43). -/
def Clock.ticked (c : Clock) : Clock :=
  if ¬ c.Counting then c
  else if c.minute = 2879 ∧ c.second = 59 then { c with state := .lost }
  else if c.second = 59 then c.advanced
  else { c with second := c.second + 1 }

theorem Clock.atEnd_iff (c : Clock) : c.atEnd = true ↔ c.minute = 2879 ∧ c.second = 59 := by
  simp [Clock.atEnd, Config.lastMinute]

theorem Clock.canAdvance_iff (c : Clock) : c.canAdvance = true ↔ c.Counting ∧ c.minute < 2879 := by
  simp [Clock.canAdvance, ClockState.counts_iff, Config.lastMinute]

theorem Clock.advanced_inRange {c : Clock} (h : c.InRange) (counting : c.Counting) (room : c.minute < 2879) :
    c.advanced.InRange := by
  have running := h.running
  have holdover := h.holdover
  have civil := h.civil
  have day := h.day
  rcases counting with e | e <;> simp only [e, forall_const] at running holdover
  · by_cases ten : c.sinceMark + 1 = 10 <;> constructor <;> simp [Clock.advanced, e, ten] <;> omega
  · by_cases sixty : c.sinceMark + 1 = 60 <;> constructor <;> simp [Clock.advanced, e, sixty] <;> omega

theorem Clock.lost_inRange {c : Clock} (h : c.InRange) (counting : c.Counting) :
    Clock.InRange { c with state := .lost } where
  minute := h.minute
  second := h.second
  civil := h.civil
  day := h.day
  unset := nofun
  running := nofun
  holdover := nofun
  lost _ := by
    have running := h.running
    have holdover := h.holdover
    rcases counting with e | e <;> simp only [e, forall_const] at running holdover <;> dsimp only <;> omega

theorem Clock.ticked_inRange {c : Clock} (h : c.InRange) : c.ticked.InRange := by
  unfold Clock.ticked
  split
  · exact h
  · next counting =>
    have counting := not_not.mp counting
    have minute := h.minute
    have second := h.second
    split
    · exact Clock.lost_inRange h counting
    · split
      · exact Clock.advanced_inRange h counting (by omega)
      · refine { h with second := ?_, unset := fun e => ?_ }
        · dsimp only; omega
        · rcases counting with k | k <;> simp [k] at e

@[simp] theorem State.clockTextChange_clock (s : State) : s.clockTextChange.clock = s.clock :=
  s.clockTextChange_leaves.clock

@[simp] theorem State.markAllInUse_clock (s : State) : s.markAllInUse.clock = s.clock := s.markAllInUse_leaves.clock

@[simp] theorem State.minuteBoundary_clock (s : State) (m : Nat) : (s.minuteBoundary m).clock = s.clock :=
  (s.minuteBoundary_leaves m).clock

@[simp] theorem State.recomputeBands_clock (s : State) : s.recomputeBands.clock = s.clock :=
  s.recomputeBands_leaves.clock

@[simp] theorem State.removeNotices_clock (s : State) (p : Notice → Bool) : (s.removeNotices p).clock = s.clock :=
  (s.removeNotices_leaves p).clock

/-- A counted minute up to its mark count: the new minute, its boundary, the count (R44, steps 1 and 2). -/
def State.countMinute (s : State) : State :=
  let u := (s.setClock { s.clock with minute := s.clock.minute + 1, second := 0 }).minuteBoundary (s.clock.minute + 1)
  u.setClock { u.clock with sinceMark := u.clock.sinceMark + 1 }

theorem State.advanceMinute_eq (s : State) : s.advanceMinute = s.countMinute.holdoverStep.lostStep := rfl

theorem State.countMinute_leaves (s : State) : s.Leaves (.clock :: boardBlocks) s.countMinute :=
  ((s.setClock_leaves _).trans ((State.minuteBoundary_leaves _ _).mono (by simp))).trans (State.setClock_leaves _ _)

theorem State.countMinute_clock (s : State) : s.countMinute.clock =
    { s.clock with minute := s.clock.minute + 1, second := 0, sinceMark := s.clock.sinceMark + 1 } := by
  simp [State.countMinute]

section
variable {s : State}

/-- The clock record after its minute advances by counting: the mark count decides the state (R44). -/
theorem State.advanceMinute_clock (h : s.clock.InRange) : s.advanceMinute.clock = s.clock.advanced := by
  have running := h.running
  have holdover := h.holdover
  rw [State.advanceMinute_eq, (State.lostStep_spec _).2, (State.holdoverStep_spec _).2, State.countMinute_clock]
  rcases hc : s.clock with ⟨state, minute, second, civil, day, since⟩
  rw [hc] at running holdover
  cases state <;> simp [Clock.advanced] at running holdover ⊢
  · by_cases nine : since = 9
    · simp [nine]
    · simp [nine, show ¬ 9 ≤ since by omega]
  · by_cases last : since = 59
    · simp [last]
    · simp [last, show ¬ 59 ≤ since by omega]

theorem State.tickClock_clock (h : s.clock.InRange) : s.tickClock.clock = s.clock.ticked := by
  unfold State.tickClock Clock.ticked Clock.Counting
  simp only [ClockState.counts_iff, Clock.atEnd_iff, ite_not]
  by_cases counting : s.clock.state = .running ∨ s.clock.state = .holdover
  · simp only [if_pos counting]
    split
    · exact s.loseClock_spec.2
    · split
      · exact State.advanceMinute_clock h
      · rfl
  · simp only [if_neg counting]

/-- In every order the lobby clock takes the second tick once, between the other receivers (log 6). -/
theorem TickOrder.receivers_split (order : TickOrder) : ∃ before after,
    order.receivers = before ++ .clock :: after ∧ TickReceiver.clock ∉ before ∧ TickReceiver.clock ∉ after := by
  cases order with
  | clockNoticesCompositor => exact ⟨[], [.notices, .compositor], rfl, by decide, by decide⟩
  | clockCompositorNotices => exact ⟨[], [.compositor, .notices], rfl, by decide, by decide⟩
  | noticesClockCompositor => exact ⟨[.notices], [.compositor], rfl, by decide, by decide⟩
  | noticesCompositorClock => exact ⟨[.notices, .compositor], [], rfl, by decide, by decide⟩
  | compositorClockNotices => exact ⟨[.compositor], [.notices], rfl, by decide, by decide⟩
  | compositorNoticesClock => exact ⟨[.compositor, .notices], [], rfl, by decide, by decide⟩

/-- The other receivers of a second tick leave the clock and the board (R117, R159, R163). -/
theorem State.tickReceiver_leaves_of_other (s : State) {r : TickReceiver} (other : r ≠ .clock) :
    s.Leaves [.rep, .notice, .fmt, .comp] (s.tickReceiver r) := by
  cases r with
  | clock => exact absurd rfl other
  | notices => exact s.ageNotices_spec.1
  | compositor => exact s.tickCompositor_leaves.1.mono (by simp)

theorem State.tickOthers_leaves {others : List TickReceiver} (out : TickReceiver.clock ∉ others) (s : State) :
    s.Leaves [.rep, .notice, .fmt, .comp] (others.foldl State.tickReceiver s) := by
  induction others generalizing s with
  | nil => exact .refl _ s
  | cons r rest ih =>
    obtain ⟨other, out⟩ := not_or.mp (mt List.mem_cons.mpr out)
    exact (s.tickReceiver_leaves_of_other (Ne.symm other)).trans (ih out _)

/-- A second tick makes of the clock record what the clock makes of it, in whatever order the receivers take it (log 6). -/
theorem State.tickReceivers_clock (h : s.clock.InRange) (order : TickOrder) :
    (order.receivers.foldl State.tickReceiver s).clock = s.clock.ticked := by
  obtain ⟨before, after, split, outBefore, outAfter⟩ := TickOrder.receivers_split order
  have same := (State.tickOthers_leaves outBefore s).clock
  rw [split, List.foldl_append, List.foldl_cons, (State.tickOthers_leaves outAfter _).clock, State.tickReceiver,
    State.tickClock_clock (same ▸ h), same]

end

end Sys2Proof.Machine
end

section
/-! SUPPORT. The commands at the clock record: all but the clock's own leave it (R40). -/

namespace Sys2Proof.Machine

theorem State.clock_ite {s t u : State} {p : Prop} [Decidable p] (h : t.clock = s.clock) (k : u.clock = s.clock) :
    (if p then t else u).clock = s.clock := by split <;> assumption

/-! ### The directives -/

section
variable (s : State)

theorem State.refuseKind_clock (k : DirectiveKind) (tag : Byte) (reason : Reason) :
    (s.refuseKind k tag reason).clock = s.clock := (State.refuse_leaves k.code tag reason s).clock

theorem State.takeSale_clock (tag : Byte) (k : Fin 16) (g : Bool) (x : Slot) (d : Int) :
    (s.takeSale tag k g x d).clock = s.clock := by
  unfold State.takeSale
  dsimp only
  split
  · exact State.clock_ite (s := s) rfl rfl
  · split
    · exact State.refuseKind_clock _ _ _ _
    · exact (State.saleApply_leaves _ k x d).clock

theorem State.placePost_clock (tag : Byte) (n : Notice) : (s.placePost tag n).clock = s.clock := by
  unfold State.placePost
  split
  · next placed => exact (State.placeNotice_spec placed).1.clock
  · exact s.refuseKind_clock _ _ _

theorem State.takeFragmentMore_clock (tag : Byte) (i : Nat) (id : Byte) (ps : List Byte) :
    (s.takeFragmentMore tag i id ps).clock = s.clock := by
  unfold State.takeFragmentMore
  split
  · exact s.refuseKind_clock _ _ _
  · exact State.clock_ite (State.refuseKind_clock _ _ _ _) (State.clock_ite (State.placePost_clock _ _ _) rfl)

theorem State.postNotice_clock (held : Option (Fin 12)) (tag : Byte) (p : List Byte) :
    (s.postNotice held tag p).clock = s.clock := by
  have no := s.refuseKind_clock .postNotice tag
  unfold State.postNotice
  dsimp only
  refine State.clock_ite (State.clock_ite ?_ (State.clock_ite (s.takeFragmentMore_clock _ _ _ _) (no _))) (no _)
  split
  · exact State.clock_ite (no _) (State.clock_ite (State.placePost_clock _ _ _) rfl)
  · exact no _

theorem State.stage_clock (k : DirectiveKind) (tag : Byte) (b : StagedBody) : (s.stage k tag b).clock = s.clock :=
  State.clock_ite rfl (s.refuseKind_clock k tag .stageFull)

theorem State.stageWrite_clock (tag : Byte) (b : StagedBody) : (s.stageWrite tag b).clock = s.clock :=
  State.clock_ite rfl (s.refuseKind_clock .writeEntry tag .stageFull)

theorem State.readTurns_clock : ∀ (n : Nat) (s : State), (State.readTurns n s).clock = s.clock
  | 0, _ => rfl
  | n + 1, s => by
    unfold State.readTurns
    split
    · rfl
    · exact State.clock_ite ((State.readTurns_clock n _).trans rfl) rfl

/-! ### WRITE ENTRY -/

theorem State.writeSettings_clock (tag : Byte) (img : List Byte) : (s.writeSettings tag img).clock = s.clock := by
  unfold State.writeSettings
  split
  · refine State.clock_ite ?_ (s.refuseKind_clock _ _ _)
    simp [State.takeSettings]
  · exact s.refuseKind_clock _ _ _

theorem State.writeShow_clock (tag : Byte) (x : Slot) (img : List Byte) : (s.writeShow tag x img).clock = s.clock := by
  unfold State.writeShow
  split
  · split
    · exact s.refuseKind_clock _ _ _
    · exact (s.takeShow_leaves x _).clock
  · exact s.refuseKind_clock _ _ _

theorem State.writeTally_clock (tag : Byte) (x : Slot) (img : List Byte) : (s.writeTally tag x img).clock = s.clock := by
  unfold State.writeTally
  split
  · split
    · exact s.refuseKind_clock _ _ _
    · rfl
  · exact s.refuseKind_clock _ _ _

theorem State.takeTitle_clock (i : Fin 64) (t : Title) : (s.takeTitle i t).clock = s.clock :=
  (State.Leaves.foldl State.slotMark_leaves _ _).clock

theorem State.writeTitle_clock (tag : Byte) (i : Fin 64) (img : List Byte) :
    (s.writeTitle tag i img).clock = s.clock := by
  unfold State.writeTitle
  split
  · exact s.takeTitle_clock i _
  · exact s.refuseKind_clock _ _ _

theorem State.writeTemplate_clock (tag : Byte) (i : Fin 32) (img : List Byte) :
    (s.writeTemplate tag i img).clock = s.clock := by
  unfold State.writeTemplate
  split
  · exact (State.templateMarks_leaves _ i).clock
  · exact s.refuseKind_clock _ _ _

theorem State.writeStaged_clock (tag : Byte) (b : Option StagedBody) : (s.writeStaged tag b).clock = s.clock := by
  cases b with
  | some b => exact s.stageWrite_clock tag b
  | none => exact s.refuseKind_clock _ _ _

theorem State.atEntry_clock {n : Nat} (i : Nat) (f : Fin n → State) (h : ∀ k, (f k).clock = s.clock) :
    (s.atEntry i f).clock = s.clock := by
  unfold State.atEntry
  split
  · exact h _
  · rfl

theorem State.writeAt_clock (tag : Byte) (t : TableName) (i : Nat) (img : List Byte) :
    (s.writeAt tag t i img).clock = s.clock := by
  match t with
  | .settings => exact s.writeSettings_clock tag img
  | .show => exact s.atEntry_clock i _ fun x => s.writeShow_clock tag x img
  | .tally => exact s.atEntry_clock i _ fun x => s.writeTally_clock tag x img
  | .title => exact s.atEntry_clock i _ fun k => s.writeTitle_clock tag k img
  | .template => exact s.atEntry_clock i _ fun k => s.writeTemplate_clock tag k img
  | .layout => exact s.atEntry_clock i _ fun _ => s.writeStaged_clock tag _
  | .region => exact s.atEntry_clock i _ fun _ => s.writeStaged_clock tag _
  | .palette => exact s.atEntry_clock i _ fun _ => s.writeStaged_clock tag _
  | .glyph => exact s.atEntry_clock i _ fun _ => s.writeStaged_clock tag _
  | .desk | .notice | .display | .tile => rfl

theorem State.writeEntry_clock (tag : Byte) (img : List Byte) : (s.writeEntry tag img).clock = s.clock := by
  unfold State.writeEntry
  split
  · exact s.refuseKind_clock _ _ _
  · exact State.clock_ite (s.refuseKind_clock _ _ _)
      (State.clock_ite (s.writeAt_clock tag _ _ img) (s.refuseKind_clock _ _ _))

/-! ### The clock's own directives -/

/-- A time mark that is taken sets the record RUNNING at the mark with no minute since it (R47). -/
theorem State.takeMark_clock (m sec : Nat) :
    (s.takeMark m sec).clock = { s.clock with state := .running, minute := m, second := sec, sinceMark := 0 } := by
  have text : ∀ (u : State) (p : Prop) [Decidable p], (if p then u.clockTextChange else u).clock = u.clock :=
    fun u p _ => State.clock_ite u.clockTextChange_clock rfl
  unfold State.takeMark
  dsimp only
  split <;> simp [text]

theorem State.takeOpen_clock (civil day : Nat) :
    (s.takeOpen civil day).clock =
      { state := .running, minute := 0, second := 0, civilStart := civil, dayNumber := day, sinceMark := 0 } := by
  simp [State.takeOpen]

@[simp] theorem State.closeBoard_clock : s.closeBoard.clock = s.clock := by
  have cleared := (State.Leaves.foldl State.clearSlot_leaves (List.finRange 96) s).clock
  simpa only [State.closeBoard] using cleared

theorem State.takeClose_clock :
    s.takeClose.clock = { s.clock with state := .unset, minute := 0, second := 0, sinceMark := 0 } := by
  simp [State.takeClose, State.closeClock, State.closeDesks]

end

end Sys2Proof.Machine
end

section
/-! SUPPORT. The ranges of the clock record, kept by every command (R40). -/

namespace Sys2Proof.Machine

theorem half_le (hi lo : Byte) : half hi lo ≤ 65535 := by
  have := hi.isLt
  have := lo.isLt
  unfold half
  omega

/-! ### The directives -/

section
variable {s : State}

theorem State.takeMark_clock_inRange (h : s.clock.InRange) {m sec : Nat} (hm : m ≤ 2879) (hs : sec ≤ 59) :
    (s.takeMark m sec).clock.InRange := by
  rw [State.takeMark_clock]
  exact ⟨hm, hs, h.civil, h.day, nofun, fun _ => Nat.zero_lt_succ 9, nofun, nofun⟩

theorem State.takeOpen_clock_inRange {civil day : Nat} (hc : civil ≤ 1439) (hd : day ≤ 65535) :
    (s.takeOpen civil day).clock.InRange := by
  rw [State.takeOpen_clock]
  exact ⟨Nat.zero_le _, Nat.zero_le _, hc, hd, nofun, fun _ => Nat.zero_lt_succ 9, nofun, nofun⟩

theorem State.takeClose_clock_inRange (h : s.clock.InRange) : s.takeClose.clock.InRange := by
  rw [State.takeClose_clock]
  exact ⟨Nat.zero_le _, Nat.zero_le _, h.civil, h.day, fun _ => ⟨rfl, rfl, rfl⟩, nofun, nofun, nofun⟩

/-- A clock that a directive leaves alone stays in range. -/
theorem Clock.InRange.of_eq {c d : Clock} (h : c.InRange) (e : d = c) : d.InRange := e ▸ h

/-- Every directive keeps the clock record in range: MARK TIME, OPEN DAY, CLOSE DAY and RESTART set it, and no other
reaches it. -/
theorem State.carryOut_clock_inRange (h : s.clock.InRange) (k : DirectiveKind) (held : Option (Fin 12)) (tag : Byte)
    (p : List Byte) : (s.carryOut k held tag p).clock.InRange := by
  have no : ∀ k tag reason, (s.refuseKind k tag reason).clock.InRange := fun k tag reason =>
    h.of_eq (s.refuseKind_clock k tag reason)
  have unreached : ∀ {t : State}, t.clock = s.clock → t.clock.InRange := fun e => h.of_eq e
  cases k <;> dsimp only [State.carryOut]
  case markTime =>
    unfold State.markTime
    split
    · split
      · next range =>
        split
        · exact no _ _ _
        · exact State.takeMark_clock_inRange h range.1 range.2
      · exact no _ _ _
    · exact no _ _ _
  case openDay =>
    unfold State.openDay
    split
    · split
      · next range =>
        split
        · exact State.takeOpen_clock_inRange range (half_le _ _)
        · exact no _ _ _
      · exact no _ _ _
    · exact no _ _ _
  case closeDay =>
    unfold State.closeDay
    split
    · split
      · exact no _ _ _
      · exact State.takeClose_clock_inRange h
    · exact no _ _ _
  case restart =>
    cases p with
    | nil => exact Clock.reset_inRange
    | cons => exact no _ _ _
  case sale =>
    unfold State.sale
    split
    · split
      · exact unreached (s.takeSale_clock _ _ _ _ _)
      · exact no _ _ _
    · exact no _ _ _
  case acknowledgeBand =>
    unfold State.acknowledgeBand
    split
    · split
      · exact unreached (State.clock_ite rfl (s.refuseKind_clock _ _ _))
      · exact no _ _ _
    · exact no _ _ _
  case postNotice => exact unreached (s.postNotice_clock held tag p)
  case withdrawNotice =>
    unfold State.withdrawNotice
    split
    · exact unreached (State.clock_ite (s.removeNotices_clock _) (s.refuseKind_clock _ _ _))
    · exact no _ _ _
  case driveChimeLine =>
    unfold State.driveChimeLine
    split
    · split
      · exact h
      · exact no _ _ _
    · exact no _ _ _
  case setCursor =>
    unfold State.setCursor
    split
    · split
      · exact unreached (State.clock_ite rfl (s.refuseKind_clock _ _ _))
      · exact no _ _ _
    · exact no _ _ _
  case writeEntry => exact unreached (s.writeEntry_clock tag p)
  case readEntries =>
    unfold State.readEntries
    split
    · refine unreached (State.clock_ite (s.refuseKind_clock _ _ _) ?_)
      split
      · exact s.refuseKind_clock _ _ _
      · exact State.readTurns_clock _ s
    · exact no _ _ _
  case requestStatus => cases p with
    | nil => exact h
    | cons => exact no _ _ _
  case setAttentionMask =>
    unfold State.setAttentionMask
    split
    · exact unreached (State.clock_ite (State.clock_ite rfl rfl) (s.refuseKind_clock _ _ _))
    · exact no _ _ _
  case span =>
    unfold State.takeSpan
    split
    · split
      · exact h
      · exact no _ _ _
    · exact no _ _ _
  case setDisplayMode =>
    unfold State.setDisplayMode
    split
    · split
      · exact unreached (s.stage_clock _ _ _)
      · exact no _ _ _
    · exact no _ _ _
  case selectLayout =>
    unfold State.selectLayout
    split
    · split
      · exact unreached (s.stage_clock _ _ _)
      · exact no _ _ _
    · exact no _ _ _
  case selectProgram =>
    unfold State.selectProgram
    split
    · split
      · exact unreached (s.stage_clock _ _ _)
      · exact no _ _ _
    · exact no _ _ _
  case setDisplayMasks =>
    unfold State.setDisplayMasks
    split
    · split
      · exact unreached (s.stage_clock _ _ _)
      · exact no _ _ _
    · exact no _ _ _

theorem State.directive_clock_inRange (h : s.clock.InRange) (kind tag : Byte) (p : List Byte) :
    (s.directive kind tag p).clock.InRange := by
  unfold State.directive
  split
  · exact State.carryOut_clock_inRange (s := s.consumeSpan) h _ _ tag p
  · exact h

end

/-! ### The events of the feed and of the flywheel -/

section
variable (s : State)

theorem State.malformedLocked_clock : s.malformedLocked.clock = s.clock :=
  s.malformedLocked_losesLock.blocks.clock (by simp)

theorem State.outputStart_clock (o : OutputFrame) (b : Bool) : (s.outputStart o b).clock = s.clock :=
  (s.outputStart_same o b).clock (by simp)

theorem State.acquireSymbols_clock : s.acquireSymbols.clock = s.clock := by
  unfold State.acquireSymbols
  split <;> rfl

theorem State.loseSymbols_clock : s.loseSymbols.clock = s.clock := by
  by_cases lock : s.feed.lock = .locked
  · exact (State.loseSymbols_losesLock lock).blocks.clock (by simp)
  · rw [State.loseSymbols_of_unlocked lock]; rfl

theorem State.frameTimeout_clock : s.frameTimeout.clock = s.clock := by
  by_cases lock : s.feed.lock = .locked
  · exact (State.frameTimeout_losesLock lock).blocks.clock (by simp)
  · rw [State.frameTimeout_of_unlocked lock]

theorem State.takeFrameStart_clock (n : Byte) (l : LaneMap) (b : Bool) :
    (s.takeFrameStart n l b).clock = s.clock := by
  unfold State.takeFrameStart
  dsimp only
  split
  · rfl
  · unfold State.searchFrameStart
    split
    · rfl
    · rfl
    · exact State.clock_ite (State.outputStart_clock _ _ _) rfl
  · unfold State.lockedFrameStart
    split
    · exact State.outputStart_clock _ _ _
    · exact State.malformedLocked_clock _
    · exact State.malformedLocked_clock _

theorem State.lockedLine_clock (z : LaneLines) : (s.lockedLine z).clock = s.clock := State.clock_ite rfl rfl

theorem State.takeLineGroup_clock (z : LaneLines) : (s.takeLineGroup z).clock = s.clock := by
  unfold State.takeLineGroup
  dsimp only
  split
  · rfl
  · split <;> rfl
  · split
    · rfl
    · exact State.lockedLine_clock _ z
    · exact State.lockedLine_clock _ z

theorem State.lockedFrameEnd_clock : s.lockedFrameEnd.clock = s.clock :=
  State.clock_ite rfl s.malformedLocked_clock

theorem State.takeFrameEnd_clock : s.takeFrameEnd.clock = s.clock := by
  unfold State.takeFrameEnd
  dsimp only
  split
  · rfl
  · split
    · rfl
    · exact State.clock_ite rfl rfl
    · rfl
  · split
    · rfl
    · exact State.lockedFrameEnd_clock _
    · exact State.lockedFrameEnd_clock _

theorem State.searchPacket_clock : s.searchPacket.clock = s.clock := by
  unfold State.searchPacket
  split
  · rfl
  · split
    · rfl
    · exact State.clock_ite rfl rfl
    · rfl
  · rfl

/-- A margin packet reaches the clock record by the directive that it carries alone (R10, R17). -/
theorem State.takeMarginPacket_clock_inRange (h : s.clock.InRange) (bytes : List Byte) :
    (s.takeMarginPacket bytes).clock.InRange := by
  unfold State.takeMarginPacket
  dsimp only
  split
  · exact h
  · exact h.of_eq (State.searchPacket_clock _)
  · unfold State.lockedPacket
    split
    · exact h
    · dsimp only
      split
      · unfold State.takePacket
        split
        · split
          · exact State.directive_clock_inRange (by exact h) _ _ _
          · exact h
        · exact h
      · exact h.of_eq (State.malformedLocked_clock _)
    · exact h

theorem State.flywheelLine_clock : s.flywheelLine.clock = s.clock := by
  unfold State.flywheelLine
  split
  · rfl
  · rfl
  · exact State.clock_ite rfl rfl
  · exact State.clock_ite rfl rfl

theorem State.flywheelEnd_clock : s.flywheelEnd.clock = s.clock := by
  unfold State.flywheelEnd
  split <;> rfl

end

/-! ### The device's own events -/

section
variable {s : State}

theorem State.advanceMinute_clock_inRange (h : s.clock.InRange) (can : s.clock.canAdvance = true) :
    s.advanceMinute.clock.InRange := by
  obtain ⟨counting, room⟩ := s.clock.canAdvance_iff.mp can
  rw [State.advanceMinute_clock h]
  exact Clock.advanced_inRange h counting room

theorem State.loseClock_inRange (h : s.clock.InRange) (counting : s.clock.Counting) : s.loseClock.clock.InRange := by
  rw [s.loseClock_spec.2]
  exact Clock.lost_inRange h counting

theorem State.holdoverStep_clock_inRange (h : s.clock.InRange) : s.holdoverStep.clock.InRange := by
  rw [s.holdoverStep_spec.2]
  split
  · next late => exact absurd (h.running late.1) (Nat.not_lt.mpr late.2)
  · exact h

theorem State.lostStep_clock_inRange (h : s.clock.InRange) : s.lostStep.clock.InRange := by
  rw [s.lostStep_spec.2]
  split
  · next late => exact Clock.lost_inRange h (.inr late.1)
  · exact h

theorem State.startRender_clock (s : State) : s.startRender.clock = s.clock := s.startRender_leaves.clock

theorem State.completeRender_clock (s : State) : s.completeRender.clock = s.clock := by
  have join : ∀ (u : State) (p : Prop) [Decidable p] (t : TileNo), (if p then u.tryJoin t else u).clock = u.clock :=
    fun u p _ t => State.clock_ite (u.tryJoin_leaves t).clock rfl
  have sweep : ∀ u : State, u.runSweep.clock = u.clock := fun u => by
    unfold State.runSweep
    refine State.clock_ite ?_ rfl
    split
    · exact (State.tryJoin_leaves _ _).clock
    · rfl
  unfold State.completeRender
  split
  · rfl
  · dsimp only
    rw [sweep, join, State.startRender_clock]

theorem State.completeTransmission_clock (s : State) : s.completeTransmission.clock = s.clock := by
  unfold State.completeTransmission
  split <;> rfl

end

/-- Every command keeps the clock record in range: a reset sets it, a directive and a tick keep it, no other reaches it. -/
theorem exec_keeps_clock_inRange {c : Instr} {s t : State} (h : s.clock.InRange) (run : exec c s = .next t) :
    t.clock.InRange := by
  have unreached : ∀ {t : State}, t.clock = s.clock → t.clock.InRange := fun e => h.of_eq e
  cases hd : c.directive? with
  | some d =>
    obtain ⟨k, tag, p⟩ := d
    rw [exec_of_directive hd] at run
    cases run
    exact State.carryOut_clock_inRange (s := s.consumeSpan) h k _ tag p
  | none =>
    cases c with
    | powerOnReset straps sense => cases run; exact Clock.reset_inRange
    | symbolAcquisition => cases run; exact unreached s.acquireSymbols_clock
    | symbolLoss => cases run; exact unreached s.loseSymbols_clock
    | frameStart n l b => cases run; exact unreached (s.takeFrameStart_clock n l b)
    | marginPacket bytes => cases run; exact s.takeMarginPacket_clock_inRange h bytes
    | lineGroup z => cases run; exact unreached (s.takeLineGroup_clock z)
    | frameEnd => cases run; exact unreached s.takeFrameEnd_clock
    | frameTimeout => cases run; exact unreached s.frameTimeout_clock
    | flywheelFrameStart b => cases run; exact unreached (State.clock_ite (s.outputStart_clock _ b) rfl)
    | flywheelLine => cases run; exact unreached s.flywheelLine_clock
    | flywheelFrameEnd => cases run; exact unreached s.flywheelEnd_clock
    | tenthTick => cases run; exact h
    | secondTick order =>
      cases run
      rw [State.tickReceivers_clock (s := { s with divider := { s.divider with secondDue := false } }) h]
      exact Clock.ticked_inRange h
    | minuteBoundary =>
      cases run
      split
      · next can => exact State.advanceMinute_clock_inRange h can
      · exact h
    | enterHoldover =>
      cases run
      split
      · next due => exact State.advanceMinute_clock_inRange h due.2.2
      · exact State.holdoverStep_clock_inRange h
    | enterLost =>
      cases run
      split
      · next due => exact State.advanceMinute_clock_inRange h due.2.2
      · exact State.lostStep_clock_inRange h
    | clockSaturation =>
      cases run
      split
      · next ended =>
        exact State.loseClock_inRange h ((ClockState.counts_iff _).mp (Bool.and_eq_true_iff.mp ended).1)
      · exact h
    | lifetimeExpiry => cases run; exact unreached (s.removeNotices_clock _)
    | chimePatternStart i => cases run; exact unreached (State.clock_ite rfl rfl)
    | chimeCountdownExpiry i => cases run; exact h
    | pageTurn l r => cases run; exact unreached (State.clock_ite (s.turnPage_leaves l r).leaves.clock rfl)
    | tickerStep d => cases run; exact unreached (State.clock_ite (s.stepTicker_leaves d).leaves.clock rfl)
    | renderStart => cases run; exact unreached s.startRender_clock
    | renderCompletion => cases run; exact unreached s.completeRender_clock
    | chainPacketArrival p => cases run; exact unreached (State.clock_ite rfl rfl)
    | upstreamReady => cases run; exact h
    | upstreamReadyWithdrawal => cases run; exact h
    | transmissionCompletion => cases run; exact unreached s.completeTransmission_clock
    | panelRemoval d => cases run; exact unreached (State.clock_ite rfl rfl)
    | panelAttachment d => cases run; exact unreached (State.clock_ite rfl rfl)
    | _ => simp [Instr.directive?] at hd

/-- Settles O9: an idle step changes nothing, and every command keeps the clock record in range. -/
theorem clockStaysInRange : Obligations.ClockStaysInRange := by
  unfold Obligations.ClockStaysInRange
  intro s t h run
  unfold step at run
  split at run
  · cases run; exact h
  · next c rest _ => exact exec_keeps_clock_inRange (s := { s with pending := rest }) h run

end Sys2Proof.Machine
end

section
/-! SUPPORT. The chime lines: DRIVE CHIME LINE, the tenth tick and its rows (R41, R124, R126). -/

namespace Sys2Proof.Machine

theorem State.refuseKind_refused (s : State) (k : DirectiveKind) (tag : Byte) (reason : Reason) :
    s.Refused (s.consumeSpan.refuseKind k tag reason) k.code tag reason := State.refuse_refused k.code tag reason s

/-! ### Indices and codes in a byte (R180, R182) -/

theorem fin?_eq_none {n k : Nat} (h : n ≤ k) : fin? n k = none := dif_neg (Nat.not_lt.mpr h)

theorem fin?_ofNat {n : Nat} (i : Fin n) (h : n ≤ 256) : fin? n (BitVec.ofNat 8 i.val).toNat = some i := by
  have : (BitVec.ofNat 8 i.val).toNat = i.val := by
    rw [BitVec.toNat_ofNat]
    exact Nat.mod_eq_of_lt (by omega)
  simp [fin?, this]

theorem ChimeMode.ofCode_eq_none : ∀ {k : Nat}, 1 < k → ChimeMode.ofCode k = none
  | 0, h => absurd h (by decide)
  | 1, h => absurd h (by decide)
  | _ + 2, _ => rfl

theorem Pitch.ofCode_eq_none : ∀ {k : Nat}, 1 < k → Pitch.ofCode k = none
  | 0, h => absurd h (by decide)
  | 1, h => absurd h (by decide)
  | _ + 2, _ => rfl

/-! ### A line by its record (R124, R126) -/

/-- A line whose pattern has come to its end: the head of the request queue starts, or the line falls silent (R126,
step 2). -/
def ChimeLine.started (l : ChimeLine) : ChimeLine :=
  match l.requests with
  | n :: rest => { l with pattern := some { strikesLeft := n, phase := .tone, countdown := 4 }, requests := rest }
  | [] => { l with pattern := none }

/-- A line whose pattern's interval ends (R126, step 1). -/
def ChimeLine.ended (l : ChimeLine) (p : Pattern) : ChimeLine :=
  match p.phase with
  | .tone => { l with pattern := some { strikesLeft := p.strikesLeft, phase := .silence, countdown := 2 } }
  | .silence =>
    if 2 ≤ p.strikesLeft then
      { l with pattern := some { strikesLeft := p.strikesLeft - 1, phase := .tone, countdown := 4 } }
    else l.started

/-- A line after a tenth tick (R126). -/
def ChimeLine.ticked (l : ChimeLine) : ChimeLine :=
  match l.mode, l.pattern with
  | .level, _ => l
  | .tone, none => l.started
  | .tone, some p =>
    if 2 ≤ p.countdown then { l with pattern := some { p with countdown := p.countdown - 1 } } else l.ended p

theorem ChimeLine.startNext_of_idle (l : ChimeLine) : ({ l with pattern := none } : ChimeLine).startNext = l.started := by
  unfold ChimeLine.started
  rcases l with ⟨_, _, _, _, requests⟩
  cases requests <;> rfl

theorem ChimeLine.startNext_of_expired (l : ChimeLine) (p : Pattern) :
    ({ l with pattern := p.expire } : ChimeLine).startNext = l.ended p := by
  rcases p with ⟨strikes, phase, _⟩
  cases phase with
  | tone => rfl
  | silence =>
    by_cases more : 2 ≤ strikes
    · simp only [Pattern.expire, ChimeLine.ended, if_pos more]; rfl
    · simp only [Pattern.expire, ChimeLine.ended, if_neg more]; exact l.startNext_of_idle

theorem ChimeLine.tick_eq_ticked (l : ChimeLine) : l.tick = l.ticked := by
  unfold ChimeLine.tick ChimeLine.ticked
  rcases l with ⟨mode, level, pitch, pattern, requests⟩
  cases mode with
  | level => rfl
  | tone =>
    cases pattern with
    | none => exact ChimeLine.startNext_of_idle ⟨.tone, level, pitch, none, requests⟩
    | some p =>
      by_cases more : 2 ≤ p.countdown
      · simp only [Option.bind_some, Pattern.tick, if_neg (show ¬ p.countdown ≤ 1 by omega), if_pos more]
        rfl
      · simp only [Option.bind_some, Pattern.tick, if_pos (show p.countdown ≤ 1 by omega), if_neg more]
        exact ChimeLine.startNext_of_expired ⟨.tone, level, pitch, some p, requests⟩ p

section
variable {l : ChimeLine} (level : Bool) (pitch : Pitch)

theorem ChimeLine.driveTo_level_of_level (h : l.mode = .level) :
    l.driveTo .level level pitch = { l with level := level } := by simp only [ChimeLine.driveTo, h]

theorem ChimeLine.driveTo_tone_of_level (h : l.mode = .level) :
    l.driveTo .tone level pitch = { l with mode := .tone, pitch := pitch, pattern := none, requests := [] } := by
  simp only [ChimeLine.driveTo, h]

theorem ChimeLine.driveTo_tone_of_tone (h : l.mode = .tone) :
    l.driveTo .tone level pitch = { l with pitch := pitch } := by simp only [ChimeLine.driveTo, h]

theorem ChimeLine.driveTo_level_of_tone (h : l.mode = .tone) :
    l.driveTo .level level pitch = { l with mode := .level, level := level, pattern := none, requests := [] } := by
  simp only [ChimeLine.driveTo, h]

end

/-! ### The commands -/

section
variable (s : State) (tag : Byte)

/-- DRIVE CHIME LINE in its ranges replaces the record of the line (R124). -/
theorem State.driveChimeLine_of_fields (i v : Fin 2) {mc hc : Byte} {m : ChimeMode} {h : Pitch}
    (mode : ChimeMode.ofCode mc.toNat = some m) (pitch : Pitch.ofCode hc.toNat = some h) :
    s.driveChimeLine tag [BitVec.ofNat 8 i.val, mc, BitVec.ofNat 8 v.val, hc] =
      s.setChime i ((s.notice.chimes.read i).driveTo m (v == 1) h) := by
  simp only [State.driveChimeLine, fin?_ofNat i (by decide), fin?_ofNat v (by decide), mode, pitch]

theorem State.driveChimeLine_of_range {line mode level pitch : Byte}
    (out : 1 < line.toNat ∨ 1 < mode.toNat ∨ 1 < level.toNat ∨ 1 < pitch.toNat) :
    s.driveChimeLine tag [line, mode, level, pitch] = s.refuseKind .driveChimeLine tag .badField := by
  unfold State.driveChimeLine
  dsimp only
  split
  · next hi hm hv hp =>
    rcases out with out | out | out | out
    · rw [fin?_eq_none out] at hi; cases hi
    · rw [ChimeMode.ofCode_eq_none out] at hm; cases hm
    · rw [fin?_eq_none out] at hv; cases hv
    · rw [Pitch.ofCode_eq_none out] at hp; cases hp
  · rfl

/-- A line written with its own record leaves the state as it is. -/
theorem State.setChime_read (i : Fin 2) : s.setChime i (s.notice.chimes.read i) = s := by
  have same : s.notice.chimes.write i (s.notice.chimes.read i) = s.notice.chimes := Table.ext_read fun j => by
    rw [Table.read_write]
    split
    · next e => rw [e]
    · rfl
  simp only [State.setChime, same]

theorem State.tickChimes_eq_ticked :
    s.tickChimes = { s with notice := { s.notice with
      chimes := Table.tabulate fun i => (s.notice.chimes.read i).ticked } } := by
  simp only [State.tickChimes, ChimeLine.tick_eq_ticked]

end

section
variable {s : State} {i : Fin 2}

theorem exec_chimePatternStart_of_idle (tone : (s.notice.chimes.read i).mode = .tone)
    (idle : (s.notice.chimes.read i).pattern = none) :
    exec (.chimePatternStart i) s = .next (s.setChime i (s.notice.chimes.read i).started) := by
  have record : ({ s.notice.chimes.read i with pattern := none } : ChimeLine) = s.notice.chimes.read i := by rw [← idle]
  have next := (s.notice.chimes.read i).startNext_of_idle
  rw [record] at next
  change Host.Outcome.next _ = _
  rw [if_pos tone, next]

theorem exec_chimePatternStart_of_busy
    (busy : (s.notice.chimes.read i).mode = .level ∨ (s.notice.chimes.read i).pattern ≠ none) :
    exec (.chimePatternStart i) s = .next s := by
  change Host.Outcome.next _ = _
  split
  · next tone =>
    obtain ⟨p, playing⟩ := Option.ne_none_iff_exists'.mp (busy.resolve_left (by simp [tone]))
    have same : (s.notice.chimes.read i).startNext = s.notice.chimes.read i := by
      simp only [ChimeLine.startNext, playing]
    rw [same, s.setChime_read]
  · rfl

theorem exec_chimeCountdownExpiry_of_playing {p : Pattern} (tone : (s.notice.chimes.read i).mode = .tone)
    (playing : (s.notice.chimes.read i).pattern = some p) :
    exec (.chimeCountdownExpiry i) s = .next (s.setChime i ((s.notice.chimes.read i).ended p)) := by
  have ends : (s.notice.chimes.read i).expire = (s.notice.chimes.read i).ended p := by
    unfold ChimeLine.expire
    split
    · next level => rw [tone] at level; cases level
    · rw [playing]
      exact (s.notice.chimes.read i).startNext_of_expired p
  change Host.Outcome.next _ = _
  rw [ends]

theorem exec_chimeCountdownExpiry_of_silent
    (silent : (s.notice.chimes.read i).mode = .level ∨ (s.notice.chimes.read i).pattern = none) :
    exec (.chimeCountdownExpiry i) s = .next s := by
  have same : (s.notice.chimes.read i).expire = s.notice.chimes.read i := by
    unfold ChimeLine.expire
    split
    · rfl
    · next tone =>
      have idle := silent.resolve_left (by simp [tone])
      simp only [idle]
  change Host.Outcome.next _ = _
  rw [same, s.setChime_read]

end

/-- Settles O42: the four drives by the mode found and the mode asked, the refusals, the tenth tick line by line, and the
two rows by the line's record. -/
theorem chimeLinesPlay : Obligations.ChimeLinesPlay := by
  unfold Obligations.ChimeLinesPlay
  refine ⟨fun s tag i v h hc pitch => ?_, fun s tag line mode level pitch out => ?_, fun s => ⟨?_, fun i =>
    ⟨exec_chimePatternStart_of_idle, exec_chimePatternStart_of_busy, fun p => exec_chimeCountdownExpiry_of_playing,
     exec_chimeCountdownExpiry_of_silent⟩⟩⟩
  · have drive : ∀ {mc : Byte} {m : ChimeMode} {l : ChimeLine}, ChimeMode.ofCode mc.toNat = some m →
        (s.notice.chimes.read i).driveTo m (v == 1) h = l →
        exec (.driveChimeLine tag [BitVec.ofNat 8 i.val, mc, BitVec.ofNat 8 v.val, hc]) s =
          .next (s.consumeSpan.setChime i l) := fun mode driven =>
      driven ▸ congrArg Host.Outcome.next (s.consumeSpan.driveChimeLine_of_fields tag i v mode pitch)
    exact ⟨fun level => drive (m := .level) (by decide) (ChimeLine.driveTo_level_of_level _ _ level),
      fun level => drive (m := .tone) (by decide) (ChimeLine.driveTo_tone_of_level _ _ level),
      fun tone => drive (m := .tone) (by decide) (ChimeLine.driveTo_tone_of_tone _ _ tone),
      fun tone => drive (m := .level) (by decide) (ChimeLine.driveTo_level_of_tone _ _ tone)⟩
  · exact ⟨_, congrArg Host.Outcome.next (s.consumeSpan.driveChimeLine_of_range tag out),
      s.refuseKind_refused .driveChimeLine tag .badField⟩
  · exact congrArg Host.Outcome.next (State.tickChimes_eq_ticked { s with divider := s.divider.tenth })

end Sys2Proof.Machine
end

section
/-! SUPPORT. Counting at the lobby clock: the second tick and the rows that name its cases (R41 to R45). -/

namespace Sys2Proof.Machine

/-- The flag of each state that counting enters is set, unless a grant can take it away (R44, R45). -/
def State.Enters (s t : State) : Prop := s.rep.Quiet →
  (t.clock.state = .holdover → s.clock.state = .running → AttentionFlag.clockHoldover.isIn t.rep.flags = true) ∧
  (t.clock.state = .lost → s.clock.state ≠ .lost → AttentionFlag.clockLost.isIn t.rep.flags = true)

/-- A change that leaves the clock record enters no state. -/
theorem State.Enters.of_same {s t : State} (same : t.clock.state = s.clock.state) : s.Enters t := by
  refine fun _ => ⟨fun held running => ?_, fun lost fine => absurd (same.symm.trans lost) fine⟩
  rw [same, running] at held
  cases held

/-- Changes that leave the clock record, before and after. -/
theorem State.Enters.between {ks ls ms : List Block} {s u v t : State} (a : s.Leaves ks u)
    (ha : u.clock.state = s.clock.state) (e : u.Enters v) (l : u.Leaves ms v) (b : v.Leaves ls t)
    (hb : t.clock.state = v.clock.state) : s.Enters t := fun quiet => by
  have quiet' := a.quiet quiet
  obtain ⟨holdover, lost⟩ := e quiet'
  rw [ha] at holdover lost
  rw [hb]
  exact ⟨fun h k => b.flag (l.quiet quiet') (holdover h k), fun h k => b.flag (l.quiet quiet') (lost h k)⟩

section
variable (s : State)

/-- The clock enters LOST: its record, its flag and its marks, no more (R45). -/
theorem State.loseClock_leaves : s.Leaves [.rep, .clock, .fmt] s.loseClock := by
  have set : s.Leaves [.rep, .clock, .fmt] (s.setClock { s.clock with state := .lost }) :=
    .of_same (by constructor <;> simp) rfl rfl
  exact (set.trans ((State.setFlag_leaves _ _).mono (by simp))).trans ((State.clockTextChange_leaves _).mono (by simp))

theorem State.loseClock_enters : s.Enters s.loseClock := fun quiet => by
  have flag : AttentionFlag.clockLost.isIn s.loseClock.rep.flags = true :=
    (State.clockTextChange_leaves _).flag (ReportUnit.Quiet.of_grown (ReportUnit.setFlag_grown _ _ quiet) quiet)
      (ReportUnit.setFlag_isIn _ _ quiet)
  refine ⟨fun held => ?_, fun _ _ => flag⟩
  rw [s.loseClock_spec.2] at held
  cases held

theorem State.holdoverStep_enters : s.Enters s.holdoverStep := by
  unfold State.holdoverStep
  split
  · exact fun quiet => ⟨fun _ _ => ReportUnit.setFlag_isIn _ _ quiet, fun lost => by simp at lost⟩
  · exact .of_same rfl

theorem State.lostStep_enters : s.Enters s.lostStep := by
  unfold State.lostStep
  split
  · exact s.loseClock_enters
  · exact .of_same rfl

/-- The two last steps of a counted minute: HOLDOVER is entered from RUNNING, LOST from HOLDOVER (R44, steps 3 and 4). -/
theorem State.markSteps_enters : s.Enters s.holdoverStep.lostStep := fun quiet => by
  obtain ⟨leaves, clock⟩ := s.holdoverStep_spec
  obtain ⟨leaves', clock'⟩ := s.holdoverStep.lostStep_spec
  have quiet' := leaves.quiet quiet
  refine ⟨fun held running => leaves'.flag quiet' ((s.holdoverStep_enters quiet).1 ?_ running),
    fun lost fine => (s.holdoverStep.lostStep_enters quiet').2 lost ?_⟩
  · rw [clock'] at held
    split at held
    · cases held
    · exact held
  · rw [clock]
    split
    · simp
    · exact fine

/-- A counted minute sets the flag of the state that it enters (R44). -/
theorem State.advanceMinute_enters : s.Enters s.advanceMinute := by
  rw [State.advanceMinute_eq]
  exact .between s.countMinute_leaves (by rw [s.countMinute_clock]) s.countMinute.markSteps_enters
    ((State.holdoverStep_spec _).1.trans (State.lostStep_spec _).1) (.refl [] _) rfl

theorem State.tickClock_enters : s.Enters s.tickClock := by
  unfold State.tickClock
  split
  · split
    · exact s.loseClock_enters
    · split
      · exact s.advanceMinute_enters
      · exact .of_same rfl
  · exact .of_same rfl

/-- A second tick, in whatever order its receivers take it, reaches what a counted minute and the other two receivers
reach (log 6). -/
theorem State.tickReceivers_leaves (order : TickOrder) :
    s.Leaves (.clock :: boardBlocks) (order.receivers.foldl State.tickReceiver s) := by
  obtain ⟨before, after, split, outBefore, outAfter⟩ := TickOrder.receivers_split order
  rw [split, List.foldl_append, List.foldl_cons]
  exact (((State.tickOthers_leaves outBefore s).mono (by simp)).trans (State.tickClock_leaves _)).trans
    ((State.tickOthers_leaves outAfter _).mono (by simp))

theorem State.tickReceivers_enters (order : TickOrder) :
    s.Enters (order.receivers.foldl State.tickReceiver s) := by
  obtain ⟨before, after, split, outBefore, outAfter⟩ := TickOrder.receivers_split order
  rw [split, List.foldl_append, List.foldl_cons]
  have first := State.tickOthers_leaves outBefore s
  have last := State.tickOthers_leaves outAfter ((before.foldl State.tickReceiver s).tickReceiver .clock)
  exact .between first (congrArg Clock.state first.clock) (State.tickClock_enters _) (State.tickClock_leaves _) last
    (congrArg Clock.state last.clock)

end

section
variable {s : State}

theorem exec_minuteBoundary_of_canAdvance (counting : s.clock.Counting) (room : s.clock.minute < 2879) :
    exec .minuteBoundary s = .next s.advanceMinute :=
  congrArg Host.Outcome.next (if_pos (s.clock.canAdvance_iff.mpr ⟨counting, room⟩))

theorem exec_enterHoldover_of_due (running : s.clock.state = .running) (ninth : s.clock.sinceMark = 9)
    (room : s.clock.minute < 2879) : exec .enterHoldover s = .next s.advanceMinute :=
  congrArg Host.Outcome.next (if_pos ⟨running, ninth, s.clock.canAdvance_iff.mpr ⟨.inl running, room⟩⟩)

theorem exec_enterLost_of_due (holdover : s.clock.state = .holdover) (last : s.clock.sinceMark = 59)
    (room : s.clock.minute < 2879) : exec .enterLost s = .next s.advanceMinute :=
  congrArg Host.Outcome.next (if_pos ⟨holdover, last, s.clock.canAdvance_iff.mpr ⟨.inr holdover, room⟩⟩)

theorem exec_clockSaturation_of_end (counting : s.clock.Counting) (minute : s.clock.minute = 2879)
    (second : s.clock.second = 59) : exec .clockSaturation s = .next s.loseClock :=
  congrArg Host.Outcome.next (if_pos (Bool.and_eq_true_iff.mpr
    ⟨(ClockState.counts_iff _).mpr counting, s.clock.atEnd_iff.mpr ⟨minute, second⟩⟩))

end

/-- Settles O41: each row is the second tick, the counted minute or the loss of the clock, whose record, flags and frame are
laws of their own. -/
theorem clockCounts : Obligations.ClockCounts := by
  unfold Obligations.ClockCounts
  intro s h
  have minute : s.Leaves [.dir, .rep, .clock, .board, .notice, .fmt, .comp] s.advanceMinute :=
    s.advanceMinute_leaves.mono (by simp)
  refine ⟨fun order => ?_, fun counting room => ?_, fun running ninth room => ?_, fun holdover last room => ?_,
    fun counting minute second => ?_⟩
  · have cleared : s.Leaves [.divider] { s with divider := { s.divider with secondDue := false } } :=
      .of_same (by constructor <;> simp) rfl rfl
    have ticked := State.tickReceivers_leaves { s with divider := { s.divider with secondDue := false } } order
    have clock := State.tickReceivers_clock (s := { s with divider := { s.divider with secondDue := false } }) h order
    exact ⟨_, rfl, clock, ticked.blocks.divider (by simp),
      State.tickReceivers_enters { s with divider := { s.divider with secondDue := false } } order,
      (cleared.mono (by simp)).trans (ticked.mono (by simp))⟩
  · exact ⟨_, exec_minuteBoundary_of_canAdvance counting room, State.advanceMinute_clock h, s.advanceMinute_enters,
      minute⟩
  · refine ⟨_, exec_enterHoldover_of_due running ninth room, ?_, s.advanceMinute_enters, minute⟩
    simp [State.advanceMinute_clock h, Clock.advanced, running, ninth]
  · refine ⟨_, exec_enterLost_of_due holdover last room, ?_, s.advanceMinute_enters, minute⟩
    simp [State.advanceMinute_clock h, Clock.advanced, holdover, last]
  · exact ⟨_, exec_clockSaturation_of_end counting minute second, s.loseClock_spec.2, s.loseClock_enters,
      s.loseClock_leaves⟩

end Sys2Proof.Machine
end

section
/-! SUPPORT. What the board's operations keep inside the blocks that they reach, and an evaluation of one slot as a change of
the board (R55, R56, R68 to R70). -/

namespace Sys2Proof.Machine

/-- What no operation of the board reaches inside the blocks of others: in the directive unit all but the refusals, in the
board the titles, in the tally unit the desks. -/
structure State.KeepsRest (s t : State) : Prop where
  dir    : t.dir = { s.dir with refusalCount := t.dir.refusalCount, lastRefusal := t.dir.lastRefusal }
  titles : t.board.titles = s.board.titles
  desks  : t.tally.desks = s.tally.desks

namespace State.KeepsRest

theorem refl (s : State) : s.KeepsRest s := ⟨rfl, rfl, rfl⟩

theorem trans {s t u : State} (h : s.KeepsRest t) (k : t.KeepsRest u) : s.KeepsRest u :=
  ⟨by rw [k.dir, h.dir], k.titles.trans h.titles, k.desks.trans h.desks⟩

theorem ite {s t u : State} {p : Prop} [Decidable p] (h : s.KeepsRest t) (k : s.KeepsRest u) :
    s.KeepsRest (if p then t else u) := by split <;> assumption

theorem foldl {α : Type} {f : State → α → State} (h : ∀ (s : State) a, s.KeepsRest (f s a)) :
    ∀ (as : List α) (s : State), s.KeepsRest (as.foldl f s)
  | [], s => refl s
  | a :: as, s => (h s a).trans (foldl h as (f s a))

theorem of_leaves {ks : List Block} {s t : State} (h : s.Leaves ks t) (dir : Block.dir ∉ ks := by simp)
    (board : Block.board ∉ ks := by simp) (tally : Block.tally ∉ ks := by simp) : s.KeepsRest t :=
  ⟨by rw [h.blocks.dir dir], congrArg _ (h.blocks.board board), congrArg _ (h.blocks.tally tally)⟩

end State.KeepsRest

/-! ### Folds over the slots -/

/-- An operation that changes what is read at its own slot alone, run over a list of slots, changes it at the slots of the
list alone, once each. -/
theorem foldl_read {α : Type} {read : State → Slot → α} {f : State → Slot → State} {g : α → α}
    (h : ∀ s x y, read (f s x) y = if y = x then g (read s x) else read s y) (y : Slot) :
    ∀ (L : List Slot), L.Nodup → ∀ s, read (L.foldl f s) y = if y ∈ L then g (read s y) else read s y
  | [], _, s => by simp
  | x :: L, nodup, s => by
    obtain ⟨out, nodup⟩ := List.nodup_cons.mp nodup
    rw [List.foldl_cons, foldl_read h y L nodup (f s x), h]
    by_cases e : y = x
    · subst e
      simp [out]
    · simp [e]

theorem foldl_read_all {α : Type} {read : State → Slot → α} {f : State → Slot → State} {g : α → α}
    (h : ∀ s x y, read (f s x) y = if y = x then g (read s x) else read s y) (s : State) (y : Slot) :
    read ((List.finRange 96).foldl f s) y = g (read s y) := by
  rw [foldl_read h y _ (List.nodup_finRange 96) s, if_pos (List.mem_finRange y)]

/-! ### Show states -/

theorem ShowState.unretired_iff (k : ShowState) : k.unretired = true ↔ k ≠ .vacant ∧ k ≠ .retired := by
  cases k <;> simp [ShowState.unretired]

/-- The record of an occupied, unretired show after an evaluation: the furthest state whose condition holds, and its sales
closed from the close minute on (R68, R70). -/
theorem Show.stateAt_eq_evaluatedAt {w : Show} (h : w.state.unretired = true) (m : Nat) :
    ({ w with state := w.stateAt m, salesClosed := w.salesClosed || decide (w.closeMinute ≤ m) } : Show) =
      w.evaluatedAt m := by
  have state : w.stateAt m = (w.evaluatedAt m).state := by
    unfold Show.stateAt Show.furthest Show.evaluatedAt Show.retireMinute Show.boardingMinute
    dsimp only
    generalize w.state = k at h
    by_cases retires : w.start + w.grace ≤ m
    · simp only [if_pos retires]
      revert h
      cases k <;> decide
    · by_cases starts : w.start ≤ m
      · simp only [if_neg retires, if_pos starts]
        revert h
        cases k <;> decide
      · by_cases boards : w.start - w.lead ≤ m
        · simp only [if_neg retires, if_neg starts, boards, true_and]
          revert h
          cases k <;> decide
        · simp only [if_neg retires, if_neg starts, boards, false_and, if_false]
  rw [state]
  rfl

/-! ### Evaluation (R68 to R70) -/

section
variable (s : State) (x : Slot)

theorem State.showOf_setShow (w : Show) (y : Slot) : (s.setShow x w).showOf y = if y = x then w else s.showOf y :=
  Table.read_write _ _ _ _

theorem State.setShow_keepsRest (w : Show) : s.KeepsRest (s.setShow x w) := ⟨rfl, rfl, rfl⟩

theorem State.setOrder_keepsRest (o : List Slot) : s.KeepsRest (s.setOrder o) := ⟨rfl, rfl, rfl⟩

theorem State.requestBoarding_keepsRest : s.KeepsRest (s.requestBoarding x) := by
  unfold State.requestBoarding
  split
  · next placed => exact .of_leaves (State.placeNotice_spec placed).1
  · exact ⟨rfl, rfl, rfl⟩

/-- The effects of a change of state change nothing of the board but the listing order, which a RETIRED slot leaves (R68,
R71). -/
theorem State.stateEffects_board (o n : ShowState) :
    s.KeepsRest (s.stateEffects x o n) ∧
    (s.stateEffects x o n).board =
      { s.board with order := if n = .retired then s.board.order.filter fun y => y != x else s.board.order } := by
  let placed := if n = .retired then s.unplaceSlot x else s
  let cleared := placed.removeNotices (Notice.leavesWith x (decide (o = .boarding)) (decide (n = .retired)))
  let asked := if n = .boarding ∧ (s.showOf x).announce = true then cleared.requestBoarding x else cleared
  have unplaced : s.KeepsRest placed := .ite (s.setOrder_keepsRest _) (.refl s)
  have removal := State.removeNotices_leaves placed
    (Notice.leavesWith x (decide (o = .boarding)) (decide (n = .retired)))
  have request : cleared.KeepsRest asked := .ite (cleared.requestBoarding_keepsRest x) (.refl _)
  have requested : cleared.Leaves [.dir, .rep, .notice, .fmt, .comp] asked :=
    .ite (cleared.requestBoarding_leaves x) (.refl _ _)
  have listing := asked.listingChange_leaves.leaves
  have mark := asked.listingChange.slotMark_leaves x
  have result : s.stateEffects x o n = asked.listingChange.slotMark x := rfl
  rw [result]
  refine ⟨(((unplaced.trans (.of_leaves removal)).trans request).trans (.of_leaves listing)).trans (.of_leaves mark), ?_⟩
  rw [mark.blocks.board (by simp), listing.blocks.board (by simp), requested.blocks.board (by simp),
    removal.blocks.board (by simp)]
  dsimp only [placed]
  split <;> rfl

/-- The part of an evaluation that moves the state changes the slot's record, and the listing order where it retires
(R68). -/
theorem State.advanceShow_board (m : Nat) :
    s.KeepsRest (s.advanceShow x m) ∧
    (s.advanceShow x m).board = { s.board with
      shows := s.board.shows.write x { s.showOf x with state := (s.showOf x).stateAt m }
      order := if (s.showOf x).stateAt m = .retired ∧ (s.showOf x).state ≠ .retired then
        s.board.order.filter fun y => y != x else s.board.order } := by
  have shows := (s.advanceShow_spec x m).2
  unfold State.advanceShow at shows ⊢
  dsimp only at shows ⊢
  split at shows
  · next moved =>
    rw [if_pos moved]
    obtain ⟨rest, board⟩ := State.stateEffects_board (s.setShow x { s.showOf x with state := (s.showOf x).stateAt m }) x
      (s.showOf x).state ((s.showOf x).stateAt m)
    refine ⟨(s.setShow_keepsRest x _).trans rest, ?_⟩
    have retires : ((s.showOf x).stateAt m = .retired ∧ (s.showOf x).state ≠ .retired) ↔
        (s.showOf x).stateAt m = .retired := ⟨And.left, fun e => ⟨e, fun k => moved (e.trans k.symm)⟩⟩
    simp only [board, retires]
    rfl
  · next still =>
    rw [if_neg still, ← shows, if_neg fun retires => still fun e => retires.2 (e ▸ retires.1)]
    exact ⟨.refl s, rfl⟩

/-- The order after an evaluation of a slot: the slot leaves it where it retires (R68, R71). -/
def State.orderAfter (m : Nat) : List Slot :=
  if (s.showOf x).stateAt m = .retired ∧ (s.showOf x).state ≠ .retired then s.board.order.filter fun y => y != x
  else s.board.order

/-- An evaluation of a slot changes of the board its record and the listing order (R68, R70). -/
theorem State.evaluateSlot_board (m : Nat) :
    s.KeepsRest (s.evaluateSlot x m) ∧
    (s.evaluateSlot x m).board = { s.board with
      shows := s.board.shows.write x { s.showOf x with
        state := (s.showOf x).stateAt m
        salesClosed := (s.showOf x).salesClosed || decide ((s.showOf x).closeMinute ≤ m) }
      order := s.orderAfter x m } := by
  obtain ⟨rest, board⟩ := s.advanceShow_board x m
  have shows := (s.evaluateSlot_spec x m).2
  unfold State.evaluateSlot at shows ⊢
  dsimp only at shows ⊢
  rw [← shows]
  split
  · have mark := State.seatMark_leaves ((s.advanceShow x m).setShow x
      { (s.advanceShow x m).showOf x with salesClosed := true }) x
    refine ⟨(rest.trans (State.setShow_keepsRest _ x _)).trans (.of_leaves mark), ?_⟩
    rw [State.closeSales, mark.blocks.board (by simp)]
    simp only [State.setShow, board]
    rfl
  · refine ⟨rest, ?_⟩
    rw [board]
    rfl

/-- The records after an evaluation of an occupied, unretired slot (R68, R70). -/
theorem State.evaluateSlot_showOf (h : (s.showOf x).state.unretired = true) (m : Nat) (y : Slot) :
    (s.evaluateSlot x m).showOf y = if y = x then (s.showOf x).evaluatedAt m else s.showOf y := by
  have shows := (s.evaluateSlot_spec x m).2
  rw [Show.stateAt_eq_evaluatedAt h] at shows
  unfold State.showOf
  rw [shows, Table.read_write]
  rfl

end

/-! ### The evaluation of the board at a minute boundary (R56, R69) -/

/-- A show's record after its turn in the evaluation of the board (R69). -/
def Show.afterTurn (m : Nat) (w : Show) : Show := if w.state = .vacant ∨ w.state = .retired then w else w.evaluatedAt m

section
variable (s : State) (m : Nat)

theorem State.evaluateTurn_showOf (x y : Slot) :
    (s.evaluateTurn m x).showOf y = if y = x then (s.showOf x).afterTurn m else s.showOf y := by
  unfold State.evaluateTurn Show.afterTurn
  split
  · next h =>
    have ⟨occupied, unretired⟩ := (ShowState.unretired_iff _).mp h
    rw [s.evaluateSlot_showOf x h m, if_neg (show ¬ _ from not_or.mpr ⟨occupied, unretired⟩)]
  · next h =>
    have out : (s.showOf x).state = .vacant ∨ (s.showOf x).state = .retired := by
      by_contra k
      exact h ((ShowState.unretired_iff _).mpr (not_or.mp k))
    rw [if_pos out]
    split
    · next e => rw [e]
    · rfl

theorem State.evaluateTurn_keepsRest (x : Slot) : s.KeepsRest (s.evaluateTurn m x) :=
  .ite (s.evaluateSlot_board x m).1 (.refl s)

theorem State.recomputeDue_showOf (x : Slot) : s.recomputeDue.showOf x = s.showOf x := rfl

theorem State.recomputeDue_keepsRest : s.KeepsRest s.recomputeDue := ⟨rfl, rfl, rfl⟩

theorem State.evaluateAll_showOf (x : Slot) : (s.evaluateAll m).showOf x = (s.showOf x).afterTurn m := by
  rw [State.evaluateAll, State.recomputeDue_showOf]
  exact foldl_read_all (fun s x y => s.evaluateTurn_showOf m x y) s x

theorem State.evaluateAll_keepsRest : s.KeepsRest (s.evaluateAll m) :=
  (State.KeepsRest.foldl (fun s x => s.evaluateTurn_keepsRest m x) _ s).trans (State.recomputeDue_keepsRest _)

theorem State.evaluateAll_nextDue : (s.evaluateAll m).board.nextDue = nextDueOf (s.evaluateAll m).board.shows := by
  rw [State.evaluateAll, State.recomputeDue_nextDue, State.recomputeDue_shows]

end

section
variable {s : State} {m : Nat}

theorem State.boardMinute_of_due {due : Nat} (h : s.board.nextDue = some due) (come : due ≤ m) :
    s.boardMinute m true = s.evaluateAll m := by
  simp only [State.boardMinute, h, come, and_self, if_true]

theorem State.boardMinute_of_early (h : ∀ due, s.board.nextDue = some due → m < due) (e : Bool) :
    s.boardMinute m e = s := by
  unfold State.boardMinute
  split
  · next due hd => exact if_neg fun k => absurd k.2 (Nat.not_le.mpr (h due hd))
  · rfl

/-- An evaluation of the board is one of states with the same boards (R56). -/
theorem State.EvaluatesBoard.congr {u v t : State} (h : u.EvaluatesBoard v m) (hs : u.board = s.board)
    (ht : t.board = v.board) : s.EvaluatesBoard t m := by
  obtain ⟨due, early⟩ := h
  simp only [State.showOf, hs, ← ht] at due early
  exact ⟨due, early⟩

/-- A minute boundary that finds the board evaluating (R42, R56, R69). -/
theorem State.minuteBoundary_evaluates (counting : s.clock.Counting) : s.EvaluatesBoard (s.minuteBoundary m) m := by
  have counts : s.clock.state.counts = true := (ClockState.counts_iff _).mpr counting
  have board := (State.minuteMarks_leaves (s.boardMinute m true) m).blocks.board (by simp)
  refine State.EvaluatesBoard.congr (u := s) (v := s.boardMinute m true)
    ⟨fun due hd come => ?_, fun early => congrArg State.board (State.boardMinute_of_early early true)⟩ rfl ?_
  · rw [State.boardMinute_of_due hd come]
    exact ⟨s.evaluateAll_showOf m, s.evaluateAll_nextDue m, (s.evaluateAll_keepsRest m).titles⟩
  · rw [State.minuteBoundary, counts]
    exact board

/-- Before the next due minute a minute boundary raises the formatter's marks and no more (R56, R133). -/
theorem State.minuteBoundary_leaves_of_early (h : ∀ due, s.board.nextDue = some due → m < due) :
    s.Leaves [.rep, .fmt] (s.minuteBoundary m) := by
  rw [State.minuteBoundary, State.boardMinute_of_early h]
  exact s.minuteMarks_leaves m

end

end Sys2Proof.Machine
end

section
/-! SUPPORT. The next due minute, and a minute boundary by counting (R42, R44, R55, R56, R68 to R70). -/

namespace Sys2Proof.Machine

/-- Occupied and not RETIRED (R55). -/
abbrev Show.Unretired (w : Show) : Prop := w.state ≠ .vacant ∧ w.state ≠ .retired

/-- A minute is a pending threshold of an occupied, unretired show (R55). -/
def Show.Pending (w : Show) (m : Nat) : Prop :=
  (w.state = .listed ∧ m = w.start - w.lead) ∨ ((w.state = .listed ∨ w.state = .boarding) ∧ m = w.start) ∨
    (w.salesClosed = false ∧ m = w.start + w.closeOffset) ∨ m = w.start + w.grace

theorem ShowState.upcoming_iff (k : ShowState) : k.upcoming = true ↔ k = .listed ∨ k = .boarding := by
  cases k <;> simp [ShowState.upcoming]

theorem mem_singleton_if {p : Prop} [Decidable p] (m n : Nat) : m ∈ (if p then [n] else []) ↔ p ∧ m = n := by
  split <;> simp [*]

theorem Show.mem_thresholds {w : Show} (h : w.Unretired) (m : Nat) : m ∈ w.thresholds ↔ w.Pending m := by
  have unretired : w.state.unretired = true := (ShowState.unretired_iff _).mpr h
  have closing : m ∈ (if w.salesClosed then [] else [w.closeMinute]) ↔ w.salesClosed = false ∧ m = w.closeMinute := by
    cases w.salesClosed <;> simp
  simp only [Show.thresholds, List.mem_append, mem_singleton_if, closing, ShowState.upcoming_iff, unretired, true_and,
    or_assoc]
  rfl

/-- The pending thresholds of the occupied, unretired slots (R55). -/
def pendingMinutes (shows : Table Show 96) : List Nat :=
  (List.finRange 96).flatMap fun x => if (shows.read x).state.unretired then (shows.read x).thresholds else []

theorem mem_pendingMinutes (shows : Table Show 96) (m : Nat) :
    m ∈ pendingMinutes shows ↔ ∃ x, (shows.read x).Unretired ∧ (shows.read x).Pending m := by
  have at' : ∀ x, m ∈ (if (shows.read x).state.unretired then (shows.read x).thresholds else []) ↔
      (shows.read x).Unretired ∧ (shows.read x).Pending m := fun x => by
    split
    · next h =>
      have unretired := (ShowState.unretired_iff _).mp h
      rw [Show.mem_thresholds unretired]
      exact ⟨fun pending => ⟨unretired, pending⟩, And.right⟩
    · next h => exact ⟨fun k => absurd k List.not_mem_nil, fun k => absurd ((ShowState.unretired_iff _).mpr k.1) h⟩
  simp only [pendingMinutes, List.mem_flatMap, List.mem_finRange, true_and, at']

/-- The next due minute is the least pending threshold (R55). -/
theorem nextDueOf_eq_some_iff (shows : Table Show 96) (m : Nat) :
    nextDueOf shows = some m ↔
      (∃ x, (shows.read x).Unretired ∧ (shows.read x).Pending m) ∧
      ∀ x k, (shows.read x).Unretired → (shows.read x).Pending k → m ≤ k := by
  change (pendingMinutes shows).min? = some m ↔ _
  rw [List.min?_eq_some_iff, mem_pendingMinutes]
  simp only [mem_pendingMinutes, forall_exists_index, and_imp]
  exact and_congr_right fun _ => forall_comm

/-- There is no next due minute exactly where no slot is occupied and unretired (R55): its retire minute would be pending. -/
theorem nextDueOf_eq_none_iff (shows : Table Show 96) :
    nextDueOf shows = none ↔ ∀ x, ¬ (shows.read x).Unretired := by
  change (pendingMinutes shows).min? = none ↔ _
  rw [List.min?_eq_none_iff, List.eq_nil_iff_forall_not_mem]
  simp only [mem_pendingMinutes]
  refine ⟨fun h x unretired => h _ ⟨x, unretired, .inr (.inr (.inr rfl))⟩, fun h _ k => ?_⟩
  obtain ⟨x, unretired, _⟩ := k
  exact h x unretired

/-! ### A counted minute at the board -/

section
variable (s : State)

theorem State.holdoverStep_leaves : s.Leaves [.rep, .clock, .fmt] s.holdoverStep := by
  unfold State.holdoverStep
  split
  · have set : s.Leaves [.rep, .clock, .fmt] (s.setClock { s.clock with state := .holdover }) :=
      .of_same (by constructor <;> simp) rfl rfl
    exact set.trans ((State.setFlag_leaves _ _).mono (by simp))
  · exact .refl _ s

theorem State.lostStep_leaves : s.Leaves [.rep, .clock, .fmt] s.lostStep :=
  .ite s.loseClock_leaves (.refl _ s)

/-- The steps after the minute boundary reach the clock, its flags and marks (R44, steps 3 and 4). -/
theorem State.markSteps_leaves : s.Leaves [.rep, .clock, .fmt] s.holdoverStep.lostStep :=
  s.holdoverStep_leaves.trans (State.lostStep_leaves _)

theorem State.advanceMinute_evaluates (counting : s.clock.Counting) :
    s.EvaluatesBoard s.advanceMinute (s.clock.minute + 1) := by
  have boundary := State.minuteBoundary_evaluates (m := s.clock.minute + 1)
    (s := s.setClock { s.clock with minute := s.clock.minute + 1, second := 0 }) counting
  refine boundary.congr rfl ?_
  rw [State.advanceMinute_eq, s.countMinute.markSteps_leaves.blocks.board (by simp)]
  rfl

theorem State.advanceMinute_leaves_of_early (h : ∀ due, s.board.nextDue = some due → s.clock.minute + 1 < due) :
    s.Leaves [.rep, .clock, .fmt] s.advanceMinute := by
  have set : ∀ (u : State) (c : Clock), u.Leaves [.rep, .clock, .fmt] (u.setClock c) := fun u c =>
    .of_same (by constructor <;> simp) rfl rfl
  have boundary := State.minuteBoundary_leaves_of_early (m := s.clock.minute + 1)
    (s := s.setClock { s.clock with minute := s.clock.minute + 1, second := 0 }) h
  exact (((set s _).trans (boundary.mono (by simp))).trans (set _ _)).trans s.countMinute.markSteps_leaves

end

/-- Settles O45: the next due minute is the minimum of the pending thresholds, and a counted minute is a minute boundary at
the board. -/
theorem boundaryEvaluatesShows : Obligations.BoundaryEvaluatesShows := by
  unfold Obligations.BoundaryEvaluatesShows
  refine ⟨fun shows => ⟨nextDueOf_eq_some_iff shows, nextDueOf_eq_none_iff shows⟩, fun s counting room => ?_⟩
  exact ⟨_, exec_minuteBoundary_of_canAdvance counting room, s.advanceMinute_evaluates counting,
    s.advanceMinute_leaves.blocks.tally (by simp), s.advanceMinute_leaves.mono (by simp),
    s.advanceMinute_leaves_of_early⟩

end Sys2Proof.Machine
end

section
/-! SUPPORT. The tickers after a notice change, and the clear of a slot as a change of each block (R62, R119, R164). -/

namespace Sys2Proof.Machine

/-! ### Notice changes at the tickers (R119, R164) -/

section
variable (s : State)

/-- A notice change at one running ticker (R164). -/
theorem State.rejudgeTicker_tickers (d e : DisplayNo) :
    (s.rejudgeTicker d).comp.tickers.read e =
      if e = d then
        (s.comp.tickers.read d).judged (eligibleNotices s.notice.queue d (s.comp.tickers.read d).classes)
          s.settings.dwell
      else s.comp.tickers.read e := by
  have unmoved : s.comp.tickers.read e = if e = d then s.comp.tickers.read d else s.comp.tickers.read e := by
    split
    · next h => rw [h]
    · rfl
  have moved : ∀ k : Ticker, ((s.setTicker d k).tickerStepMark d).comp.tickers.read e =
      if e = d then k else s.comp.tickers.read e := fun k => by
    have mark := (State.markTile_leaves (s.setTicker d k) (noticeTile d)).blocks.comp (by simp)
    rw [State.tickerStepMark, mark]
    exact Table.read_write _ _ _ _
  unfold State.rejudgeTicker Ticker.judged
  dsimp only
  generalize eligibleNotices s.notice.queue d (s.comp.tickers.read d).classes = list
  cases s.comp.tickers.read d |>.running with
  | false => exact unmoved
  | true =>
    rw [if_pos rfl]
    cases s.comp.tickers.read d |>.current with
    | some id =>
      dsimp only
      by_cases held : ∃ n ∈ list, n.id = id
      · have any : (list.any fun n => n.id == id) = true := by simpa using held
        rw [if_pos any, if_pos held]
        exact unmoved
      · have any : ¬ (list.any fun n => n.id == id) = true := by simpa using held
        rw [if_neg any, if_neg held, moved]
        simp only [List.isEmpty_iff]
    | none =>
      cases list with
      | nil => exact unmoved
      | cons n rest => exact moved _

theorem State.rejudgeTicker_settings (d : DisplayNo) : (s.rejudgeTicker d).settings = s.settings :=
  (s.rejudgeTicker_leaves d).leaves.blocks.settings (by simp)

theorem State.rejudgeTicker_notice (d : DisplayNo) : (s.rejudgeTicker d).notice = s.notice :=
  (s.rejudgeTicker_leaves d).leaves.blocks.notice (by simp)

/-- The tickers of a list of displays, each once, are judged by the queue (R164). -/
theorem State.rejudgeTickers_tickers (e : DisplayNo) : ∀ (ds : List DisplayNo), ds.Nodup → ∀ s : State,
    (ds.foldl State.rejudgeTicker s).comp.tickers.read e =
      if e ∈ ds then
        (s.comp.tickers.read e).judged (eligibleNotices s.notice.queue e (s.comp.tickers.read e).classes)
          s.settings.dwell
      else s.comp.tickers.read e
  | [], _, s => by simp
  | d :: ds, nodup, s => by
    obtain ⟨out, nodup⟩ := List.nodup_cons.mp nodup
    rw [List.foldl_cons, State.rejudgeTickers_tickers e ds nodup, s.rejudgeTicker_notice, s.rejudgeTicker_settings,
      s.rejudgeTicker_tickers]
    by_cases h : e = d
    · subst h
      simp [out]
    · simp [h]

theorem targetsOf_getLsbD (q : List Notice) (d : DisplayNo) :
    (targetsOf q).getLsbD d.val = q.any fun n => n.targets d := by
  have join : ∀ (q : List Notice) (w : DisplaySet),
      (q.foldl (fun w n => w ||| n.target) w).getLsbD d.val = (w.getLsbD d.val || q.any fun n => n.targets d) := by
    intro q
    induction q with
    | nil => simp
    | cons n q ih =>
      intro w
      rw [List.foldl_cons, ih, BitVec.getLsbD_or, List.any_cons, Bool.or_assoc]
      rfl
  rw [targetsOf, join, BitVec.ofNat_eq_ofNat, BitVec.getLsbD_zero, Bool.false_or]

/-- A notice change judges the tickers of the displays concerned, and no other (R119, R164). -/
theorem State.noticeChange_tickers (ds : DisplaySet) (d : DisplayNo) :
    (s.noticeChange ds).comp.tickers.read d =
      if ds.getLsbD d.val = true then
        (s.comp.tickers.read d).judged (eligibleNotices s.notice.queue d (s.comp.tickers.read d).classes)
          s.settings.dwell
      else s.comp.tickers.read d := by
  have marks := (s.noticeTileMarks_leaves ds).blocks
  rw [State.noticeChange, State.forDisplays,
    State.rejudgeTickers_tickers d _ ((List.nodup_finRange 12).filter _), marks.comp (by simp),
    marks.notice (by simp), marks.settings (by simp)]
  simp only [List.mem_filter, List.mem_finRange, true_and]

/-- The removal of notices judges the tickers of the displays that a notice which leaves targets (R119, R164). -/
theorem State.removeNotices_tickers (p : Notice → Bool) (d : DisplayNo) :
    (s.removeNotices p).comp.tickers.read d =
      if (s.notice.queue.any fun n => p n && n.targets d) = true then
        (s.comp.tickers.read d).judged
          (eligibleNotices (s.notice.queue.filter fun n => !p n) d (s.comp.tickers.read d).classes) s.settings.dwell
      else s.comp.tickers.read d := by
  have any : (s.notice.queue.any fun n => p n && n.targets d) =
      (s.notice.queue.filter p).any fun n => n.targets d := by rw [List.any_filter]
  rw [any]
  unfold State.removeNotices
  dsimp only
  split
  · next none =>
    rw [List.isEmpty_iff.mp none]
    rfl
  · rw [State.noticeChange_tickers, targetsOf_getLsbD]
    rfl

/-- Where no notice leaves, the removal changes nothing (R119). -/
theorem State.removeNotices_of_none {p : Notice → Bool} (h : ∀ n ∈ s.notice.queue, p n = false) :
    s.removeNotices p = s := by
  have none : (s.notice.queue.filter p).isEmpty = true := by
    rw [List.isEmpty_iff, List.filter_eq_nil_iff]
    exact fun n hn => by simp [h n hn]
  rw [State.removeNotices]
  exact if_pos none

end

/-! ### The clear of a slot (R62) -/

/-- A slot out of an order is one whose removal changes nothing. -/
theorem filter_ne_of_not_mem {order : List Slot} {x : Slot} (h : x ∉ order) : (order.filter fun y => y != x) = order :=
  List.filter_eq_self.mpr fun y hy => by
    have : y ≠ x := fun e => h (e ▸ hy)
    simpa using this

section
variable (s : State) (x : Slot)

/-- The notices that a clear of a slot takes away (R62, R73, R118). -/
def State.clearedBy (n : Notice) : Bool := n.leavesWith x (decide ((s.showOf x).state = .boarding)) true

/-- A slot leaves the listing order at its clear, with a listing change where it stood in it (R62, R76). -/
def State.unlist : State := if s.board.order.contains x then (s.unplaceSlot x).listingChange else s

theorem State.clearOccupied_eq : s.clearOccupied x =
    (((((s.removeNotices (s.clearedBy x)).unlist x).zeroTally x).setShow x Show.vacant).slotMark x) := rfl

theorem State.unlist_leaves : s.Leaves [.rep, .board, .fmt, .comp] (s.unlist x) := by
  have order : s.Leaves [.rep, .board, .fmt, .comp] (s.unplaceSlot x) := .of_same (by constructor <;> simp [State.unplaceSlot]) rfl rfl
  exact .ite (order.trans ((State.listingChange_leaves _).leaves.mono (by simp))) (.refl _ s)

theorem State.unlist_board :
    (s.unlist x).board = { s.board with order := s.board.order.filter fun y => y != x } := by
  unfold State.unlist
  split
  · rw [(State.listingChange_leaves _).leaves.blocks.board (by simp)]
    rfl
  · next out => rw [filter_ne_of_not_mem fun h => out (List.contains_iff_mem.mpr h)]

theorem State.unlist_tickers : (s.unlist x).comp.tickers = s.comp.tickers := by
  unfold State.unlist
  split
  · rw [(State.listingChange_leaves _).comp]
    rfl
  · rfl

/-- A clear reaches the board, the tally and notice units, pages, tickers and marks, and no directive (R62). -/
theorem State.clearOccupied_leaves : s.Leaves [.rep, .board, .tally, .notice, .fmt, .comp] (s.clearOccupied x) := by
  have zero : ∀ u : State, u.Leaves [.rep, .board, .tally, .notice, .fmt, .comp] ((u.zeroTally x).setShow x Show.vacant) :=
    fun u => .of_same (by constructor <;> simp [State.zeroTally]) rfl rfl
  rw [State.clearOccupied_eq]
  exact ((((s.removeNotices_leaves _).mono (by simp)).trans ((State.unlist_leaves _ x).mono (by simp))).trans
    (zero _)).trans ((State.slotMark_leaves _ x).mono (by simp))

theorem State.clearOccupied_board : (s.clearOccupied x).board = { s.board with
    shows := s.board.shows.write x Show.vacant, order := s.board.order.filter fun y => y != x } := by
  rw [State.clearOccupied_eq, (State.slotMark_leaves _ x).blocks.board (by simp)]
  have board : ∀ u : State, ((u.zeroTally x).setShow x Show.vacant).board =
      { u.board with shows := u.board.shows.write x Show.vacant } := fun _ => rfl
  rw [board, State.unlist_board, (s.removeNotices_leaves _).blocks.board (by simp)]

theorem State.clearOccupied_tally :
    (s.clearOccupied x).tally = { s.tally with tallies := s.tally.tallies.write x Tally.zeroed } := by
  rw [State.clearOccupied_eq, (State.slotMark_leaves _ x).blocks.tally (by simp)]
  have tally : ∀ u : State, ((u.zeroTally x).setShow x Show.vacant).tally =
      { u.tally with tallies := u.tally.tallies.write x Tally.zeroed } := fun _ => rfl
  rw [tally, (State.unlist_leaves _ x).blocks.tally (by simp), (s.removeNotices_leaves _).blocks.tally (by simp)]

theorem State.clearOccupied_notice :
    (s.clearOccupied x).notice = { s.notice with queue := s.notice.queue.filter fun n => !s.clearedBy x n } := by
  rw [State.clearOccupied_eq, (State.slotMark_leaves _ x).blocks.notice (by simp)]
  have notice : ∀ u : State, ((u.zeroTally x).setShow x Show.vacant).notice = u.notice := fun _ => rfl
  rw [notice, (State.unlist_leaves _ x).blocks.notice (by simp)]
  exact (s.removeNotices_spec _).2.1

theorem State.clearOccupied_tickers :
    (s.clearOccupied x).comp.tickers = (s.removeNotices (s.clearedBy x)).comp.tickers := by
  rw [State.clearOccupied_eq, (State.slotMark_leaves _ x).blocks.comp (by simp)]
  have comp : ∀ u : State, ((u.zeroTally x).setShow x Show.vacant).comp = u.comp := fun _ => rfl
  rw [comp, State.unlist_tickers]

theorem State.clearOccupied_keepsRest : s.KeepsRest (s.clearOccupied x) where
  dir := by rw [(s.clearOccupied_leaves x).blocks.dir (by simp)]
  titles := by rw [s.clearOccupied_board x]
  desks := by rw [s.clearOccupied_tally x]

theorem State.occupied_iff : s.occupied x = true ↔ (s.showOf x).state ≠ .vacant := by simp [State.occupied]

theorem State.clearSlot_of_occupied (h : (s.showOf x).state ≠ .vacant) : s.clearSlot x = s.clearOccupied x :=
  if_pos ((s.occupied_iff x).mpr h)

theorem State.clearSlot_of_vacant (h : (s.showOf x).state = .vacant) : s.clearSlot x = s :=
  if_neg fun occupied => (s.occupied_iff x).mp occupied h

end

end Sys2Proof.Machine
end

section
/-! SUPPORT. MARK TIME, OPEN DAY and CLOSE DAY (R42, R47, R49, R50, R56, R62, R118, R119). -/

namespace Sys2Proof.Machine

/-! ### A slot's clear, whether it is occupied or not (R62) -/

section
variable (s : State) (x : Slot)

theorem State.clearSlot_leaves_blocks : s.Leaves [.rep, .board, .tally, .notice, .fmt, .comp] (s.clearSlot x) :=
  .ite (s.clearOccupied_leaves x) (.refl _ s)

theorem State.clearSlot_keepsRest : s.KeepsRest (s.clearSlot x) := .ite (s.clearOccupied_keepsRest x) (.refl s)

/-- A show record and a tally, cleared where the slot is occupied (R62, R97). -/
def clearedPair (p : Show × Tally) : Show × Tally := if p.1.state = .vacant then p else (Show.vacant, Tally.zeroed)

/-- A clear touches the records of its own slot alone (R62). -/
theorem State.clearSlot_records (y : Slot) :
    ((s.clearSlot x).showOf y, (s.clearSlot x).tallyOf y) =
      if y = x then clearedPair (s.showOf x, s.tallyOf x) else (s.showOf y, s.tallyOf y) := by
  by_cases h : (s.showOf x).state = .vacant
  · rw [s.clearSlot_of_vacant x h, clearedPair, if_pos h]
    split
    · next e => rw [e]
    · rfl
  · rw [s.clearSlot_of_occupied x h, clearedPair, if_neg h]
    unfold State.showOf State.tallyOf
    rw [s.clearOccupied_board, s.clearOccupied_tally, Table.read_write, Table.read_write]
    split <;> rfl

/-- A clear changes the queue of the notice unit and no more of it (R62, R118). -/
theorem State.clearSlot_notice : ∃ q : List Notice, (s.clearSlot x).notice = { s.notice with queue := q } ∧ q ⊆ s.notice.queue := by
  by_cases h : (s.showOf x).state = .vacant
  · rw [s.clearSlot_of_vacant x h]
    exact ⟨_, rfl, List.Subset.refl _⟩
  · rw [s.clearSlot_of_occupied x h]
    exact ⟨_, s.clearOccupied_notice x, fun _ => List.mem_of_mem_filter⟩

/-- No slot in the listing order is VACANT. -/
def Board.NoneVacant (b : Board) : Prop := ∀ y ∈ b.order, (b.shows.read y).state ≠ .vacant

theorem State.clearSlot_noneVacant (h : s.board.NoneVacant) : (s.clearSlot x).board.NoneVacant := by
  by_cases vacant : (s.showOf x).state = .vacant
  · rwa [s.clearSlot_of_vacant x vacant]
  · rw [s.clearSlot_of_occupied x vacant, s.clearOccupied_board]
    intro y hy
    obtain ⟨listed, other⟩ := List.mem_filter.mp hy
    dsimp only
    rw [Table.read_write_other _ _ (by simpa using other)]
    exact h y listed

/-- A notice that is neither linked nor a boarding notice: no clear takes it away (R73, R118). -/
def Notice.Plain (n : Notice) : Prop := n.linked = none ∧ n.id.toNat < 160

theorem Notice.Plain.not_cleared {n : Notice} (h : n.Plain) : s.clearedBy x n = false := by
  have other : n.id ≠ boardingId x := fun e => by
    have id := congrArg BitVec.toNat e
    rw [boardingId, BitVec.toNat_ofNat, Nat.mod_eq_of_lt (by omega)] at id
    have := h.2
    omega
  simp [State.clearedBy, Notice.leavesWith, h.1, other]

theorem State.clearSlot_keeps_plain {n : Notice} (h : n.Plain) (live : n ∈ s.notice.queue) :
    n ∈ (s.clearSlot x).notice.queue := by
  by_cases vacant : (s.showOf x).state = .vacant
  · rwa [s.clearSlot_of_vacant x vacant]
  · rw [s.clearSlot_of_occupied x vacant, s.clearOccupied_notice]
    exact List.mem_filter.mpr ⟨live, by simp [h.not_cleared]⟩

/-- Where every notice is plain, a clear leaves the notices and the tickers (R119). -/
theorem State.clearSlot_of_plain (h : ∀ n ∈ s.notice.queue, n.Plain) :
    (s.clearSlot x).notice = s.notice ∧ (s.clearSlot x).comp.tickers = s.comp.tickers := by
  by_cases vacant : (s.showOf x).state = .vacant
  · rw [s.clearSlot_of_vacant x vacant]
    exact ⟨rfl, rfl⟩
  · have none : ∀ n ∈ s.notice.queue, s.clearedBy x n = false := fun n hn => (h n hn).not_cleared s x
    have kept : (s.notice.queue.filter fun n => !s.clearedBy x n) = s.notice.queue :=
      List.filter_eq_self.mpr fun n hn => by simp [none n hn]
    rw [s.clearSlot_of_occupied x vacant, s.clearOccupied_notice, s.clearOccupied_tickers, s.removeNotices_of_none none,
      kept]
    exact ⟨rfl, rfl⟩

end

/-! ### The clears of CLOSE DAY (R50, R62) -/

section
variable (s : State)

theorem State.clearSlots_notice : ∀ (L : List Slot) (s : State), ∃ q : List Notice,
    (L.foldl State.clearSlot s).notice = { s.notice with queue := q } ∧ q ⊆ s.notice.queue
  | [], s => ⟨s.notice.queue, rfl, List.Subset.refl _⟩
  | x :: L, s => by
    obtain ⟨q, notice, sub⟩ := s.clearSlot_notice x
    obtain ⟨q', notice', sub'⟩ := State.clearSlots_notice L (s.clearSlot x)
    rw [notice] at notice' sub'
    exact ⟨q', notice', fun _ held => sub (sub' held)⟩

theorem State.clearSlots_keeps_plain {n : Notice} (h : n.Plain) : ∀ (L : List Slot) (s : State), n ∈ s.notice.queue →
    n ∈ (L.foldl State.clearSlot s).notice.queue
  | [], _, live => live
  | x :: L, s, live => State.clearSlots_keeps_plain h L _ (s.clearSlot_keeps_plain x h live)

theorem State.clearSlots_of_plain : ∀ (L : List Slot) (s : State), (∀ n ∈ s.notice.queue, n.Plain) →
    (L.foldl State.clearSlot s).notice = s.notice ∧ (L.foldl State.clearSlot s).comp.tickers = s.comp.tickers
  | [], _, _ => ⟨rfl, rfl⟩
  | x :: L, s, h => by
    obtain ⟨notice, tickers⟩ := s.clearSlot_of_plain x h
    obtain ⟨notice', tickers'⟩ := State.clearSlots_of_plain L (s.clearSlot x) (notice ▸ h)
    exact ⟨notice'.trans notice, tickers'.trans tickers⟩

theorem State.clearSlots_noneVacant : ∀ (L : List Slot) (s : State), s.board.NoneVacant →
    (L.foldl State.clearSlot s).board.NoneVacant
  | [], _, h => h
  | x :: L, s, h => State.clearSlots_noneVacant L _ (s.clearSlot_noneVacant x h)

/-- The board with no minute due (R55). -/
def State.withoutDue : State := { s with board := { s.board with nextDue := none } }

theorem State.withoutDue_notice : s.withoutDue.notice = s.notice := rfl

theorem State.withoutDue_comp : s.withoutDue.comp = s.comp := rfl

theorem State.withoutDue_nextDue : s.withoutDue.board.nextDue = none := rfl

theorem State.withoutDue_noneVacant : s.withoutDue.board.NoneVacant ↔ s.board.NoneVacant := Iff.rfl

theorem State.withoutDue_records (x : Slot) :
    (s.withoutDue.showOf x, s.withoutDue.tallyOf x) = (s.showOf x, s.tallyOf x) := rfl

theorem State.withoutDue_leaves : s.Leaves [.board] s.withoutDue :=
  .of_same (by constructor <;> simp [State.withoutDue]) rfl rfl

theorem State.withoutDue_keepsRest : s.KeepsRest s.withoutDue := ⟨rfl, rfl, rfl⟩

theorem State.closeBoard_eq : s.closeBoard = ((List.finRange 96).foldl State.clearSlot s).withoutDue := rfl

/-- The board at CLOSE DAY: every occupied slot is cleared, with its tally (R50, R62). -/
theorem State.closeBoard_records (x : Slot) :
    (s.closeBoard.showOf x, s.closeBoard.tallyOf x) = clearedPair (s.showOf x, s.tallyOf x) := by
  rw [State.closeBoard_eq, State.withoutDue_records]
  exact foldl_read_all (read := fun s y => (s.showOf y, s.tallyOf y)) (fun s x y => s.clearSlot_records x y) s x

theorem State.closeBoard_vacant (x : Slot) : (s.closeBoard.showOf x).state = .vacant := by
  have records := congrArg Prod.fst (s.closeBoard_records x)
  unfold clearedPair at records
  split at records
  · next vacant => exact (congrArg Show.state records).trans vacant
  · exact congrArg Show.state records

theorem State.closeBoard_records_of_occupied {x : Slot} (h : (s.showOf x).state ≠ .vacant) :
    s.closeBoard.showOf x = Show.vacant ∧ s.closeBoard.tallyOf x = Tally.zeroed := by
  have records := s.closeBoard_records x
  rw [clearedPair, if_neg h] at records
  exact Prod.mk.inj records

theorem State.closeBoard_leaves : s.Leaves [.rep, .board, .tally, .notice, .fmt, .comp] s.closeBoard := by
  rw [State.closeBoard_eq]
  exact (State.Leaves.foldl State.clearSlot_leaves_blocks (List.finRange 96) s).trans
    ((State.withoutDue_leaves _).mono (by simp))

theorem State.closeBoard_keepsRest : s.KeepsRest s.closeBoard := by
  rw [State.closeBoard_eq]
  exact (State.KeepsRest.foldl State.clearSlot_keepsRest (List.finRange 96) s).trans (State.withoutDue_keepsRest _)

/-- The listing order is empty at the end: no slot in it is VACANT, and every slot is (R50, R75). -/
theorem State.closeBoard_order (h : s.board.NoneVacant) : s.closeBoard.board.order = [] := by
  have kept : s.closeBoard.board.NoneVacant := by
    rw [State.closeBoard_eq, State.withoutDue_noneVacant]
    exact State.clearSlots_noneVacant (List.finRange 96) s h
  exact List.eq_nil_iff_forall_not_mem.mpr fun y hy => kept y hy (s.closeBoard_vacant y)

theorem State.closeBoard_nextDue : s.closeBoard.board.nextDue = none := by
  rw [State.closeBoard_eq, State.withoutDue_nextDue]

theorem State.closeBoard_notice : ∃ q : List Notice,
    s.closeBoard.notice = { s.notice with queue := q } ∧ q ⊆ s.notice.queue := by
  rw [State.closeBoard_eq, State.withoutDue_notice]
  exact State.clearSlots_notice (List.finRange 96) s

theorem State.closeBoard_keeps_plain {n : Notice} (h : n.Plain) (live : n ∈ s.notice.queue) :
    n ∈ s.closeBoard.notice.queue := by
  rw [State.closeBoard_eq, State.withoutDue_notice]
  exact State.clearSlots_keeps_plain h (List.finRange 96) s live

theorem State.closeBoard_of_plain (h : ∀ n ∈ s.notice.queue, n.Plain) :
    s.closeBoard.notice = s.notice ∧ s.closeBoard.comp.tickers = s.comp.tickers := by
  rw [State.closeBoard_eq, State.withoutDue_notice, State.withoutDue_comp]
  exact State.clearSlots_of_plain (List.finRange 96) s h

/-! ### CLOSE DAY (R50) -/

/-- The desks and the clock at CLOSE DAY: no other block but the formatter's marks (R50). -/
theorem State.closeDay_tail_leaves : s.Leaves [.rep, .clock, .tally, .fmt] s.closeDesks.closeClock := by
  have desks : s.Leaves [.rep, .clock, .tally, .fmt] s.closeDesks :=
    .of_same (by constructor <;> simp [State.closeDesks]) rfl rfl
  have clock : ∀ u : State, ∀ c, u.Leaves [.rep, .clock, .tally, .fmt] (u.setClock c) := fun u c =>
    .of_same (by constructor <;> simp) rfl rfl
  exact (desks.trans (clock _ _)).trans ((State.clockTextChange_leaves _).mono (by simp))

theorem State.closeDay_tail_tally : s.closeDesks.closeClock.tally = { s.tally with
    desks := Table.tabulate fun k => { s.tally.desks.read k with toggle := none } } := by
  rw [State.closeClock, (State.clockTextChange_leaves _).blocks.tally (by simp)]
  rfl

/-- The notices that CLOSE DAY removes (R118). -/
theorem Notice.endsWithDay_iff (n : Notice) : n.endsWithDay = true ↔ n.cls = .show ∨ n.linked ≠ none := by
  simp [Notice.endsWithDay, Option.isSome_iff_ne_none]

theorem State.takeClose_leaves :
    s.Leaves [.rep, .clock, .board, .tally, .notice, .fmt, .comp] s.takeClose :=
  (((s.removeNotices_leaves _).mono (by simp)).trans ((State.closeBoard_leaves _).mono (by simp))).trans
    ((State.closeDay_tail_leaves _).mono (by simp))

theorem State.takeClose_board :
    s.takeClose.board = (s.removeNotices Notice.endsWithDay).closeBoard.board :=
  (State.closeDay_tail_leaves _).blocks.board (by simp)

theorem State.takeClose_notice :
    s.takeClose.notice = (s.removeNotices Notice.endsWithDay).closeBoard.notice :=
  (State.closeDay_tail_leaves _).blocks.notice (by simp)

theorem State.takeClose_tickers :
    s.takeClose.comp.tickers = (s.removeNotices Notice.endsWithDay).closeBoard.comp.tickers :=
  congrArg Compositor.tickers ((State.closeDay_tail_leaves _).blocks.comp (by simp))

theorem State.takeClose_showOf (x : Slot) :
    s.takeClose.showOf x = (s.removeNotices Notice.endsWithDay).closeBoard.showOf x :=
  congrArg (fun b : Board => b.shows.read x) s.takeClose_board

theorem State.takeClose_tallyOf (x : Slot) :
    s.takeClose.tallyOf x = (s.removeNotices Notice.endsWithDay).closeBoard.tallyOf x := by
  rw [State.takeClose]
  unfold State.tallyOf
  rw [State.closeDay_tail_tally]

theorem State.takeClose_desks (k : Fin 16) :
    s.takeClose.tally.desks.read k = { s.tally.desks.read k with toggle := none } := by
  have desks : (s.removeNotices Notice.endsWithDay).closeBoard.tally.desks = s.tally.desks :=
    (State.closeBoard_keepsRest _).desks.trans (congrArg _ ((s.removeNotices_leaves _).blocks.tally (by simp)))
  rw [State.takeClose, State.closeDay_tail_tally, desks]
  exact Table.read_tabulate _ k

/-- The notices that are live after CLOSE DAY were live, and are neither SHOW-class nor linked (R118). -/
theorem State.takeClose_queue_sub (n : Notice) (h : n ∈ s.takeClose.notice.queue) :
    n ∈ s.notice.queue ∧ n.cls ≠ .show ∧ n.linked = none := by
  obtain ⟨q, notice, sub⟩ := (s.removeNotices Notice.endsWithDay).closeBoard_notice
  rw [s.takeClose_notice, notice] at h
  have kept := sub h
  rw [(s.removeNotices_spec _).2.1] at kept
  obtain ⟨live, stays⟩ := List.mem_filter.mp kept
  have plain := mt n.endsWithDay_iff.mpr (by simpa using stays)
  exact ⟨live, fun e => plain (.inl e), not_not.mp fun e => plain (.inr e)⟩

/-- An unlinked notice of another class and of no slot stays (R118). -/
theorem State.takeClose_queue_keeps {n : Notice} (live : n ∈ s.notice.queue) (cls : n.cls ≠ .show)
    (linked : n.linked = none) (id : n.id.toNat < 160) : n ∈ s.takeClose.notice.queue := by
  rw [s.takeClose_notice]
  refine State.closeBoard_keeps_plain _ ⟨linked, id⟩ ?_
  rw [(s.removeNotices_spec _).2.1]
  have stays : ¬ n.endsWithDay = true := fun ends => (n.endsWithDay_iff.mp ends).elim cls fun k => k linked
  exact List.mem_filter.mpr ⟨live, by simpa using stays⟩

theorem State.takeClose_unit : s.takeClose.notice.post = s.notice.post ∧ s.takeClose.notice.wake = s.notice.wake ∧
    s.takeClose.notice.chimes = s.notice.chimes := by
  obtain ⟨q, notice, _⟩ := (s.removeNotices Notice.endsWithDay).closeBoard_notice
  rw [s.takeClose_notice, notice, (s.removeNotices_spec _).2.1]
  exact ⟨rfl, rfl, rfl⟩

/-- Where every boarding notice is SHOW-class or linked, CLOSE DAY raises one notice change: its clears find no notice to
take away (R118, R119). -/
theorem State.takeClose_tickersJudged
    (h : ∀ n ∈ s.notice.queue, 160 ≤ n.id.toNat → n.cls = .show ∨ n.linked ≠ none) :
    s.TickersJudged s.takeClose fun d => s.notice.queue.any fun n => n.endsWithDay && n.targets d := by
  have queue : (s.removeNotices Notice.endsWithDay).notice.queue = s.notice.queue.filter fun n => !n.endsWithDay := by
    rw [(s.removeNotices_spec _).2.1]
  have plain : ∀ n ∈ (s.removeNotices Notice.endsWithDay).notice.queue, n.Plain := fun n hn => by
    rw [queue] at hn
    obtain ⟨live, stays⟩ := List.mem_filter.mp hn
    have kept := mt n.endsWithDay_iff.mpr (by simpa using stays)
    exact ⟨not_not.mp fun e => kept (.inr e), Nat.lt_of_not_le fun id => kept (h n live id)⟩
  obtain ⟨notice, tickers⟩ := State.closeBoard_of_plain _ plain
  intro d
  dsimp only
  rw [s.takeClose_tickers, s.takeClose_notice, notice, tickers, queue]
  exact s.removeNotices_tickers Notice.endsWithDay d

theorem State.takeClose_order (h : s.board.Ordered) : s.takeClose.board.order = [] := by
  have board : (s.removeNotices Notice.endsWithDay).board = s.board := (s.removeNotices_leaves _).blocks.board (by simp)
  rw [s.takeClose_board]
  exact State.closeBoard_order _ (board ▸ fun y hy => ((h.members y).mp hy).1)

theorem State.takeClose_keeps : s.takeClose.board.titles = s.board.titles ∧ s.takeClose.board.nextDue = none := by
  rw [s.takeClose_board]
  exact ⟨(State.closeBoard_keepsRest _).titles.trans (congrArg _ ((s.removeNotices_leaves _).blocks.board (by simp))),
    State.closeBoard_nextDue _⟩

/-- The records after CLOSE DAY (R50, R62). -/
theorem State.takeClose_records (x : Slot) : (s.takeClose.showOf x).state = .vacant ∧
    ((s.showOf x).state ≠ .vacant → s.takeClose.showOf x = Show.vacant ∧ s.takeClose.tallyOf x = Tally.zeroed) := by
  have show' : (s.removeNotices Notice.endsWithDay).showOf x = s.showOf x :=
    congrArg (fun b : Board => b.shows.read x) ((s.removeNotices_leaves _).blocks.board (by simp))
  rw [s.takeClose_showOf, s.takeClose_tallyOf]
  exact ⟨State.closeBoard_vacant _ x, fun occupied => State.closeBoard_records_of_occupied _ (show' ▸ occupied)⟩

/-! ### MARK TIME and OPEN DAY (R47, R49) -/

section
variable {s : State}

/-- A mark of the held minute outside LOST takes the second and the count (R47). -/
theorem State.takeMark_of_held {m : Nat} (sec : Nat) (held : m = s.clock.minute) (found : s.clock.state ≠ .lost) :
    s.takeMark m sec = s.setClock { s.clock with state := .running, second := sec, sinceMark := 0 } := by
  subst held
  simp [State.takeMark, found]

/-- A mark of another minute, or one that ends LOST, raises a minute boundary (R42, R47). -/
theorem State.takeMark_of_moved {m : Nat} (sec : Nat) (moved : m ≠ s.clock.minute ∨ s.clock.state = .lost) :
    s.takeMark m sec =
      (if s.clock.state = .lost then
        (s.setClock { s.clock with state := .running, minute := m, second := sec, sinceMark := 0 }).clockTextChange
      else s.setClock { s.clock with state := .running, minute := m, second := sec, sinceMark := 0 }).minuteBoundary m :=
  if_pos moved

theorem State.takeMark_leaves (s : State) (m sec : Nat) : s.Leaves (.clock :: boardBlocks) (s.takeMark m sec) := by
  have text : ∀ (u : State) (p : Prop) [Decidable p],
      u.Leaves (.clock :: boardBlocks) (if p then u.clockTextChange else u) := fun u p _ =>
    .ite ((State.clockTextChange_leaves u).mono (by simp)) (.refl _ u)
  exact (s.setClock_leaves _).trans ((text _ _).trans (.ite ((State.minuteBoundary_leaves _ m).mono (by simp)) (.refl _ _)))

theorem State.takeMark_evaluates {m : Nat} (sec : Nat) (moved : m ≠ s.clock.minute ∨ s.clock.state = .lost) :
    s.EvaluatesBoard (s.takeMark m sec) m := by
  rw [State.takeMark_of_moved sec moved]
  split
  · have text := State.clockTextChange_leaves
      (s.setClock { s.clock with state := .running, minute := m, second := sec, sinceMark := 0 })
    refine (State.minuteBoundary_evaluates ?_).congr (text.blocks.board (by simp)) rfl
    rw [text.clock]
    exact .inl rfl
  · exact (State.minuteBoundary_evaluates
      (s := s.setClock { s.clock with state := .running, minute := m, second := sec, sinceMark := 0 })
      (.inl rfl)).congr rfl rfl

theorem State.takeOpen_leaves (s : State) (civil day : Nat) :
    s.Leaves (.clock :: boardBlocks) (s.takeOpen civil day) :=
  (((s.setClock_leaves _).trans ((State.clockTextChange_leaves _).mono (by simp))).trans
    ((State.minuteBoundary_leaves _ 0).mono (by simp))).trans ((State.markAllInUse_leaves _).mono (by simp))

theorem State.takeOpen_evaluates (s : State) (civil day : Nat) : s.EvaluatesBoard (s.takeOpen civil day) 0 := by
  have text := State.clockTextChange_leaves (s.setClock
    { state := .running, minute := 0, second := 0, civilStart := civil, dayNumber := day, sinceMark := 0 })
  refine (State.minuteBoundary_evaluates ?_).congr (text.blocks.board (by simp))
    ((State.markAllInUse_leaves _).blocks.board (by simp))
  rw [text.clock]
  exact .inl rfl

/-! ### The directives by their fields (R47, R49, R50, R181) -/

variable (tag : Byte)

theorem State.markTime_of_taken {m1 m0 sec : Byte} (minute : half m1 m0 ≤ 2879) (second : sec.toNat ≤ 59)
    (isOpen : s.clock.state ≠ .unset) : s.markTime tag [m1, m0, sec] = s.takeMark (half m1 m0) sec.toNat := by
  rw [State.markTime, if_pos ⟨minute, second⟩, if_neg isOpen]

theorem State.markTime_of_unset {m1 m0 sec : Byte} (minute : half m1 m0 ≤ 2879) (second : sec.toNat ≤ 59)
    (unset : s.clock.state = .unset) : s.markTime tag [m1, m0, sec] = s.refuseKind .markTime tag .dayClosed := by
  rw [State.markTime, if_pos ⟨minute, second⟩, if_pos unset]

theorem State.markTime_of_range {m1 m0 sec : Byte} (out : 2879 < half m1 m0 ∨ 59 < sec.toNat) :
    s.markTime tag [m1, m0, sec] = s.refuseKind .markTime tag .badField := by
  have : ¬ (half m1 m0 ≤ Config.lastMinute ∧ sec.toNat ≤ 59) := fun ⟨minute, second⟩ =>
    out.elim (Nat.not_lt.mpr minute) (Nat.not_lt.mpr second)
  rw [State.markTime, if_neg this]

theorem State.openDay_of_unset {c1 c0 : Byte} (d1 d0 : Byte) (civil : half c1 c0 ≤ 1439) (unset : s.clock.state = .unset) :
    s.openDay tag [c1, c0, d1, d0] = s.takeOpen (half c1 c0) (half d1 d0) := by
  rw [State.openDay, if_pos civil, if_pos unset]

theorem State.openDay_of_open {c1 c0 : Byte} (d1 d0 : Byte) (civil : half c1 c0 ≤ 1439) (isOpen : s.clock.state ≠ .unset) :
    s.openDay tag [c1, c0, d1, d0] = s.refuseKind .openDay tag .dayOpen := by
  rw [State.openDay, if_pos civil, if_neg isOpen]

theorem State.openDay_of_range {c1 c0 : Byte} (d1 d0 : Byte) (out : 1439 < half c1 c0) :
    s.openDay tag [c1, c0, d1, d0] = s.refuseKind .openDay tag .badField := by
  rw [State.openDay, if_neg (Nat.not_le.mpr out)]

theorem State.closeDay_of_open (isOpen : s.clock.state ≠ .unset) : s.closeDay tag [] = s.takeClose := if_neg isOpen

theorem State.closeDay_of_unset (unset : s.clock.state = .unset) :
    s.closeDay tag [] = s.refuseKind .closeDay tag .dayClosed := if_pos unset

end

/-- A directive consumes the held span, and what it does then is the rest (R20). -/
theorem State.consumeSpan_leaves : s.Leaves [.dir] s.consumeSpan := .of_same (by constructor <;> simp) rfl rfl

theorem State.Leaves.of_consumeSpan {ks : List Block} {s t : State} (h : s.consumeSpan.Leaves ks t) :
    s.Leaves (.dir :: ks) t :=
  (s.consumeSpan_leaves.mono (by simp)).trans (h.mono (by simp))

end

/-- Settles O40: each directive by its fields and the clock's state; MARK TIME and OPEN DAY are a change of the record and a
minute boundary, CLOSE DAY is the removal of the day's notices and 96 clears. -/
theorem clockDirectives : Obligations.ClockDirectives := by
  unfold Obligations.ClockDirectives
  have answer : ∀ {t u : State}, t = u → (Host.Outcome.next t : Host.Outcome State Fault Refusal) = .next u :=
    fun e => congrArg Host.Outcome.next e
  refine ⟨fun s tag m1 m0 sec => ⟨fun minute second isOpen => ⟨?_, fun held found => ?_⟩, fun minute second unset => ?_,
    fun out => ?_⟩, fun s tag => ⟨fun c1 c0 d1 d0 civil unset => ?_, fun c1 c0 d1 d0 civil isOpen => ?_,
    fun c1 c0 d1 d0 out => ?_, fun isOpen ordered => ?_, fun unset => ?_⟩⟩
  · exact ⟨_, answer (State.markTime_of_taken (s := s.consumeSpan) tag minute second isOpen),
      State.takeMark_clock _ _ _,
      fun moved => (State.takeMark_evaluates (s := s.consumeSpan) _ moved).congr rfl rfl,
      (State.takeMark_leaves s.consumeSpan _ _).of_consumeSpan.mono (by simp)⟩
  · exact answer ((State.markTime_of_taken (s := s.consumeSpan) tag minute second isOpen).trans
      (State.takeMark_of_held (s := s.consumeSpan) sec.toNat held found))
  · exact ⟨_, answer (State.markTime_of_unset (s := s.consumeSpan) tag minute second unset),
      s.refuseKind_refused .markTime tag .dayClosed⟩
  · exact ⟨_, answer (State.markTime_of_range (s := s.consumeSpan) tag out),
      s.refuseKind_refused .markTime tag .badField⟩
  · exact ⟨_, answer (State.openDay_of_unset (s := s.consumeSpan) tag d1 d0 civil unset), State.takeOpen_clock _ _ _,
      (State.takeOpen_evaluates s.consumeSpan _ _).congr rfl rfl,
      (State.takeOpen_leaves s.consumeSpan _ _).of_consumeSpan.mono (by simp)⟩
  · exact ⟨_, answer (State.openDay_of_open (s := s.consumeSpan) tag d1 d0 civil isOpen),
      s.refuseKind_refused .openDay tag .dayOpen⟩
  · exact ⟨_, answer (State.openDay_of_range (s := s.consumeSpan) tag d1 d0 out),
      s.refuseKind_refused .openDay tag .badField⟩
  · obtain ⟨titles, nextDue⟩ := s.consumeSpan.takeClose_keeps
    obtain ⟨post, wake, chimes⟩ := s.consumeSpan.takeClose_unit
    exact ⟨_, answer (State.closeDay_of_open (s := s.consumeSpan) tag isOpen), State.takeClose_clock _,
      s.consumeSpan.takeClose_records, s.consumeSpan.takeClose_order ordered, nextDue, titles,
      s.consumeSpan.takeClose_desks, s.consumeSpan.takeClose_queue_sub,
      fun n live cls linked id => s.consumeSpan.takeClose_queue_keeps live cls linked id, post, wake, chimes,
      s.consumeSpan.takeClose_tickersJudged, s.consumeSpan.takeClose_leaves.blocks.dir (by simp),
      s.consumeSpan.takeClose_leaves.of_consumeSpan⟩
  · exact ⟨_, answer (State.closeDay_of_unset (s := s.consumeSpan) tag unset),
      s.refuseKind_refused .closeDay tag .dayClosed⟩

end Sys2Proof.Machine
end

section
/-! SUPPORT. A WRITE ENTRY at SHOW: its refusals, and what an accepted one keeps (R18, R22, R58, R61, R66, R75). -/

namespace Sys2Proof.Machine

/-! ### What a write at a slot keeps -/

/-- What a write at a slot keeps: the titles, the desks, the directive unit but its refusals, and the records and tallies of
the other slots. -/
structure State.KeepsOthers (s t : State) (x : Slot) : Prop where
  rest   : s.KeepsRest t
  others : ∀ y : Slot, y ≠ x → t.showOf y = s.showOf y ∧ t.tallyOf y = s.tallyOf y

section
variable {s t u : State} {x : Slot}

theorem State.KeepsOthers.refl (s : State) (x : Slot) : s.KeepsOthers s x := ⟨.refl s, fun _ _ => ⟨rfl, rfl⟩⟩

theorem State.KeepsOthers.trans (h : s.KeepsOthers t x) (k : t.KeepsOthers u x) : s.KeepsOthers u x :=
  ⟨h.rest.trans k.rest, fun y hy =>
    ⟨(k.others y hy).1.trans (h.others y hy).1, (k.others y hy).2.trans (h.others y hy).2⟩⟩

theorem State.KeepsOthers.ite {p : Prop} [Decidable p] (h : s.KeepsOthers t x) (k : s.KeepsOthers u x) :
    s.KeepsOthers (if p then t else u) x := by split <;> assumption

theorem State.Leaves.showOf {ks : List Block} (h : s.Leaves ks t) (x : Slot) (out : Block.board ∉ ks := by simp) :
    t.showOf x = s.showOf x := congrArg (fun b : Board => b.shows.read x) (h.blocks.board out)

theorem State.Leaves.tallyOf {ks : List Block} (h : s.Leaves ks t) (x : Slot) (out : Block.tally ∉ ks := by simp) :
    t.tallyOf x = s.tallyOf x := congrArg (fun u : TallyUnit => u.tallies.read x) (h.blocks.tally out)

theorem State.KeepsOthers.of_leaves {ks : List Block} (h : s.Leaves ks t) (rest : s.KeepsRest t)
    (board : Block.board ∉ ks := by simp) (tally : Block.tally ∉ ks := by simp) : s.KeepsOthers t x :=
  ⟨rest, fun y _ => ⟨h.showOf y board, h.tallyOf y tally⟩⟩

end

section
variable (s : State) (x : Slot)

theorem State.setShow_keepsOthers (w : Show) : s.KeepsOthers (s.setShow x w) x :=
  ⟨s.setShow_keepsRest x w, fun y hy => ⟨(s.showOf_setShow x w y).trans (if_neg hy), rfl⟩⟩

theorem State.tallyOf_setTally (r : Tally) (y : Slot) : (s.setTally x r).tallyOf y = if y = x then r else s.tallyOf y :=
  Table.read_write _ _ _ _

theorem State.setTally_keepsOthers (r : Tally) : s.KeepsOthers (s.setTally x r) x :=
  ⟨⟨rfl, rfl, rfl⟩, fun y hy => ⟨rfl, (s.tallyOf_setTally x r y).trans (if_neg hy)⟩⟩

theorem State.setOrder_keepsOthers (o : List Slot) : s.KeepsOthers (s.setOrder o) x :=
  ⟨s.setOrder_keepsRest o, fun _ _ => ⟨rfl, rfl⟩⟩

theorem State.clearOccupied_keepsOthers : s.KeepsOthers (s.clearOccupied x) x where
  rest := s.clearOccupied_keepsRest x
  others y hy := by
    unfold State.showOf State.tallyOf
    rw [s.clearOccupied_board, s.clearOccupied_tally]
    exact ⟨Table.read_write_other _ _ hy, Table.read_write_other _ _ hy⟩

/-! ### The end of a write: the evaluation and the slot's mark (R63 to R65, R69) -/

/-- A record as a write leaves it: evaluated at the current minute while the clock counts (R63 to R65, R69). -/
def Clock.settles (c : Clock) (w : Show) : Show := if c.state.counts = true then w.evaluatedAt c.minute else w

/-- The last steps of a write (R63 to R65). -/
def State.settle : State := (s.evaluateAtWrite x).slotMark x

theorem State.settle_leaves : s.Leaves boardBlocks (s.settle x) :=
  (s.evaluateAtWrite_leaves x).trans ((State.slotMark_leaves _ x).mono (by simp))

theorem State.settle_showOf (h : (s.showOf x).state.unretired = true) (y : Slot) :
    (s.settle x).showOf y = if y = x then s.clock.settles (s.showOf x) else s.showOf y := by
  rw [State.settle, (State.slotMark_leaves _ x).showOf y, State.evaluateAtWrite, Clock.settles]
  split
  · exact s.evaluateSlot_showOf x h _ y
  · split
    · next e => rw [e]
    · rfl

theorem State.settle_keepsOthers (h : (s.showOf x).state.unretired = true) : s.KeepsOthers (s.settle x) x where
  rest := (State.KeepsRest.ite (s.evaluateSlot_board x _).1 (.refl s)).trans (.of_leaves (State.slotMark_leaves _ x))
  others y hy := ⟨(s.settle_showOf x h y).trans (if_neg hy), (s.settle_leaves x).tallyOf y⟩

/-- The listing order keeps a slot that the evaluation does not retire (R68, R71). -/
theorem State.settle_order (h : (s.showOf x).stateAt s.clock.minute ≠ .retired ∨ s.clock.state.counts = false) :
    (s.settle x).board.order = s.board.order := by
  rw [State.settle, (State.slotMark_leaves _ x).blocks.board (by simp), State.evaluateAtWrite]
  split
  · next counts =>
    have stays : (s.showOf x).stateAt s.clock.minute ≠ .retired := h.resolve_right (by simp [counts])
    rw [(s.evaluateSlot_board x _).2]
    exact if_neg fun retires => stays retires.1
  · rfl

/-! ### A WRITE ENTRY at SHOW (R18, R61) -/

variable {s x}

theorem exec_writeEntryShow {tag : Byte} {img : List Byte} (cursor : s.dir.cursor = { table := .show, index := some x.val })
    (length : img.length = 19) :
    exec (.writeEntryShow tag img) s = .next (s.consumeSpan.writeShow tag x img) := by
  have at' : s.consumeSpan.dir.cursor = { table := .show, index := some x.val } := cursor
  have entry : fin? 96 x.val = some x := dif_pos x.isLt
  have write : s.consumeSpan.writeEntry tag img = s.consumeSpan.writeShow tag x img := by
    rw [State.writeEntry, at']
    dsimp only
    rw [if_neg (by decide), if_pos (show img.length = TableName.show.imageLength from length)]
    simp only [State.writeAt, State.atEntry, entry]
  exact congrArg Host.Outcome.next write

theorem State.writeShow_of_bad (tag : Byte) {img : List Byte} (bad : showOfImage img = none) :
    s.writeShow tag x img = s.refuseKind .writeEntry tag .badField := by
  rw [State.writeShow, bad]

theorem State.writeShow_of_refused (tag : Byte) {img : List Byte} {w : ShowWrite} {reason : Reason}
    (image : showOfImage img = some w) (refusal : s.showWriteRefusal x w = some reason) :
    s.writeShow tag x img = s.refuseKind .writeEntry tag reason := by
  rw [State.writeShow, image]
  dsimp only
  rw [refusal]

theorem State.writeShow_of_taken (tag : Byte) {img : List Byte} {w : ShowWrite}
    (image : showOfImage img = some w) (taken : s.showWriteRefusal x w = none) :
    s.writeShow tag x img = (s.disposeShow x w).recomputeDue.advanceCursor := by
  rw [State.writeShow, image]
  dsimp only
  rw [taken]
  rfl

/-- A WRITE ENTRY at SHOW that the board refuses (R19, R61). -/
theorem exec_writeEntryShow_refused (tag : Byte) {img : List Byte} {w : ShowWrite} {reason : Reason}
    (cursor : s.dir.cursor = { table := .show, index := some x.val }) (length : img.length = 19)
    (image : showOfImage img = some w) (refusal : s.consumeSpan.showWriteRefusal x w = some reason) :
    ∃ t, exec (.writeEntryShow tag img) s = .next t ∧ s.Refused t 0x31 tag reason :=
  ⟨_, (exec_writeEntryShow cursor length).trans (congrArg _ (State.writeShow_of_refused tag image refusal)),
    s.refuseKind_refused .writeEntry tag reason⟩

theorem exec_writeEntryShow_taken (tag : Byte) {img : List Byte} {w : ShowWrite}
    (cursor : s.dir.cursor = { table := .show, index := some x.val }) (length : img.length = 19)
    (image : showOfImage img = some w) (taken : s.consumeSpan.showWriteRefusal x w = none) :
    exec (.writeEntryShow tag img) s = .next (s.consumeSpan.disposeShow x w).recomputeDue.advanceCursor :=
  (exec_writeEntryShow cursor length).trans (congrArg _ (State.writeShow_of_taken tag image taken))

/-- What every accepted SHOW image keeps, and where the cursor and the next due minute stand after it (R22, R55, R61). -/
structure State.WrittenAt (s t : State) (x : Slot) : Prop where
  others  : ∀ y : Slot, y ≠ x → t.showOf y = s.showOf y ∧ t.tallyOf y = s.tallyOf y
  nextDue : t.board.nextDue = nextDueOf t.board.shows
  titles  : t.board.titles = s.board.titles
  desks   : t.tally.desks = s.tally.desks
  cursor  : t.dir.cursor = { table := .show, index := if x.val + 1 < 96 then some (x.val + 1) else none }
  staging : t.dir.staging = s.dir.staging
  restore : t.dir.restorePoint = s.dir.restorePoint
  span    : t.dir.span = none
  leaves  : s.Leaves writeBlocks t

theorem State.writtenAt_of_keepsOthers {u : State} (cursor : s.dir.cursor = { table := .show, index := some x.val })
    (keeps : s.consumeSpan.KeepsOthers u x) (leaves : s.consumeSpan.Leaves writeBlocks u) :
    s.WrittenAt u.recomputeDue.advanceCursor x := by
  have dir : u.dir = { s.consumeSpan.dir with refusalCount := u.dir.refusalCount, lastRefusal := u.dir.lastRefusal } :=
    keeps.rest.dir
  have advance : ∀ v : State, v.Leaves writeBlocks v.advanceCursor := fun v => .of_same (by constructor <;> simp) rfl rfl
  have finish : s.consumeSpan.Leaves writeBlocks u.recomputeDue.advanceCursor :=
    (leaves.trans ((State.recomputeDue_leaves u).mono (by simp))).trans (advance _)
  refine ⟨keeps.others, rfl, keeps.rest.titles, keeps.rest.desks, ?_, ?_, ?_, ?_, finish.of_consumeSpan.mono (by simp)⟩
  · change u.dir.cursor.advance = _
    rw [dir]
    change s.dir.cursor.advance = _
    rw [cursor]
    rfl
  · change u.dir.staging = _
    rw [dir]
    rfl
  · change u.dir.restorePoint = _
    rw [dir]
    rfl
  · change u.dir.span = _
    rw [dir]
    rfl

/-! ### The checks of a SHOW image (R58, R63, R66) -/

theorem showOfImage_record {img : List Byte} {w : Show} {mode : TallyMode}
    (h : showOfImage img = some (.record w mode)) : w.state = .listed ∧ w.salesClosed = false ∧ 1 ≤ w.capacity := by
  unfold showOfImage at h
  dsimp only at h
  split at h
  · cases h
  · split at h
    · cases h
    · split at h
      · next range =>
        cases h
        obtain ⟨_, _, _, _, _, _, _, _, capacity, _⟩ := range
        exact ⟨rfl, rfl, capacity.1⟩
      · cases h

/-- Another occupied, unretired slot of the image's auditorium has an overlapping interval (R66). -/
def State.Clash (s : State) (x : Slot) (w : Show) : Prop :=
  ∃ y : Slot, y ≠ x ∧ (s.showOf y).state ≠ .vacant ∧ (s.showOf y).state ≠ .retired ∧
    (s.showOf y).auditorium = w.auditorium ∧ w.start < (s.showOf y).start + (s.showOf y).runtime ∧
    (s.showOf y).start < w.start + w.runtime

theorem State.clashes_iff (w : Show) : s.clashes x w = true ↔ s.Clash x w := by
  simp only [State.clashes, State.Clash, List.any_eq_true, List.mem_finRange, true_and, Bool.and_eq_true, bne_iff_ne,
    ShowState.unretired_iff, beq_iff_eq, Show.overlaps, decide_eq_true_eq, and_assoc]

/-- The image's retire minute has come, while the clock is not UNSET (R63). -/
def State.Past (s : State) (w : Show) : Prop := s.clock.state ≠ .unset ∧ w.start + w.grace ≤ s.clock.minute

theorem State.isPast_iff (w : Show) : s.isPast w = true ↔ s.Past w := by
  rw [State.isPast, Bool.and_eq_true, bne_iff_ne]
  exact and_congr_right fun _ => decide_eq_true_iff

variable {w : Show} {mode : TallyMode}

theorem State.showWriteRefusal_of_past (vacant : (s.showOf x).state = .vacant) (past : s.Past w) :
    s.showWriteRefusal x (.record w mode) = some .showPast := by
  simp only [State.showWriteRefusal, vacant, (State.isPast_iff w).mpr past, if_true]

theorem State.showWriteRefusal_of_clash (clash : s.Clash x w)
    (h : ((s.showOf x).state = .vacant ∧ ¬ s.Past w) ∨ (s.showOf x).state = .listed) :
    s.showWriteRefusal x (.record w mode) = some .auditoriumClash := by
  have clashes : s.clashes x w = true := (State.clashes_iff w).mpr clash
  obtain ⟨vacant, past⟩ | listed := h
  · simp only [State.showWriteRefusal, vacant, mt (State.isPast_iff w).mp past, clashes, if_true]
    rfl
  · simp only [State.showWriteRefusal, listed, clashes, if_true]

theorem State.showWriteRefusal_of_free (free : ¬ s.Clash x w)
    (h : ((s.showOf x).state = .vacant ∧ ¬ s.Past w) ∨ (s.showOf x).state = .listed) :
    s.showWriteRefusal x (.record w mode) = none := by
  have clashes : ¬ s.clashes x w = true := mt (State.clashes_iff w).mp free
  obtain ⟨vacant, past⟩ | listed := h
  · simp only [State.showWriteRefusal, vacant, mt (State.isPast_iff w).mp past, clashes]
    rfl
  · simp only [State.showWriteRefusal, listed, clashes]
    rfl

end

end Sys2Proof.Machine
end

section
/-! SUPPORT. The insert of a show: its place in the listing order, its record and its tally (R63, R66, R75, R96). -/

namespace Sys2Proof.Machine

/-! ### The place of a slot in the listing order (R75) -/

/-- A slot sorts before another: by start, then auditorium, then slot index (R75). -/
def SortsBefore (shows : Table Show 96) (a b : Slot) : Prop :=
  (shows.read a).start < (shows.read b).start ∨ ((shows.read a).start = (shows.read b).start ∧
    ((shows.read a).auditorium < (shows.read b).auditorium ∨
      ((shows.read a).auditorium = (shows.read b).auditorium ∧ a.val < b.val)))

section
variable {shows : Table Show 96} {a b c x : Slot} {order : List Slot}

theorem sortsBefore_iff : sortsBefore shows a b = true ↔ SortsBefore shows a b := decide_eq_true_iff

theorem SortsBefore.trans (h : SortsBefore shows a b) (k : SortsBefore shows b c) : SortsBefore shows a c := by
  unfold SortsBefore at *
  omega

theorem SortsBefore.total (h : a ≠ b) : SortsBefore shows a b ∨ SortsBefore shows b a := by
  have : a.val ≠ b.val := fun e => h (Fin.ext e)
  unfold SortsBefore
  omega

/-- The placed slot apart, the listing order is as before (R75). -/
theorem placeIn_filter (out : x ∉ order) : ((placeIn shows order x).filter fun y => y != x) = order := by
  rw [placeIn, List.filter_append, List.filter_append, List.filter_singleton, bne_self_eq_false, cond_false,
    List.append_nil, ← List.filter_append, List.takeWhile_append_dropWhile]
  exact filter_ne_of_not_mem out

theorem placeIn_perm : (placeIn shows order x).Perm (x :: order) := by
  have whole := List.takeWhile_append_dropWhile (p := fun y => !sortsBefore shows x y) (l := order)
  rw [placeIn, List.append_assoc, List.singleton_append]
  exact List.perm_middle.trans (by rw [whole])

/-- The entries before the placed slot do not sort after it, and the entry behind it, with all that follow, does (R75). -/
theorem placeIn_sorted (out : x ∉ order) (sorted : order.Pairwise (SortsBefore shows)) :
    (placeIn shows order x).Pairwise (SortsBefore shows) := by
  let later : Slot → Bool := fun y => !sortsBefore shows x y
  have before : ∀ y ∈ order.takeWhile later, SortsBefore shows y x := fun y hy => by
    have kept := List.mem_takeWhile_imp hy
    have other : y ≠ x := fun e => out (e ▸ (List.takeWhile_prefix later).subset hy)
    exact (SortsBefore.total other).resolve_right fun h => by simp [later, sortsBefore_iff.mpr h] at kept
  have behind : ∀ y ∈ order.dropWhile later, SortsBefore shows x y := by
    have tail : (order.dropWhile later).Pairwise (SortsBefore shows) := sorted.sublist (List.dropWhile_sublist later)
    have head : ∀ y, (order.dropWhile later).head? = some y → SortsBefore shows x y := fun y hy => by
      have first := List.head?_dropWhile_not later order
      rw [hy] at first
      exact sortsBefore_iff.mp (by simpa [later] using first)
    cases rest : order.dropWhile later with
    | nil => simp
    | cons z zs =>
      rw [rest] at tail head
      obtain ⟨follow, _⟩ := List.pairwise_cons.mp tail
      exact List.forall_mem_cons.mpr ⟨head z rfl, fun y hy => (head z rfl).trans (follow y hy)⟩
  have apart : ∀ y ∈ order.takeWhile later, ∀ z ∈ order.dropWhile later, SortsBefore shows y z := fun y hy z hz =>
    (before y hy).trans (behind z hz)
  rw [placeIn, List.append_assoc, List.singleton_append, List.pairwise_append, List.pairwise_cons]
  refine ⟨sorted.sublist (List.takeWhile_sublist _), ⟨behind, sorted.sublist (List.dropWhile_sublist _)⟩, fun y hy => ?_⟩
  exact List.forall_mem_cons.mpr ⟨before y hy, apart y hy⟩

end

theorem Board.ordered_iff (b : Board) : b.Ordered ↔ b.order.Nodup ∧
    (∀ x, x ∈ b.order ↔ (b.shows.read x).Unretired) ∧ b.order.Pairwise (SortsBefore b.shows) :=
  ⟨fun h => ⟨h.once, h.members, h.sorted⟩, fun ⟨once, members, sorted⟩ => ⟨once, members, sorted⟩⟩

/-- The order of a board is that of its starts, its auditoriums and its occupied, unretired slots (R75). -/
theorem Board.Ordered.congr {b c : Board} (h : b.Ordered) (order : c.order = b.order)
    (same : ∀ x, (c.shows.read x).start = (b.shows.read x).start ∧ (c.shows.read x).auditorium = (b.shows.read x).auditorium ∧
      ((c.shows.read x).Unretired ↔ (b.shows.read x).Unretired)) : c.Ordered := by
  obtain ⟨once, members, sorted⟩ := b.ordered_iff.mp h
  refine c.ordered_iff.mpr ⟨order ▸ once, fun x => ?_, order ▸ sorted.imp fun {x y} hxy => ?_⟩
  · rw [order, members, (same x).2.2]
  · obtain ⟨startX, roomX, _⟩ := same x
    obtain ⟨startY, roomY, _⟩ := same y
    unfold SortsBefore at hxy ⊢
    rw [startX, startY, roomX, roomY]
    exact hxy

/-- An unretired show placed at a VACANT slot keeps the listing order sorted and complete (R75). -/
theorem Board.Ordered.insert {b : Board} (h : b.Ordered) {x : Slot} (vacant : (b.shows.read x).state = .vacant) {w : Show}
    (unretired : w.Unretired) : Board.Ordered { b with
      shows := b.shows.write x w, order := placeIn (b.shows.write x w) b.order x } := by
  obtain ⟨once, members, sorted⟩ := b.ordered_iff.mp h
  have out : x ∉ b.order := fun k => ((members x).mp k).1 vacant
  have other : ∀ y ∈ b.order, (b.shows.write x w).read y = b.shows.read y := fun y hy =>
    Table.read_write_other _ _ fun e => out (e ▸ hy)
  refine (Board.ordered_iff _).mpr ⟨placeIn_perm.nodup_iff.mpr (List.nodup_cons.mpr ⟨out, once⟩), fun y => ?_, ?_⟩
  · rw [placeIn_perm.mem_iff, List.mem_cons, members]
    dsimp only
    rw [Table.read_write]
    by_cases e : y = x
    · simpa [e] using unretired
    · simp [e]
  · refine placeIn_sorted out (sorted.imp_of_mem fun {y z} hy hz hyz => ?_)
    unfold SortsBefore at hyz ⊢
    rw [other y hy, other z hz]
    exact hyz

/-! ### The steps of an insert (R63) -/

section
variable (s : State) (x : Slot) (w : Show) (mode : TallyMode)

/-- A show as it is entered: LISTED, with its sales open (R63). -/
def Show.opening : Show := { w with state := .listed, salesClosed := false }

/-- The record, the opened tally and the place of an insert, before its evaluation (R63, R96). -/
def State.entered : State :=
  (((s.setShow x w.opening).openTally x w.capacity mode).placeSlot x).writeListing
    x true

theorem State.insertShow_eq : s.insertShow x w mode = (s.entered x w mode).settle x := rfl

/-- An insert before its evaluation, as a change of the board and of the tallies (R63, R75, R96). -/
theorem State.entered_blocks :
    (s.entered x w mode).board = { s.board with
      shows := s.board.shows.write x w.opening
      order := placeIn (s.board.shows.write x w.opening) s.board.order x } ∧
    (s.entered x w mode).tally =
      { s.tally with tallies := s.tally.tallies.write x (Tally.open s.settings w.capacity mode) } ∧
    (s.entered x w mode).clock = s.clock := by
  have listing := State.writeListing_leaves
    (((s.setShow x w.opening).openTally x w.capacity mode).placeSlot x) x true
  exact ⟨listing.blocks.board (by simp), listing.blocks.tally (by simp), listing.clock⟩

theorem State.entered_keepsOthers : s.KeepsOthers (s.entered x w mode) x := by
  have listing := State.writeListing_leaves
    (((s.setShow x w.opening).openTally x w.capacity mode).placeSlot x) x true
  exact (((s.setShow_keepsOthers x _).trans (State.setTally_keepsOthers _ x _)).trans
    (State.setOrder_keepsOthers _ x _)).trans (.of_leaves listing (.of_leaves listing))

theorem State.entered_showOf :
    (s.entered x w mode).showOf x = w.opening := by
  obtain ⟨board, _, _⟩ := s.entered_blocks x w mode
  rw [State.showOf, board]
  exact Table.read_write_same _ _ _

theorem State.insertShow_keepsOthers : s.KeepsOthers (s.insertShow x w mode) x := by
  rw [State.insertShow_eq]
  refine (s.entered_keepsOthers x w mode).trans (State.settle_keepsOthers _ x ?_)
  rw [State.entered_showOf]
  rfl

theorem State.insertShow_showOf :
    (s.insertShow x w mode).showOf x = s.clock.settles w.opening := by
  rw [State.insertShow_eq, State.settle_showOf _ x (by rw [State.entered_showOf]; rfl), if_pos rfl,
    State.entered_showOf, (s.entered_blocks x w mode).2.2]

theorem State.insertShow_tallyOf :
    (s.insertShow x w mode).tallyOf x = Tally.open s.settings w.capacity mode := by
  rw [State.insertShow_eq, (State.settle_leaves _ x).tallyOf x, State.tallyOf, (s.entered_blocks x w mode).2.1]
  exact Table.read_write_same _ _ _

variable {s x w}

/-- A show inserted before its retire minute is not RETIRED by its evaluation (R63, R68). -/
theorem Show.stateAt_of_early {m : Nat} (early : m < w.start + w.grace) (listed : w.state = .listed) :
    w.stateAt m ≠ .retired := by
  have unretired : w.state.unretired = true := by rw [listed]; rfl
  have state : w.stateAt m = (w.evaluatedAt m).state := congrArg Show.state (Show.stateAt_eq_evaluatedAt unretired m)
  rw [state]
  simp only [Show.evaluatedAt, if_neg (Nat.not_le.mpr early), listed]
  split
  · decide
  · split <;> decide

/-- While the clock counts, an insert that is not past comes before its retire minute (R63). -/
theorem State.early_of_not_past (past : ¬ s.Past w) (counts : s.clock.state.counts = true) :
    s.clock.minute < w.start + w.grace := by
  refine Nat.lt_of_not_le fun late => past ⟨fun unset => ?_, late⟩
  rw [unset] at counts
  cases counts

theorem State.insertShow_order (past : ¬ s.Past w) : (s.insertShow x w mode).board.order =
    placeIn (s.board.shows.write x w.opening) s.board.order x := by
  obtain ⟨board, _, clock⟩ := s.entered_blocks x w mode
  rw [State.insertShow_eq, State.settle_order, board]
  rw [State.entered_showOf, clock]
  cases counts : s.clock.state.counts with
  | false => exact .inr rfl
  | true => exact .inl (Show.stateAt_of_early (State.early_of_not_past past counts) rfl)

/-- The record of an insert that is not past (R63, R68 to R70). -/
theorem Clock.settles_opening {c : Clock} (early : c.state.counts = true → c.minute < w.start + w.grace) :
    c.settles w.opening = { w with
      state := if c.Counting ∧ w.start ≤ c.minute then .started
        else if c.Counting ∧ w.start - w.lead ≤ c.minute then .boarding else .listed
      salesClosed := decide (c.Counting ∧ w.start + w.closeOffset ≤ c.minute) } := by
  have counting := ClockState.counts_iff c.state
  unfold Clock.settles
  cases counts : c.state.counts with
  | false =>
    have still : ¬ c.Counting := fun k => by simp [counting.mpr k] at counts
    simp only [still, false_and, if_false, decide_false]
    rfl
  | true =>
    have : c.Counting := counting.mp counts
    simp only [Show.opening, Show.evaluatedAt, if_neg (Nat.not_le.mpr (early counts)), this, true_and, if_true, and_true,
      Bool.false_or]
    congr

theorem State.insertShow_ordered (ordered : s.board.Ordered) (vacant : (s.showOf x).state = .vacant)
    (past : ¬ s.Past w) : (s.insertShow x w mode).board.Ordered := by
  have placed := ordered.insert vacant (w := w.opening) ⟨nofun, nofun⟩
  refine placed.congr (State.insertShow_order mode past) fun y => ?_
  by_cases e : y = x
  · subst e
    have record : (s.insertShow y w mode).board.shows.read y = _ := s.insertShow_showOf y w mode
    rw [Clock.settles_opening fun counts => State.early_of_not_past past counts] at record
    rw [record, Table.read_write_same]
    refine ⟨rfl, rfl, ⟨fun _ => ⟨nofun, nofun⟩, fun _ => ?_⟩⟩
    refine (ShowState.unretired_iff _).mp ?_
    dsimp only
    split
    · rfl
    · split <;> rfl
  · have other : (s.insertShow x w mode).board.shows.read y = s.board.shows.read y :=
      ((s.insertShow_keepsOthers x w mode).others y e).1
    rw [other, Table.read_write_other _ _ e]
    exact ⟨rfl, rfl, Iff.rfl⟩

/-- An opened tally is FEW or OPEN: none of its seats is taken (R90, R96). -/
theorem Tally.open_eq {st : Settings} {capacity : Nat} (seats : 1 ≤ capacity) (filling : 1 ≤ st.fillingPercent) :
    Tally.open st capacity mode =
      { remaining := capacity, clip := 0, net := 0, mode := mode, unbalanced := false,
        band := if capacity ≤ st.fewSeats then .few else .opened,
        acked := if capacity ≤ st.fewSeats then .few else .opened, departed := false, lastOutcome := none } := by
  have band : bandOf st capacity capacity = if capacity ≤ st.fewSeats then .few else .opened := by
    have free : ¬ capacity * st.fillingPercent ≤ (capacity - capacity) * 100 := by
      have := Nat.mul_pos seats filling
      omega
    rw [bandOf, if_neg (Nat.ne_of_gt seats), if_neg free]
  rw [Tally.open, band]

end

/-- Settles O43: the refusals in their order, and otherwise an insert, whose evaluation keeps the slot in the listing order
because its retire minute has not come. -/
theorem showInserted : Obligations.ShowInserted := by
  unfold Obligations.ShowInserted
  intro s tag x img w mode cursor length image vacant
  refine ⟨fun past => ?_, fun past clash => ?_, fun past clash ordered filling => ?_⟩
  · exact exec_writeEntryShow_refused tag cursor length image
      (State.showWriteRefusal_of_past (s := s.consumeSpan) vacant past)
  · exact exec_writeEntryShow_refused tag cursor length image
      (State.showWriteRefusal_of_clash (s := s.consumeSpan) clash (.inl ⟨vacant, past⟩))
  · obtain ⟨listed, selling, seats⟩ := showOfImage_record image
    have taken := State.showWriteRefusal_of_free (s := s.consumeSpan) (x := x) (mode := mode) clash (.inl ⟨vacant, past⟩)
    have insert : s.consumeSpan.disposeShow x (.record w mode) = s.consumeSpan.insertShow x w mode := by
      have vacant' : (s.consumeSpan.showOf x).state = .vacant := vacant
      simp only [State.disposeShow, vacant']
    have written := State.writtenAt_of_keepsOthers cursor (s.consumeSpan.insertShow_keepsOthers x w mode)
      (s.consumeSpan.insertShow_leaves x w mode)
    refine ⟨_, exec_writeEntryShow_taken tag cursor length image taken, ?_⟩
    rw [insert]
    have out : x ∉ s.board.order := fun k => ((ordered.members x).mp k).1 vacant
    refine ⟨?_, ?_, written.others, ?_, ?_, written.nextDue, written.titles, written.desks, written.cursor,
      written.staging, written.restore, written.span, written.leaves⟩
    · exact (s.consumeSpan.insertShow_showOf x w mode).trans
        (Clock.settles_opening fun counts => State.early_of_not_past (s := s.consumeSpan) past counts)
    · exact (s.consumeSpan.insertShow_tallyOf x w mode).trans (Tally.open_eq mode seats filling)
    · exact (congrArg (List.filter fun y => y != x) (State.insertShow_order (s := s.consumeSpan) mode past)).trans
        (placeIn_filter out)
    · have board := State.insertShow_ordered (s := s.consumeSpan) mode ordered vacant past
      exact board.congr rfl fun _ => ⟨rfl, rfl, Iff.rfl⟩

end Sys2Proof.Machine
end

section
/-! SUPPORT. The tally of an edited show: the capacity change and the mode change (R64, R87 to R91, R98, R99). -/

namespace Sys2Proof.Machine

theorem Table.write_write {α : Type} {n : Nat} (t : Table α n) (i : Fin n) (a b : α) :
    (t.write i a).write i b = t.write i b :=
  Table.ext_read fun y => by simp only [Table.read_write]; split <;> rfl

/-! ### A capacity change as a function of the tally record (R98) -/

/-- A tally after the reconcile, clamp, clip, band and departure stages (R87 to R91). -/
def Tally.resized (st : Settings) (capacity : Nat) (delta : Int) (t : Tally) : Tally :=
  { t.moveSeats capacity delta with
    band := bandOf st capacity (clampRemaining capacity (t.target delta))
    departed := decide (bandOf st capacity (clampRemaining capacity (t.target delta)) ≠ t.acked) }

section
variable (s : State) (x : Slot)

theorem State.seatStages_tally (c : Nat) (w : Int) :
    (s.seatStages x c w).tally = (s.setTally x ((s.tallyOf x).moveSeats c w)).tally :=
  State.clipLimitIf_tally _ _

/-- A capacity change writes the slot's tally and no other part of the tally unit (R98). -/
theorem State.changeCapacity_tally (old new : Nat) : (s.changeCapacity x old new).tally =
    (s.setTally x ((s.tallyOf x).resized s.settings new ((new : Int) - old))).tally := by
  have seats := s.seatStages_tally x new ((new : Int) - old)
  have settings := (s.seatStages_leaves x new ((new : Int) - old)).blocks.settings (by simp)
  have mark : ∀ u : State, ∀ b, (u.seatMarkIfMoved x b).tally = u.tally := fun u b => by
    unfold State.seatMarkIfMoved
    split
    · rfl
    · exact (u.seatMark_leaves x).blocks.tally (by simp)
  rw [State.changeCapacity, mark, State.departureStage_tally]
  simp only [State.bandStage, State.setTally, State.tallyOf] at seats ⊢
  simp only [seats, settings, Table.read_write_same, Table.write_write]
  rfl

theorem State.changeCapacity_keepsOthers (old new : Nat) : s.KeepsOthers (s.changeCapacity x old new) x := by
  have leaves := s.changeCapacity_leaves x old new
  have tally := s.changeCapacity_tally x old new
  refine ⟨⟨by rw [leaves.blocks.dir (by simp)], by rw [leaves.blocks.board (by simp)], by rw [tally]; rfl⟩,
    fun y hy => ⟨leaves.showOf y, ?_⟩⟩
  rw [State.tallyOf, tally]
  exact Table.read_write_other _ _ hy

theorem State.changeCapacity_tallyOf (old new : Nat) :
    (s.changeCapacity x old new).tallyOf x = (s.tallyOf x).resized s.settings new ((new : Int) - old) := by
  rw [State.tallyOf, s.changeCapacity_tally]
  exact Table.read_write_same _ _ _

/-- A clip that saturates in a capacity change sets CLIP_LIMIT (R89, R98). -/
theorem State.changeCapacity_clipLimit {old new : Nat} (quiet : s.rep.Quiet)
    (saturates : (s.tallyOf x).clipSaturates new ((new : Int) - old) = true) :
    AttentionFlag.clipLimit.isIn (s.changeCapacity x old new).rep.flags = true := by
  have quiet' : (s.setTally x ((s.tallyOf x).moveSeats new ((new : Int) - old))).rep.Quiet := quiet
  have flag : AttentionFlag.clipLimit.isIn (s.seatStages x new ((new : Int) - old)).rep.flags = true := by
    rw [State.seatStages, State.clipLimitIf, if_pos saturates, State.setFlag_rep]
    exact ReportUnit.setFlag_isIn _ _ quiet'
  have later := ((State.bandStage_leaves (s.seatStages x new ((new : Int) - old)) x new).trans
    (State.departureStage_leaves _ x)).trans (State.seatMarkIfMoved_leaves _ x (s.tallyOf x))
  exact later.flag ((s.seatStages_leaves x new _).quiet quiet) flag

end

/-! ### What the stages compute (R87 to R90) -/

section
variable (t : Tally) (d : Int)

/-- The amount by which a RECONCILE tally's clip absorbs a delta of the other sign (R87). -/
def Tally.taken : Int :=
  if t.mode = .reconcile ∧ ((t.clip < 0 ∧ 0 < d) ∨ (0 < t.clip ∧ d < 0)) then min |t.clip| |d| else 0

theorem towardsZero_absorbed (a b : Int) :
    towardsZero a (absorbed a b) = a - absorbed a b * a.sign ∧ towardsZero b (absorbed a b) = b - absorbed a b * b.sign := by
  have none_of_zero : a = 0 ∨ b = 0 → absorbed a b = 0 := fun h => if_neg (by omega)
  have moved : ∀ z amount : Int, (z = 0 → amount = 0) → towardsZero z amount = z - amount * z.sign := by
    intro z amount h
    unfold towardsZero
    obtain neg | zero | pos := lt_trichotomy z 0
    · rw [if_pos neg, Int.sign_eq_neg_one_of_neg neg]
      omega
    · simp [zero, h zero]
    · rw [if_neg (by omega), Int.sign_eq_one_of_pos pos]
      omega
  exact ⟨moved _ _ fun h => none_of_zero (.inl h), moved _ _ fun h => none_of_zero (.inr h)⟩

theorem Tally.taken_of_reconcile (h : t.mode = .reconcile) : t.taken d = absorbed t.clip d := by
  simp [Tally.taken, absorbed, h]

theorem Tally.taken_of_strict (h : t.mode = .strict) : t.taken d = 0 := by simp [Tally.taken, h]

theorem Tally.target_eq : t.target d = (t.remaining : Int) + (d - t.taken d * d.sign) := by
  unfold Tally.target Tally.reconciledDelta
  cases mode : t.mode with
  | strict => simp [t.taken_of_strict d mode]
  | reconcile =>
    dsimp only
    rw [t.taken_of_reconcile d mode, (towardsZero_absorbed _ _).2]

theorem Tally.reconciledClip_eq : t.reconciledClip d = t.clip - t.taken d * t.clip.sign := by
  unfold Tally.reconciledClip
  cases mode : t.mode with
  | strict => simp [t.taken_of_strict d mode]
  | reconcile =>
    dsimp only
    rw [t.taken_of_reconcile d mode, (towardsZero_absorbed _ _).1]

theorem clampRemaining_eq (capacity : Nat) (target : Int) :
    ((clampRemaining capacity target : Nat) : Int) = max 0 (min (capacity : Int) target) := by
  unfold clampRemaining
  split
  · omega
  · split <;> omega

theorem clampExcess_eq (capacity : Nat) (target : Int) :
    clampExcess capacity target = target - max 0 (min (capacity : Int) target) := by
  unfold clampExcess
  split
  · omega
  · split <;> omega

theorem Tally.clipSum_eq (capacity : Nat) : t.clipSum capacity d =
    t.clip - t.taken d * t.clip.sign + (t.target d - max 0 (min (capacity : Int) (t.target d))) := by
  rw [Tally.clipSum, t.reconciledClip_eq, clampExcess_eq]

theorem saturate_eq (limit z : Int) (h : 0 ≤ limit) : saturate limit z = max (-limit) (min limit z) := by
  unfold saturate
  split
  · omega
  · split <;> omega

/-- The band stage read in whole numbers (R90). -/
theorem bandOf_eq (st : Settings) {capacity n : Nat} (seats : n ≤ capacity) {r : Int} (h : (n : Int) = r) :
    bandOf st capacity n =
      if r = 0 then .soldOut
      else if r ≤ st.fewSeats then .few
      else if (capacity : Int) * st.fillingPercent ≤ (capacity - r) * 100 then .filling
      else .opened := by
  subst h
  have filling : ((capacity : Int) * st.fillingPercent ≤ (capacity - (n : Int)) * 100) ↔
      capacity * st.fillingPercent ≤ (capacity - n) * 100 := by
    rw [← Int.ofNat_sub seats]
    norm_cast
  unfold bandOf
  simp only [filling, Int.natCast_eq_zero, Int.ofNat_le]

theorem clampRemaining_le (capacity : Nat) (target : Int) : clampRemaining capacity target ≤ capacity := by
  have := clampRemaining_eq capacity target
  omega

theorem Tally.clipSaturates_iff (capacity : Nat) : t.clipSaturates capacity d = true ↔
    t.mode = .reconcile ∧ (t.clipSum capacity d < -127 ∨ 127 < t.clipSum capacity d) := by
  unfold Tally.clipSaturates
  cases t.mode <;> simp [saturates]

theorem Tally.resized_clip (st : Settings) (capacity : Nat) : (t.resized st capacity d).clip =
    if t.mode = .strict then 0 else max (-127) (min 127 (t.clipSum capacity d)) := by
  change (match t.mode with | .strict => 0 | .reconcile => saturate 127 (t.clipSum capacity d)) = _
  cases t.mode with
  | strict => rfl
  | reconcile => exact saturate_eq 127 _ (by decide)

end

/-! ### The mode change after it (R99) -/

/-- A tally in a mode: changed where it is another (R99). -/
def Tally.inMode (t : Tally) (capacity : Nat) (mode : TallyMode) : Tally :=
  if mode ≠ t.mode then t.changeMode capacity mode else t

/-- The tally of an edit (R64). -/
def Tally.edited (st : Settings) (old new : Nat) (mode : TallyMode) (t : Tally) : Tally :=
  (if new ≠ old then t.resized st new ((new : Int) - old) else t).inMode new mode

theorem Tally.inMode_same {t : Tally} {mode : TallyMode} (h : mode = t.mode) (capacity : Nat) : t.inMode capacity mode = t :=
  if_neg (not_not.mpr h)

theorem Tally.inMode_other {t : Tally} {mode : TallyMode} (h : mode ≠ t.mode) (capacity : Nat) :
    t.inMode capacity mode = t.changeMode capacity mode := if_pos h

/-- A mode change keeps remaining, the bands, departed and the last outcome (R99). -/
theorem Tally.inMode_keeps (t : Tally) (capacity : Nat) (mode : TallyMode) :
    (t.inMode capacity mode).remaining = t.remaining ∧ (t.inMode capacity mode).band = t.band ∧
    (t.inMode capacity mode).acked = t.acked ∧ (t.inMode capacity mode).departed = t.departed ∧
    (t.inMode capacity mode).lastOutcome = t.lastOutcome := by
  unfold Tally.inMode
  split <;> exact ⟨rfl, rfl, rfl, rfl, rfl⟩

section
variable {st : Settings} {old new : Nat} {mode : TallyMode} {t : Tally}

theorem Tally.edited_of_same (h : new = old) : t.edited st old new mode = t.inMode new mode :=
  congrArg (fun u : Tally => u.inMode new mode) (if_neg (not_not.mpr h))

theorem Tally.edited_of_resized (h : new ≠ old) :
    t.edited st old new mode = (t.resized st new ((new : Int) - old)).inMode new mode :=
  congrArg (fun u : Tally => u.inMode new mode) (if_pos h)

theorem Tally.edited_mode (h : mode ≠ t.mode) : (t.edited st old new mode).mode = mode ∧
    (t.edited st old new mode).clip = 0 ∧
    (t.edited st old new mode).net = ((t.edited st old new mode).remaining : Int) - new ∧
    (t.edited st old new mode).unbalanced = false := by
  have other : ∀ u : Tally, u.mode = t.mode → u.inMode new mode = u.changeMode new mode := fun u e =>
    Tally.inMode_other (e ▸ h) new
  unfold Tally.edited
  split
  · rw [other (t.resized st new ((new : Int) - old)) rfl]
    exact ⟨rfl, rfl, rfl, rfl⟩
  · rw [other _ rfl]
    exact ⟨rfl, rfl, rfl, rfl⟩

end

end Sys2Proof.Machine
end

section
/-! SUPPORT. The edit of a LISTED show, the live edit, the clear and the images that decoding refuses (R61, R62, R64, R65). -/

namespace Sys2Proof.Machine

section
variable (s : State) (x : Slot) (w : Show) (mode : TallyMode)

/-! ### The steps of an edit (R64) -/

/-- The capacity change of an edit (R98). -/
def State.resize (old new : Nat) : State := if new ≠ old then s.changeCapacity x old new else s

/-- The mode change of an edit (R99). -/
def State.toMode : State := if mode ≠ (s.tallyOf x).mode then s.changeMode x mode else s

/-- The new place of an edited slot (R75). -/
def State.replace (moved : Bool) : State := if moved then (s.unplaceSlot x).placeSlot x else s

/-- The record as an edit takes it: the slot's state and sales stay (R60, R64). -/
def Show.takenOver (old : Show) : Show := { w with state := old.state, salesClosed := old.salesClosed }

/-- The record of an edit, with its capacity change (R64, R98). -/
def State.refitted : State :=
  (s.setShow x (w.takenOver (s.showOf x))).resize x (s.showOf x).capacity w.capacity

/-- Does an edit move the slot in the listing order? (R64). -/
def Show.movesFrom (old : Show) : Bool := decide (w.start ≠ old.start ∨ w.auditorium ≠ old.auditorium)

/-- An edit before its evaluation (R64). -/
def State.revised : State :=
  (((s.refitted x w).toMode x mode).replace x (w.movesFrom (s.showOf x))).writeListing x
    (w.movesFrom (s.showOf x) || decide (w.listingClass ≠ (s.showOf x).listingClass))

theorem State.editShow_eq : s.editShow x w mode = (s.revised x w mode).settle x := rfl

theorem State.resize_leaves (old new : Nat) : s.Leaves [.rep, .tally, .fmt] (s.resize x old new) :=
  .ite (s.changeCapacity_leaves x old new) (.refl _ s)

theorem State.toMode_leaves : s.Leaves [.rep, .tally, .fmt] (s.toMode x mode) :=
  .ite (s.changeMode_leaves x mode) (.refl _ s)

theorem State.replace_leaves (moved : Bool) : s.Leaves boardBlocks (s.replace x moved) :=
  .ite ((s.setOrder_leaves _).trans (State.setOrder_leaves _ _)) (.refl _ s)

theorem State.replace_showOf (moved : Bool) (y : Slot) : (s.replace x moved).showOf y = s.showOf y := by
  cases moved <;> rfl

theorem State.resize_keepsOthers (old new : Nat) : s.KeepsOthers (s.resize x old new) x :=
  .ite (s.changeCapacity_keepsOthers x old new) (.refl s x)

theorem State.toMode_keepsOthers : s.KeepsOthers (s.toMode x mode) x := .ite (s.setTally_keepsOthers x _) (.refl s x)

theorem State.replace_keepsOthers (moved : Bool) : s.KeepsOthers (s.replace x moved) x :=
  .ite ((s.setOrder_keepsOthers x _).trans (State.setOrder_keepsOthers _ x _)) (.refl s x)

theorem State.resize_tallyOf (old new : Nat) : (s.resize x old new).tallyOf x =
    if new ≠ old then (s.tallyOf x).resized s.settings new ((new : Int) - old) else s.tallyOf x := by
  unfold State.resize
  split
  · exact s.changeCapacity_tallyOf x old new
  · rfl

theorem State.toMode_tallyOf : (s.toMode x mode).tallyOf x = (s.tallyOf x).inMode (s.showOf x).capacity mode := by
  unfold State.toMode Tally.inMode
  split
  · exact Table.read_write_same _ _ _
  · rfl

theorem State.refitted_showOf : (s.refitted x w).showOf x = w.takenOver (s.showOf x) := by
  rw [State.refitted, (State.resize_leaves _ x _ _).showOf x, State.showOf_setShow, if_pos rfl]

theorem State.revised_showOf : (s.revised x w mode).showOf x = w.takenOver (s.showOf x) := by
  rw [State.revised, (State.writeListing_leaves _ x _).showOf x, State.replace_showOf,
    (State.toMode_leaves _ x mode).showOf x, s.refitted_showOf x w]

theorem State.revised_tallyOf :
    (s.revised x w mode).tallyOf x = (s.tallyOf x).edited s.settings (s.showOf x).capacity w.capacity mode := by
  rw [State.revised, (State.writeListing_leaves _ x _).tallyOf x, (State.replace_leaves _ x _).tallyOf x,
    State.toMode_tallyOf, s.refitted_showOf x w, State.refitted, State.resize_tallyOf]
  rfl

theorem State.revised_keepsOthers : s.KeepsOthers (s.revised x w mode) x :=
  ((((s.setShow_keepsOthers x _).trans (State.resize_keepsOthers _ x _ _)).trans
    (State.toMode_keepsOthers _ x mode)).trans (State.replace_keepsOthers _ x _)).trans
    (.of_leaves (State.writeListing_leaves _ x _) (.of_leaves (State.writeListing_leaves _ x _)))

/-- From its capacity change on, an edit leaves the report side grown (R64). -/
theorem State.refitted_leaves_editShow : (s.refitted x w).Leaves writeBlocks (s.editShow x w mode) := by
  rw [State.editShow_eq]
  exact ((((State.toMode_leaves _ x mode).mono (by simp)).trans ((State.replace_leaves _ x _).mono (by simp))).trans
    ((State.writeListing_leaves _ x _).mono (by simp))).trans ((State.settle_leaves _ x).mono (by simp))

theorem State.revised_clock : (s.revised x w mode).clock = s.clock := by
  rw [State.revised, (State.writeListing_leaves _ x _).clock, (State.replace_leaves _ x _).clock,
    (State.toMode_leaves _ x mode).clock, State.refitted, (State.resize_leaves _ x _ _).clock]
  rfl

section
variable (h : (s.showOf x).state = .listed)
include h

theorem State.revised_unretired : ((s.revised x w mode).showOf x).state.unretired = true := by
  rw [State.revised_showOf]
  exact congrArg ShowState.unretired h

theorem State.editShow_keepsOthers : s.KeepsOthers (s.editShow x w mode) x :=
  (s.revised_keepsOthers x w mode).trans (State.settle_keepsOthers _ x (s.revised_unretired x w mode h))

theorem State.editShow_showOf :
    (s.editShow x w mode).showOf x = s.clock.settles (w.takenOver (s.showOf x)) := by
  rw [State.editShow_eq, State.settle_showOf _ x (s.revised_unretired x w mode h), if_pos rfl, State.revised_showOf,
    State.revised_clock]

end

theorem State.editShow_tallyOf :
    (s.editShow x w mode).tallyOf x = (s.tallyOf x).edited s.settings (s.showOf x).capacity w.capacity mode := by
  rw [State.editShow_eq, (State.settle_leaves _ x).tallyOf x, State.revised_tallyOf]

/-- A clip that saturates in the capacity change of an edit sets CLIP_LIMIT (R64, R89). -/
theorem State.editShow_clipLimit (quiet : s.rep.Quiet) (resized : w.capacity ≠ (s.showOf x).capacity)
    (saturates : (s.tallyOf x).clipSaturates w.capacity ((w.capacity : Int) - (s.showOf x).capacity) = true) :
    AttentionFlag.clipLimit.isIn (s.editShow x w mode).rep.flags = true := by
  have set : (s.setShow x (w.takenOver (s.showOf x))).rep.Quiet := quiet
  have fit : s.refitted x w =
      (s.setShow x (w.takenOver (s.showOf x))).changeCapacity x (s.showOf x).capacity w.capacity := if_pos resized
  have flag : AttentionFlag.clipLimit.isIn (s.refitted x w).rep.flags = true := by
    rw [fit]
    exact State.changeCapacity_clipLimit _ x set saturates
  have quiet' : (s.refitted x w).rep.Quiet := by
    rw [fit]
    exact (State.changeCapacity_leaves _ x _ _).quiet set
  exact (s.refitted_leaves_editShow x w mode).flag quiet' flag

/-! ### The steps of a live edit (R65) -/

/-- The record as a live edit takes it (R65). -/
def Show.relabelled (old : Show) : Show :=
  { old with title := w.title, badges := w.badges, listingClass := w.listingClass, announce := w.announce }

/-- The record of a live edit, with its listing change (R65). -/
def State.relabelled : State :=
  (s.setShow x (w.relabelled (s.showOf x))).writeListing x (decide (w.listingClass ≠ (s.showOf x).listingClass))

/-- The boarding notice of a BOARDING show follows its announce flag (R65, R115). -/
def State.announces (changed announce : Prop) [Decidable changed] [Decidable announce] : State :=
  if changed then (if announce then s.requestBoarding x else s.withdrawBoarding x) else s

/-- A live edit before its evaluation (R65). -/
def State.restated : State :=
  (s.relabelled x w).announces x ((s.showOf x).state = .boarding ∧ w.announce ≠ (s.showOf x).announce) (w.announce = true)

theorem State.liveEditShow_eq : s.liveEditShow x w = (s.restated x w).settle x := rfl

section
variable (changed announce : Prop) [Decidable changed] [Decidable announce]

theorem State.announces_leaves : s.Leaves [.dir, .rep, .notice, .fmt, .comp] (s.announces x changed announce) :=
  .ite (.ite (s.requestBoarding_leaves x) ((s.removeNotices_leaves _).mono (by simp))) (.refl _ s)

theorem State.announces_keepsRest : s.KeepsRest (s.announces x changed announce) :=
  .ite (.ite (s.requestBoarding_keepsRest x) (.of_leaves (s.removeNotices_leaves _))) (.refl s)

end

theorem State.restated_showOf : (s.restated x w).showOf x = w.relabelled (s.showOf x) := by
  rw [State.restated, (State.announces_leaves _ x _ _).showOf x, State.relabelled,
    (State.writeListing_leaves _ x _).showOf x, State.showOf_setShow, if_pos rfl]

theorem State.restated_tallyOf : (s.restated x w).tallyOf x = s.tallyOf x := by
  rw [State.restated, (State.announces_leaves _ x _ _).tallyOf x, State.relabelled,
    (State.writeListing_leaves _ x _).tallyOf x]
  rfl

theorem State.restated_clock : (s.restated x w).clock = s.clock := by
  rw [State.restated, (State.announces_leaves _ x _ _).clock, State.relabelled, (State.writeListing_leaves _ x _).clock]
  rfl

theorem State.restated_keepsOthers : s.KeepsOthers (s.restated x w) x :=
  ((s.setShow_keepsOthers x _).trans
    (.of_leaves (State.writeListing_leaves _ x _) (.of_leaves (State.writeListing_leaves _ x _)))).trans
    (.of_leaves (State.announces_leaves _ x _ _) (State.announces_keepsRest _ x _ _))

section
variable (h : (s.showOf x).state.unretired = true)
include h

theorem State.restated_unretired : ((s.restated x w).showOf x).state.unretired = true := by
  rw [State.restated_showOf]
  exact h

theorem State.liveEditShow_keepsOthers : s.KeepsOthers (s.liveEditShow x w) x :=
  (s.restated_keepsOthers x w).trans (State.settle_keepsOthers _ x (s.restated_unretired x w h))

theorem State.liveEditShow_showOf :
    (s.liveEditShow x w).showOf x = s.clock.settles (w.relabelled (s.showOf x)) := by
  rw [State.liveEditShow_eq, State.settle_showOf _ x (s.restated_unretired x w h), if_pos rfl, State.restated_showOf,
    State.restated_clock]

end

theorem State.liveEditShow_tallyOf : (s.liveEditShow x w).tallyOf x = s.tallyOf x := by
  rw [State.liveEditShow_eq, (State.settle_leaves _ x).tallyOf x, State.restated_tallyOf]

/-! ### The board's answer to an image at an occupied slot (R61, R65) -/

/-- The fields that a live edit may not change (R65). -/
abbrev State.LiveSame : Prop :=
  w.auditorium = (s.showOf x).auditorium ∧ w.start = (s.showOf x).start ∧ w.runtime = (s.showOf x).runtime ∧
    w.lead = (s.showOf x).lead ∧ w.closeOffset = (s.showOf x).closeOffset ∧ w.grace = (s.showOf x).grace ∧
    w.capacity = (s.showOf x).capacity ∧ mode = (s.tallyOf x).mode

variable {s x w mode}

theorem State.showWriteRefusal_of_live (live : (s.showOf x).state = .boarding ∨ (s.showOf x).state = .started) :
    s.showWriteRefusal x (.record w mode) = if s.LiveSame x w mode then none else some .showLive := by
  have ok : (s.liveEditOk x w mode = true) = s.LiveSame x w mode := decide_eq_true_eq
  obtain boarding | started := live
  · simp only [State.showWriteRefusal, boarding, ok]
  · simp only [State.showWriteRefusal, started, ok]

theorem State.showWriteRefusal_of_retired (retired : (s.showOf x).state = .retired) :
    s.showWriteRefusal x (.record w mode) = some .showLive := by
  simp only [State.showWriteRefusal, retired]

theorem State.disposeShow_of_listed (listed : (s.showOf x).state = .listed) :
    s.disposeShow x (.record w mode) = s.editShow x w mode := by
  simp only [State.disposeShow, listed]

theorem State.disposeShow_of_live (live : (s.showOf x).state = .boarding ∨ (s.showOf x).state = .started) :
    s.disposeShow x (.record w mode) = s.liveEditShow x w := by
  obtain boarding | started := live
  · simp only [State.disposeShow, boarding]
  · simp only [State.disposeShow, started]

theorem ShowState.unretired_of_live {k : ShowState} (live : k = .boarding ∨ k = .started) : k.unretired = true := by
  obtain rfl | rfl := live <;> rfl

/-! ### The clear of an occupied slot (R62) -/

theorem State.clearOccupied_records (s : State) (x : Slot) :
    (s.clearOccupied x).showOf x = Show.vacant ∧ (s.clearOccupied x).tallyOf x = Tally.zeroed := by
  unfold State.showOf State.tallyOf
  rw [s.clearOccupied_board, s.clearOccupied_tally]
  exact ⟨Table.read_write_same _ _ _, Table.read_write_same _ _ _⟩

/-- No notice is linked to a cleared slot (R62, R74). -/
theorem State.clearOccupied_unlinked (s : State) (x : Slot) {n : Notice}
    (h : n ∈ (s.clearOccupied x).notice.queue) : n.linked ≠ some x := by
  rw [s.clearOccupied_notice] at h
  have stays := (List.mem_filter.mp h).2
  intro linked
  simp [State.clearedBy, Notice.leavesWith, linked] at stays

/-! ### Images (R61, R184) -/

theorem showOfImage_clear {img : List Byte} (h : img.head? = some 0) : showOfImage img = some .clear := by
  have present : imageByte img 0 = 0 := by
    rw [imageByte, List.getD_eq_getElem?_getD, ← List.head?_eq_getElem?, h]
    rfl
  exact if_pos present

/-- A badge code 0 within the badge count stands among the badges (R58). -/
theorem zero_mem_badges {img : List Byte} (length : img.length = 19) {n i : Nat} (within : i < n) (count : n ≤ 3)
    (zero : (imageByte img (16 + i)).toNat = 0) : (0 : Byte) ∈ (img.drop 16).take n := by
  have inside : 16 + i < img.length := by omega
  have byte : img[16 + i] = 0 := by
    rw [imageByte, List.getD_eq_getElem _ _ inside] at zero
    exact BitVec.eq_of_toNat_eq zero
  refine List.mem_of_getElem? (i := i) ?_
  rw [List.getElem?_take_of_lt within, List.getElem?_drop, List.getElem?_eq_getElem inside, byte]

theorem showOfImage_of_bad {img : List Byte} (length : img.length = 19) (bad : BadShowImage img) :
    showOfImage img = none := by
  obtain present | ⟨present, range⟩ := bad
  · have zero : imageByte img 0 ≠ 0 := fun e => by simp [e] at present
    have one : imageByte img 0 ≠ 1 := fun e => by simp [e] at present
    exact (if_neg zero).trans (if_pos one)
  · have one : imageByte img 0 = 1 := BitVec.eq_of_toNat_eq present
    refine (if_neg (by simp [one])).trans ((if_neg (not_not.mpr one)).trans (if_neg ?_))
    dsimp only [Nat.reduceAdd] at range
    rintro ⟨room, title, start, runtime, lead, close, grace, order, capacity, cls, bits, count, badges⟩
    simp only [← or_assoc] at range
    obtain numeric | ⟨i, within, zero⟩ := range
    · omega
    · exact badges (zero_mem_badges length within count zero)

end

end Sys2Proof.Machine
end

section
/-! SUPPORT. The parts of O44: an edit with its tally, a live edit, a clear (R61, R62, R64, R65, R98, R99). -/

namespace Sys2Proof.Machine

section
variable {st : Settings} {old new : Nat} {mode : TallyMode} {t : Tally}

/-- The fields of a tally after a capacity change and, where the mode is another, a mode change (R98, R99). -/
theorem Tally.edited_fields (resized : new ≠ old) :
    let d : Int := (new : Int) - old
    let seats := clampRemaining new (t.target d)
    let e := t.edited st old new mode
    e.remaining = seats ∧ e.band = bandOf st new seats ∧ e.acked = t.acked ∧
    e.departed = decide (bandOf st new seats ≠ t.acked) ∧ e.lastOutcome = t.lastOutcome ∧
    (mode = t.mode → e.net = t.net ∧
      e.clip = (if mode = .strict then 0 else max (-127) (min 127 (t.clipSum new d))) ∧
      e.unbalanced = (t.unbalanced || t.clipSaturates new d)) := by
  intro d seats e
  have edited : e = (t.resized st new d).inMode new mode := Tally.edited_of_resized resized
  obtain ⟨remaining, band, acked, departed, outcome⟩ := (t.resized st new d).inMode_keeps new mode
  rw [edited]
  refine ⟨remaining, band, acked, departed, outcome, fun same => ?_⟩
  rw [Tally.inMode_same (t := t.resized st new d) same, same]
  exact ⟨rfl, t.resized_clip d st new, rfl⟩

end

section
variable {s t u : State} {x : Slot} {w : Show} {mode : TallyMode} {tag : Byte} {img : List Byte}

/-- The answer to an accepted SHOW image, by what the board makes of it (R61). -/
theorem exec_writeEntryShow_disposed {v : ShowWrite} (cursor : s.dir.cursor = { table := .show, index := some x.val })
    (length : img.length = 19) (image : showOfImage img = some v) (taken : s.consumeSpan.showWriteRefusal x v = none)
    (disposal : s.consumeSpan.disposeShow x v = u) :
    exec (.writeEntryShow tag img) s = .next u.recomputeDue.advanceCursor := by
  rw [exec_writeEntryShow_taken tag cursor length image taken, disposal]

theorem State.WrittenAt.around (h : s.WrittenAt t x) :
    (∀ y : Slot, y ≠ x → t.showOf y = s.showOf y ∧ t.tallyOf y = s.tallyOf y) ∧
    t.board.nextDue = nextDueOf t.board.shows ∧ t.board.titles = s.board.titles ∧ t.tally.desks = s.tally.desks ∧
    t.dir.cursor = { table := .show, index := if x.val + 1 < 96 then some (x.val + 1) else none } ∧
    t.dir.staging = s.dir.staging ∧ t.dir.restorePoint = s.dir.restorePoint ∧ t.dir.span = none ∧
    s.Leaves [.dir, .rep, .board, .tally, .notice, .fmt, .comp] t :=
  ⟨h.others, h.nextDue, h.titles, h.desks, h.cursor, h.staging, h.restore, h.span, h.leaves⟩

/-- An accepted edit: its record, its tally, CLIP_LIMIT where the clip saturates (R64, R89, R98, R99). -/
structure State.EditedAt (s t : State) (x : Slot) (w : Show) (mode : TallyMode) : Prop where
  record  : t.showOf x = s.clock.settles (w.takenOver (s.showOf x))
  tally   : t.tallyOf x = (s.tallyOf x).edited s.settings (s.showOf x).capacity w.capacity mode
  limit   : s.rep.Quiet → w.capacity ≠ (s.showOf x).capacity →
    (s.tallyOf x).clipSaturates w.capacity ((w.capacity : Int) - (s.showOf x).capacity) = true →
    AttentionFlag.clipLimit.isIn t.rep.flags = true
  written : s.WrittenAt t x

theorem exec_writeEntryShow_edited (cursor : s.dir.cursor = { table := .show, index := some x.val })
    (length : img.length = 19) (image : showOfImage img = some (.record w mode)) (listed : (s.showOf x).state = .listed)
    (free : ¬ s.Clash x w) : ∃ t, exec (.writeEntryShow tag img) s = .next t ∧ s.EditedAt t x w mode := by
  have taken := State.showWriteRefusal_of_free (s := s.consumeSpan) (x := x) (mode := mode) free (.inr listed)
  exact ⟨_, exec_writeEntryShow_disposed cursor length image taken
      (State.disposeShow_of_listed (s := s.consumeSpan) listed),
    s.consumeSpan.editShow_showOf x w mode listed, s.consumeSpan.editShow_tallyOf x w mode,
    fun quiet => s.consumeSpan.editShow_clipLimit x w mode quiet,
    State.writtenAt_of_keepsOthers cursor (s.consumeSpan.editShow_keepsOthers x w mode listed)
      (s.consumeSpan.editShow_leaves x w mode)⟩

theorem exec_writeEntryShow_liveEdited (cursor : s.dir.cursor = { table := .show, index := some x.val })
    (length : img.length = 19) (image : showOfImage img = some (.record w mode))
    (live : (s.showOf x).state = .boarding ∨ (s.showOf x).state = .started) (same : s.LiveSame x w mode) :
    ∃ t, exec (.writeEntryShow tag img) s = .next t ∧ t.showOf x = s.clock.settles (w.relabelled (s.showOf x)) ∧
      t.tallyOf x = s.tallyOf x ∧ s.WrittenAt t x := by
  have taken := (State.showWriteRefusal_of_live (s := s.consumeSpan) (w := w) (mode := mode) live).trans (if_pos same)
  have unretired := ShowState.unretired_of_live live
  exact ⟨_, exec_writeEntryShow_disposed cursor length image taken
      (State.disposeShow_of_live (s := s.consumeSpan) live),
    s.consumeSpan.liveEditShow_showOf x w unretired, s.consumeSpan.liveEditShow_tallyOf x w,
    State.writtenAt_of_keepsOthers cursor (s.consumeSpan.liveEditShow_keepsOthers x w unretired)
      (s.consumeSpan.liveEditShow_leaves x w)⟩

theorem exec_writeEntryShow_cleared (cursor : s.dir.cursor = { table := .show, index := some x.val })
    (length : img.length = 19) (image : showOfImage img = some .clear) (occupied : (s.showOf x).state ≠ .vacant) :
    exec (.writeEntryShow tag img) s = .next (s.consumeSpan.clearOccupied x).recomputeDue.advanceCursor ∧
    s.WrittenAt (s.consumeSpan.clearOccupied x).recomputeDue.advanceCursor x :=
  ⟨exec_writeEntryShow_disposed cursor length image rfl (State.clearSlot_of_occupied s.consumeSpan x occupied),
    State.writtenAt_of_keepsOthers cursor (s.consumeSpan.clearOccupied_keepsOthers x)
      ((s.consumeSpan.clearOccupied_leaves x).mono (by simp))⟩

theorem exec_writeEntryShow_cleared_vacant (cursor : s.dir.cursor = { table := .show, index := some x.val })
    (length : img.length = 19) (image : showOfImage img = some .clear) (vacant : (s.showOf x).state = .vacant) :
    exec (.writeEntryShow tag img) s = .next { s with
      dir := { s.dir with
        span := none, cursor := { table := .show, index := if x.val + 1 < 96 then some (x.val + 1) else none } }
      board := { s.board with nextDue := nextDueOf s.board.shows } } := by
  have advance : s.dir.cursor.advance =
      { table := .show, index := if x.val + 1 < 96 then some (x.val + 1) else none } := by
    rw [cursor]
    rfl
  rw [exec_writeEntryShow_disposed cursor length image rfl (State.clearSlot_of_vacant s.consumeSpan x vacant), ← advance]
  rfl

end

/-- Settles O44: an accepted image by the slot's state, with the tally of an edit read off the stages of its capacity and mode
changes. -/
theorem showRewritten : Obligations.ShowRewritten := by
  unfold Obligations.ShowRewritten
  intro s tag x img cursor length m old oldTally evaluated around
  refine ⟨fun w mode image => ⟨fun listed clash => ?_, fun listed free => ?_, fun live same => ?_, fun live other => ?_,
    fun retired => ?_⟩, fun head occupied => ?_, fun head vacant => ?_, fun bad => ?_⟩
  · exact exec_writeEntryShow_refused tag cursor length image
      (State.showWriteRefusal_of_clash (s := s.consumeSpan) clash (.inr listed))
  · obtain ⟨t, answer, record, tally, limit, written⟩ := exec_writeEntryShow_edited cursor length image listed free
    refine ⟨t, answer, ?_, fun capacity same => ?_, fun resized => ?_, fun other => ?_, fun other capacity => ?_,
      written.around⟩
    · rw [record, Show.takenOver, listed]
      rfl
    · rw [tally, Tally.edited_of_same capacity]
      exact Tally.inMode_same same _
    · intro delta taken target remaining clipSum band
      have htarget : (s.tallyOf x).target delta = target := Tally.target_eq _ _
      have hseats : ((clampRemaining w.capacity target : Nat) : Int) = remaining := clampRemaining_eq _ _
      have hclip : (s.tallyOf x).clipSum w.capacity delta = clipSum := by
        rw [Tally.clipSum_eq, htarget]
        rfl
      have hband : bandOf s.settings w.capacity (clampRemaining w.capacity target) = band :=
        bandOf_eq _ (clampRemaining_le _ _) hseats
      have hsaturates : (s.tallyOf x).clipSaturates w.capacity delta =
          decide (oldTally.mode = .reconcile ∧ (clipSum < -127 ∨ 127 < clipSum)) := by
        rw [Bool.eq_iff_iff, Tally.clipSaturates_iff, hclip, decide_eq_true_iff]
      obtain ⟨seats, band', acked, departed, outcome, same⟩ :=
        Tally.edited_fields (st := s.settings) (mode := mode) (t := s.tallyOf x) resized
      rw [← tally] at seats band' acked departed outcome same
      rw [htarget] at seats band' departed
      rw [hband] at band' departed
      refine ⟨seats.trans (by rw [← hseats, Int.toNat_natCast]), band', acked, departed, outcome, fun kept => ?_,
        fun quiet reconcile outside => ?_⟩
      · obtain ⟨net, clip, unbalanced⟩ := same kept
        rw [hclip] at clip
        rw [hsaturates, ← kept] at unbalanced
        exact ⟨net, clip, unbalanced⟩
      · exact limit quiet resized (hsaturates.trans (decide_eq_true ⟨reconcile, outside⟩))
    · rw [tally]
      exact Tally.edited_mode other
    · rw [tally, Tally.edited_of_same capacity]
      exact Tally.inMode_other other _
  · obtain ⟨t, answer, record, tally, written⟩ := exec_writeEntryShow_liveEdited cursor length image live same
    exact ⟨t, answer, record, tally, written.around⟩
  · exact exec_writeEntryShow_refused tag cursor length image
      ((State.showWriteRefusal_of_live (s := s.consumeSpan) live).trans (if_neg other))
  · exact exec_writeEntryShow_refused tag cursor length image
      (State.showWriteRefusal_of_retired (s := s.consumeSpan) retired)
  · obtain ⟨answer, written⟩ := exec_writeEntryShow_cleared (tag := tag) cursor length (showOfImage_clear head) occupied
    obtain ⟨record, tally⟩ := s.consumeSpan.clearOccupied_records x
    exact ⟨_, answer, record, tally, congrArg Board.order (s.consumeSpan.clearOccupied_board x),
      fun n live => s.consumeSpan.clearOccupied_unlinked x live, written.around⟩
  · exact exec_writeEntryShow_cleared_vacant cursor length (showOfImage_clear head) vacant
  · exact ⟨_, (exec_writeEntryShow cursor length).trans
        (congrArg _ (State.writeShow_of_bad tag (showOfImage_of_bad length bad))),
      s.refuseKind_refused .writeEntry tag .badField⟩

end Sys2Proof.Machine
end

section
/-! SUPPORT. The texts of fields and rows: fitting, decimal digits, civil times (R52, R53, R103, R143, R145, R146). -/

namespace Sys2Proof.Machine

/-! ### Fitting (R145, R146) -/

@[simp] theorem length_spaces (n : Nat) : (spaces n).length = n := List.length_replicate

section
variable (ellipsis : Byte) (align : Alignment) {w : Nat} {text : List Byte}

theorem fitText_of_longer (h : w < text.length) : fitText ellipsis align w text = cutText ellipsis w text := if_pos h

theorem fitText_of_fits (h : text.length ≤ w) : fitText ellipsis align w text = padText align w text :=
  if_neg (Nat.not_lt.mpr h)

theorem length_cutText (h : w < text.length) : (cutText ellipsis w text).length = w := by
  unfold cutText
  split
  · rw [List.length_append, List.length_take, List.length_singleton]
    omega
  · rw [List.length_take]
    omega

theorem length_padText (h : text.length ≤ w) : (padText align w text).length = w := by
  unfold padText
  cases align with
  | left =>
    simp only [List.length_append, length_spaces]
    omega
  | right =>
    simp only [List.length_append, length_spaces]
    omega
  | centre =>
    simp only [List.length_append, length_spaces]
    omega

theorem padText_of_exact (h : text.length = w) : padText align w text = text := by
  unfold padText
  rw [h, Nat.sub_self]
  cases align <;> simp [spaces]

theorem length_fitText (w : Nat) (text : List Byte) : (fitText ellipsis align w text).length = w := by
  obtain longer | fits := Nat.lt_or_ge w text.length
  · rw [fitText_of_longer ellipsis align longer, length_cutText ellipsis longer]
  · rw [fitText_of_fits ellipsis align fits, length_padText align fits]

end

section
variable {w : Nat} {row : List Byte}

theorem length_fitRow (w : Nat) (row : List Byte) : (fitRow w row).length = w := by
  rw [fitRow, List.length_append, List.length_take, length_spaces]
  omega

theorem fitRow_of_fits (h : row.length ≤ w) : fitRow w row = row ++ spaces (w - row.length) := by
  rw [fitRow, List.take_of_length_le h]

theorem fitRow_of_longer (h : w < row.length) : fitRow w row = row.take w := by
  rw [fitRow, Nat.sub_eq_zero_of_le (Nat.le_of_lt h), spaces, List.replicate_zero, List.append_nil]

end

/-! ### Decimal digits -/

theorem digit_toNat (n : Nat) : (digit n).toNat = 48 + n % 10 := by
  rw [digit, BitVec.toNat_ofNat, Nat.mod_eq_of_lt]
  omega

theorem digit_range (n : Nat) : 48 ≤ (digit n).toNat ∧ (digit n).toNat ≤ 57 := by
  rw [digit_toNat]
  omega

/-- The number that a digit code shifts into a value. -/
def readDigit (v : Nat) (b : Byte) : Nat := 10 * v + (b.toNat - 48)

theorem readDigit_digit (v n : Nat) : readDigit v (digit n) = 10 * v + n % 10 := by
  rw [readDigit, digit_toNat, Nat.add_sub_cancel_left]

theorem digitsUpTo_of_small {n : Nat} (h : n < 10) : ∀ fuel, digitsUpTo fuel n = [digit n]
  | 0 => rfl
  | _ + 1 => if_pos h

theorem digitsUpTo_of_large {n : Nat} (h : 10 ≤ n) (fuel : Nat) :
    digitsUpTo (fuel + 1) n = digitsUpTo fuel (n / 10) ++ [digit n] := if_neg (Nat.not_lt.mpr h)

theorem digitsUpTo_value (fuel : Nat) : ∀ n, n < 10 ^ (fuel + 1) → (digitsUpTo fuel n).foldl readDigit 0 = n := by
  have last : ∀ n, n < 10 → [digit n].foldl readDigit 0 = n := fun n small => by
    rw [List.foldl_cons, List.foldl_nil, readDigit_digit]
    omega
  induction fuel with
  | zero => exact last
  | succ fuel ih =>
    intro n bound
    obtain small | large := Nat.lt_or_ge n 10
    · rw [digitsUpTo_of_small small]
      exact last n small
    · rw [digitsUpTo_of_large large, List.foldl_append, ih (n / 10) (by omega), List.foldl_cons, List.foldl_nil,
        readDigit_digit]
      omega

theorem digitsUpTo_range (fuel : Nat) : ∀ n, ∀ b ∈ digitsUpTo fuel n, 48 ≤ b.toNat ∧ b.toNat ≤ 57 := by
  have last : ∀ n, ∀ b ∈ [digit n], 48 ≤ b.toNat ∧ b.toNat ≤ 57 := fun n b hb => by
    rw [List.mem_singleton.mp hb]
    exact digit_range n
  induction fuel with
  | zero => exact last
  | succ fuel ih =>
    intro n
    obtain small | large := Nat.lt_or_ge n 10
    · rw [digitsUpTo_of_small small]
      exact last n
    · rw [digitsUpTo_of_large large]
      exact List.forall_mem_append.mpr ⟨ih (n / 10), last n⟩

theorem digitsUpTo_ne_nil (fuel n : Nat) : digitsUpTo fuel n ≠ [] := by
  cases fuel with
  | zero => simp [digitsUpTo]
  | succ fuel =>
    unfold digitsUpTo
    split <;> simp

/-- No number but 0 begins with the digit 0. -/
theorem digitsUpTo_head (fuel : Nat) : ∀ n, n ≠ 0 → n < 10 ^ (fuel + 1) → (digitsUpTo fuel n).head? ≠ some 48 := by
  have last : ∀ n, n ≠ 0 → n < 10 → [digit n].head? ≠ some 48 := fun n nonzero small zero => by
    have code := congrArg BitVec.toNat (Option.some.inj zero)
    rw [digit_toNat, Nat.mod_eq_of_lt small] at code
    exact nonzero (Nat.add_left_cancel code)
  induction fuel with
  | zero => exact last
  | succ fuel ih =>
    intro n nonzero bound
    obtain small | large := Nat.lt_or_ge n 10
    · rw [digitsUpTo_of_small small]
      exact last n nonzero small
    · rw [digitsUpTo_of_large large, List.head?_append_of_ne_nil _ (digitsUpTo_ne_nil _ _)]
      exact ih (n / 10) (by omega) (by omega)

/-- A number below a power of ten has no more digits than its exponent. -/
theorem length_digitsUpTo_le (fuel : Nat) : ∀ k n, n < 10 ^ (k + 1) → (digitsUpTo fuel n).length ≤ k + 1 := by
  induction fuel with
  | zero => exact fun k n _ => Nat.le_add_left 1 k
  | succ fuel ih =>
    intro k n bound
    obtain small | large := Nat.lt_or_ge n 10
    · rw [digitsUpTo_of_small small]
      exact Nat.le_add_left 1 k
    · rw [digitsUpTo_of_large large, List.length_append, List.length_singleton]
      cases k with
      | zero => exact absurd bound (Nat.not_lt.mpr large)
      | succ k => exact Nat.succ_le_succ (ih k (n / 10) (by omega))

theorem length_digits_pos (n : Nat) : 1 ≤ (digits n).length := List.length_pos_iff.mpr (digitsUpTo_ne_nil 9 n)

theorem length_digits_le {k n : Nat} (h : n < 10 ^ (k + 1)) : (digits n).length ≤ k + 1 := length_digitsUpTo_le 9 k n h

/-! ### The seats-left figure (R103) -/

section
variable {st : Settings} {w : Show} {t : Tally}

theorem seatsLeft_of_closed (closed : w.salesClosed = true) :
    seatsLeft st w t = codes ['C', 'L', 'O', 'S', 'E', 'D'] := if_pos closed

theorem seatsLeft_of_none (selling : w.salesClosed = false) (none : t.remaining = 0) :
    seatsLeft st w t = codes ['S', 'O', 'L', 'D', ' ', 'O', 'U', 'T'] := by
  rw [seatsLeft, if_neg (by simp [selling]), if_pos none]

theorem seatsLeft_of_some (selling : w.salesClosed = false) (some : t.remaining ≠ 0) : seatsLeft st w t =
    if st.exactLimit < t.remaining ∧ st.exactLimit < t.remaining / st.step * st.step then
      digits (t.remaining / st.step * st.step) ++ [43]
    else digits t.remaining := by
  rw [seatsLeft, if_neg (by simp [selling]), if_neg some]
  by_cases exact' : t.remaining ≤ st.exactLimit
  · rw [if_pos exact', if_neg fun h => Nat.not_lt.mpr exact' h.1]
  · simp only [if_neg exact', Nat.not_le.mp exact', true_and]
    rfl

theorem length_seatsLeft_of_some (seats : t.remaining ≤ 999) (selling : w.salesClosed = false) (some : t.remaining ≠ 0) :
    1 ≤ (seatsLeft st w t).length ∧ (seatsLeft st w t).length ≤ 4 := by
  have few : ∀ n, n ≤ 999 → 1 ≤ (digits n).length ∧ (digits n).length ≤ 3 := fun n h =>
    ⟨length_digits_pos n, length_digits_le (k := 2) (Nat.lt_succ_of_le h)⟩
  rw [seatsLeft_of_some selling some]
  split
  · obtain ⟨low, high⟩ := few (t.remaining / st.step * st.step) (Nat.le_trans (Nat.div_mul_le_self _ _) seats)
    rw [List.length_append, List.length_singleton]
    omega
  · obtain ⟨low, high⟩ := few t.remaining seats
    omega

theorem length_seatsLeft (seats : t.remaining ≤ 999) :
    1 ≤ (seatsLeft st w t).length ∧ (seatsLeft st w t).length ≤ 8 := by
  cases selling : w.salesClosed with
  | true =>
    rw [seatsLeft_of_closed selling]
    decide
  | false =>
    by_cases none : t.remaining = 0
    · rw [seatsLeft_of_none selling none]
      decide
    · obtain ⟨low, high⟩ := length_seatsLeft_of_some (st := st) seats selling none
      exact ⟨low, Nat.le_trans high (by decide)⟩

end

/-! ### Civil times (R52) -/

theorem twoDigits_value {n : Nat} (h : n < 100) :
    10 * ((digit (n / 10)).toNat - 48) + ((digit n).toNat - 48) = n := by
  rw [digit_toNat, digit_toNat]
  omega

theorem length_civilText_hour12 (civil : Nat) :
    7 ≤ (civilText .hour12 civil).length ∧ (civilText .hour12 civil).length ≤ 8 := by
  have half : ∀ p : Prop, ∀ [Decidable p], (if p then codes ['A', 'M'] else codes ['P', 'M']).length = 2 := fun p _ => by
    split <;> rfl
  have hour : (if civil / 60 % 12 = 0 then 12 else civil / 60 % 12) < 10 ^ 2 := by
    split <;> omega
  have low := length_digits_pos (if civil / 60 % 12 = 0 then 12 else civil / 60 % 12)
  have high := length_digits_le (k := 1) hour
  simp only [civilText, List.length_append, half, twoDigits, List.length_cons, List.length_nil]
  omega

/-! ### Field texts (R53, R143) -/

theorem clockText_of_counting {c : Clock} (h : c.Counting) (form : TimeForm) :
    clockText form c = civilText form (civilOf c.civilStart c.minute) := if_pos ((ClockState.counts_iff _).mpr h)

theorem clockText_of_still {c : Clock} (h : ¬ c.Counting) (form : TimeForm) : clockText form c = [45, 45, 58, 45, 45] :=
  if_neg fun counts => h ((ClockState.counts_iff _).mp counts)

section
variable (st : Settings) (c : Clock) (src : RowSource) (pool : List Byte) (f : TemplateField)

/-- The ten show kinds take their text from the row's show, or none (R143). -/
theorem fieldText_of_show_kind (clock : f.kind ≠ .clock) (notice : f.kind ≠ .notice) (literal : f.kind ≠ .literal) :
    fieldText st c src pool f =
      match src.show? with
      | some (w, t, x) => showFieldText st c f.kind w t x
      | none => [] := by
  unfold fieldText
  generalize f.kind = k at clock notice literal
  cases k with
  | clock => exact absurd rfl clock
  | notice => exact absurd rfl notice
  | literal => exact absurd rfl literal
  | _ => rfl

variable {src}

theorem fieldText_of_show {w : Show} {t : Tally} {x : Title} (row : src.show? = some (w, t, x)) {k : FieldKind}
    (kind : f.kind = k) (shown : k ≠ .clock ∧ k ≠ .notice ∧ k ≠ .literal := by decide) :
    fieldText st c src pool f = showFieldText st c k w t x := by
  obtain ⟨clock, notice, literal⟩ := shown
  subst kind
  rw [fieldText_of_show_kind st c src pool f clock notice literal, row]

end

theorem showFieldText_minutes (st : Settings) (c : Clock) (w : Show) (t : Tally) (x : Title) :
    showFieldText st c .minutes w t x =
      if (w.state = .listed ∨ w.state = .boarding) ∧ c.Counting then digits (min 999 (w.start - c.minute)) else [] := by
  have shown : (w.state.upcoming && c.state.counts) = true ↔ (w.state = .listed ∨ w.state = .boarding) ∧ c.Counting := by
    rw [Bool.and_eq_true, ShowState.upcoming_iff, ClockState.counts_iff]
  rw [showFieldText, minutesValue]
  by_cases counted : (w.state = .listed ∨ w.state = .boarding) ∧ c.Counting
  · rw [if_pos (shown.mpr counted), if_pos counted]
    rfl
  · rw [if_neg (mt shown.mp counted), if_neg counted]

/-- Badge codes are set with a space between each two (R143). -/
theorem length_intersperse_space : ∀ l : List Byte, (l.intersperse space).length = 2 * l.length - 1
  | [] => rfl
  | [_] => rfl
  | a :: b :: l => by
    rw [List.intersperse_cons_cons, List.length_cons, List.length_cons, length_intersperse_space (b :: l)]
    simp only [List.length_cons]
    omega

theorem getElem?_intersperse_space : ∀ (l : List Byte) (i : Nat),
    (l.intersperse space)[2 * i]? = l[i]? ∧ (i + 1 < l.length → (l.intersperse space)[2 * i + 1]? = some 32)
  | [], i => by simp
  | [a], i => by cases i <;> simp [Nat.mul_add]
  | a :: b :: l, 0 => ⟨rfl, fun _ => rfl⟩
  | a :: b :: l, i + 1 => by
    obtain ⟨code, gap⟩ := getElem?_intersperse_space (b :: l) i
    rw [List.intersperse_cons_cons, Nat.mul_add]
    exact ⟨code, fun inside => gap (by simpa using inside)⟩

end Sys2Proof.Machine
end

section
/-! SUPPORT. The parts of O53: fitted fields, the texts of the field kinds, rows, digits, civil times. -/

namespace Sys2Proof.Machine

/-- The five ways in which a text is fitted to a width (R145). -/
theorem fitText_spec (ellipsis : Byte) (align : Alignment) (w : Nat) (text : List Byte) :
    let fitted := fitText ellipsis align w text
    let l := text.length
    fitted.length = w ∧
    (w < l → 2 ≤ w → fitted = text.take (w - 1) ++ [ellipsis]) ∧
    (w < l → w = 1 → fitted = text.take 1) ∧
    (l = w → fitted = text) ∧
    (l < w →
      (align = .left → fitted = text ++ List.replicate (w - l) 32) ∧
      (align = .right → fitted = List.replicate (w - l) 32 ++ text) ∧
      (align = .centre →
        fitted = List.replicate ((w - l) / 2) 32 ++ text ++ List.replicate (w - l - (w - l) / 2) 32)) := by
  intro fitted l
  have padded : l < w → fitted = padText align w text := fun shorter =>
    fitText_of_fits ellipsis align (Nat.le_of_lt shorter)
  refine ⟨length_fitText ellipsis align w text, fun longer wide => ?_, fun longer one => ?_, fun exact' => ?_,
    fun shorter => ⟨fun left => ?_, fun right => ?_, fun centre => ?_⟩⟩
  · exact (fitText_of_longer ellipsis align longer).trans (if_pos wide)
  · subst one
    exact (fitText_of_longer ellipsis align longer).trans (if_neg (by decide))
  · exact (fitText_of_fits ellipsis align (Nat.le_of_eq exact')).trans (padText_of_exact align exact')
  · subst left
    exact padded shorter
  · subst right
    exact padded shorter
  · subst centre
    exact padded shorter

/-- The text of each show kind (R143). -/
theorem fieldText_of_show_spec (st : Settings) (c : Clock) {src : RowSource} (pool : List Byte) (f : TemplateField)
    {w : Show} {t : Tally} {x : Title} (row : src.show? = some (w, t, x)) :
    let text := fieldText st c src pool f
    (f.kind = .title → text = x.text) ∧
    (f.kind = .rating → (∀ code, x.rating = some code → text = [code]) ∧ (x.rating = none → text = [])) ∧
    (f.kind = .auditorium → text = codes ['S', 'C', 'R', 'E', 'E', 'N', ' '] ++ digits w.auditorium) ∧
    (f.kind = .start → text = civilText st.timeForm (civilOf c.civilStart w.start)) ∧
    (f.kind = .ends → text = civilText st.timeForm (civilOf c.civilStart (w.start + w.runtime))) ∧
    (f.kind = .minutes → text = if (w.state = .listed ∨ w.state = .boarding) ∧ c.Counting then
      digits (min 999 (w.start - c.minute)) else []) ∧
    (f.kind = .seats → text = seatsLeft st w t) ∧
    (f.kind = .bandword →
      (t.band = .opened → text = []) ∧
      (t.band = .filling → text = codes ['F', 'I', 'L', 'L', 'I', 'N', 'G']) ∧
      (t.band = .few → text = codes ['F', 'E', 'W', ' ', 'L', 'E', 'F', 'T']) ∧
      (t.band = .soldOut → text = codes ['S', 'O', 'L', 'D', ' ', 'O', 'U', 'T'])) ∧
    (f.kind = .state →
      (w.state = .boarding → text = codes ['B', 'O', 'A', 'R', 'D', 'I', 'N', 'G']) ∧
      (w.state = .started → text = codes ['N', 'O', 'W', ' ', 'S', 'H', 'O', 'W', 'I', 'N', 'G']) ∧
      (w.state = .listed ∨ w.state = .retired → text = [])) ∧
    (f.kind = .badges → text.length = 2 * w.badges.length - 1 ∧
      ∀ i : Nat, text[2 * i]? = w.badges[i]? ∧ (i + 1 < w.badges.length → text[2 * i + 1]? = some 32)) := by
  intro text
  have of_kind : ∀ k : FieldKind, f.kind = k → (k ≠ .clock ∧ k ≠ .notice ∧ k ≠ .literal) →
      text = showFieldText st c k w t x := fun k kind shown => fieldText_of_show st c pool f row kind shown
  refine ⟨fun kind => of_kind .title kind (by decide), fun kind => ?rating,
    fun kind => of_kind .auditorium kind (by decide), fun kind => of_kind .start kind (by decide),
    fun kind => of_kind .ends kind (by decide), fun kind => ?minutes, fun kind => of_kind .seats kind (by decide),
    fun kind => ?bandword, fun kind => ?state, fun kind => ?badges⟩
  case rating =>
    rw [of_kind .rating kind (by decide)]
    exact ⟨fun code rated => congrArg Option.toList rated, fun unrated => congrArg Option.toList unrated⟩
  case minutes => rw [of_kind .minutes kind (by decide), showFieldText_minutes]
  case bandword =>
    rw [of_kind .bandword kind (by decide)]
    exact ⟨congrArg bandWord, congrArg bandWord, congrArg bandWord, congrArg bandWord⟩
  case state =>
    rw [of_kind .state kind (by decide)]
    exact ⟨congrArg stateWord, congrArg stateWord, fun k => k.elim (congrArg stateWord) (congrArg stateWord)⟩
  case badges =>
    rw [of_kind .badges kind (by decide)]
    exact ⟨length_intersperse_space w.badges, getElem?_intersperse_space w.badges⟩

/-- The text of each field kind, with a show and without one (R53, R143). -/
theorem fieldText_spec (st : Settings) (c : Clock) (src : RowSource) (pool : List Byte) (f : TemplateField) :
    let text := fieldText st c src pool f
    (f.kind = .clock →
      (c.Counting → text = civilText st.timeForm (civilOf c.civilStart c.minute)) ∧
      (¬ c.Counting → text = [45, 45, 58, 45, 45])) ∧
    (f.kind = .notice → text = src.notice) ∧
    (f.kind = .literal → text = (pool.drop f.runFirst).take f.runLength) ∧
    (f.kind ≠ .clock → f.kind ≠ .notice → f.kind ≠ .literal → src.show? = none → text = []) := by
  intro text
  refine ⟨fun kind => ?_, fun kind => ?_, fun kind => ?_, fun clock notice literal blank => ?_⟩
  · have clock : text = clockText st.timeForm c := by
      simp only [text, fieldText, kind]
    exact ⟨fun counting => clock.trans (clockText_of_counting counting _),
      fun still => clock.trans (clockText_of_still still _)⟩
  · simp only [text, fieldText, kind]
  · simp only [text, fieldText, kind]
  · exact (fieldText_of_show_kind st c src pool f clock notice literal).trans (by rw [blank])

/-- A row is its fitted fields side by side, padded or cut to the row width (R146). -/
theorem buildRow_spec (st : Settings) (c : Clock) (src : RowSource) (tpl : Template) (w : Nat) :
    let fields := (tpl.fields.map fun f => fitText st.ellipsis f.align f.width (fieldText st c src tpl.pool f)).flatten
    let row := buildRow st c src tpl w
    row.length = w ∧ (fields.length ≤ w → row = fields ++ List.replicate (w - fields.length) 32) ∧
      (w < fields.length → row = fields.take w) ∧ (tpl.fields = [] → row = List.replicate w 32) := by
  intro fields row
  have fitted : row = fitRow w fields := congrArg (fitRow w) List.flatMap_def
  have none : tpl.fields = [] → row = List.replicate w 32 := fun none => by
    simp only [row, buildRow, none, List.flatMap_nil]
    rw [fitRow_of_fits (Nat.zero_le w)]
    rfl
  exact ⟨fitted ▸ length_fitRow w fields, fun fits => fitted.trans (fitRow_of_fits fits),
    fun longer => fitted.trans (fitRow_of_longer longer), none⟩

/-- Digits give their number back, with no leading zero. -/
theorem digits_spec {n : Nat} (bound : n < 10000000000) :
    (digits n).foldl readDigit 0 = n ∧ (∀ b ∈ digits n, 48 ≤ b.toNat ∧ b.toNat ≤ 57) ∧
    (n ≠ 0 → (digits n).head? ≠ some 48) ∧ (n = 0 → digits n = [48]) := by
  have power : n < 10 ^ (9 + 1) := bound
  exact ⟨digitsUpTo_value 9 n power, digitsUpTo_range 9 n, fun nonzero => digitsUpTo_head 9 n nonzero power,
    fun zero => zero ▸ rfl⟩

/-- A civil time in both forms (R52). -/
theorem civilText_spec (civil v : Nat) :
    let minutes := (civil + v) % 1440
    ∃ a b c d : Byte, civilText .hour24 (civilOf civil v) = [a, b, 58, c, d] ∧
      (∀ x ∈ [a, b, c, d], 48 ≤ x.toNat ∧ x.toNat ≤ 57) ∧
      10 * (a.toNat - 48) + (b.toNat - 48) = minutes / 60 ∧ 10 * (c.toNat - 48) + (d.toNat - 48) = minutes % 60 ∧
      civilText .hour12 (civilOf civil v) =
        digits (if minutes / 60 % 12 = 0 then 12 else minutes / 60 % 12) ++ [58, c, d, 32] ++
          (if minutes / 60 < 12 then codes ['A', 'M'] else codes ['P', 'M']) ∧
      7 ≤ (civilText .hour12 (civilOf civil v)).length ∧ (civilText .hour12 (civilOf civil v)).length ≤ 8 := by
  intro minutes
  have day : minutes < 1440 := Nat.mod_lt _ (by decide)
  refine ⟨digit (minutes / 60 / 10), digit (minutes / 60), digit (minutes % 60 / 10), digit (minutes % 60), rfl, ?_,
    twoDigits_value (by omega), twoDigits_value (by omega), ?_, length_civilText_hour12 _⟩
  · simp only [List.forall_mem_cons]
    exact ⟨digit_range _, digit_range _, digit_range _, digit_range _, nofun⟩
  · simp only [civilText, twoDigits, List.append_assoc, List.cons_append, List.nil_append]
    rfl

/-- Settles O53: the laws of fitting, of the field kinds, of rows, of digits, of the seats-left figure and of civil times,
one for each part of the statement. -/
theorem fittedTexts : Obligations.FittedTexts := by
  unfold Obligations.FittedTexts
  refine ⟨fitText_spec, fun st c src pool f => ?_, buildRow_spec, fun _ => rfl, fun n bound => digits_spec bound,
    fun st w t seats => ?_, civilText_spec⟩
  · obtain ⟨clock, notice, literal, blank⟩ := fieldText_spec st c src pool f
    exact ⟨clock, notice, literal, blank, fun w t x row => fieldText_of_show_spec st c pool f row⟩
  · exact ⟨seatsLeft_of_closed, seatsLeft_of_none, seatsLeft_of_some, (length_seatsLeft seats).1,
      (length_seatsLeft seats).2, fun selling some => (length_seatsLeft_of_some seats selling some).2⟩

end Sys2Proof.Machine
end

section
/-! SUPPORT. A SALE as a function of the tally record, and what it does at the desk and at the report side (R84 to R93). -/

namespace Sys2Proof.Machine

/-! ### The tally and the desk after a SALE (R86 to R93) -/

/-- A tally after a SALE that passes the gate (R86 to R93). -/
def Tally.sold (st : Settings) (capacity : Nat) (delta : Int) (t : Tally) : Tally :=
  { (t.addNet delta).resized st capacity delta with lastOutcome := some (clampOutcome capacity (t.target delta)) }

section
variable (s : State) (x : Slot)

theorem State.seatMarkIfMoved_tally (before : Tally) : (s.seatMarkIfMoved x before).tally = s.tally := by
  unfold State.seatMarkIfMoved
  split
  · rfl
  · exact (s.seatMark_leaves x).blocks.tally (by simp)

theorem State.netStage_tally (d : Int) : (s.netStage x d).tally = (s.setTally x ((s.tallyOf x).addNet d)).tally :=
  State.clipLimitIf_tally _ _

/-- The stages from reconcile to departure write the slot's tally and no other part of the tally unit (R87 to R91). -/
theorem State.seatsToDeparture_tally (c : Nat) (w : Int) :
    (((s.seatStages x c w).bandStage x c).departureStage x).tally =
      (s.setTally x ((s.tallyOf x).resized s.settings c w)).tally := by
  have seats := s.seatStages_tally x c w
  have settings := (s.seatStages_leaves x c w).blocks.settings (by simp)
  rw [State.departureStage_tally]
  simp only [State.bandStage, State.setTally, State.tallyOf] at seats ⊢
  simp only [seats, settings, Table.read_write_same, Table.write_write]
  rfl

/-- Stages 4 to 10 of a SALE write the slot's tally and the desk's last slot and outcome (R86 to R93). -/
theorem State.saleApply_tally (k : Fin 16) (d : Int) : (s.saleApply k x d).tally =
    { tallies := s.tally.tallies.write x ((s.tallyOf x).sold s.settings (s.showOf x).capacity d)
      desks := s.tally.desks.write k { s.tally.desks.read k with
        lastSlot := some x, lastOutcome := some (clampOutcome (s.showOf x).capacity ((s.tallyOf x).target d)) } } := by
  have net := s.netStage_tally x d
  have settings := (s.netStage_leaves x d).blocks.settings (by simp)
  have seats := (s.netStage x d).seatsToDeparture_tally x (s.showOf x).capacity d
  rw [State.saleApply, State.seatMarkIfMoved_tally]
  simp only [State.saleFinish, State.setDesk, State.setTally, State.tallyOf] at net seats ⊢
  simp only [seats, net, settings, Table.read_write_same, Table.write_write]
  rfl

end

/-! ### The numbers of a SALE (R86 to R91) -/

theorem clampRemaining_toNat (capacity : Nat) (target : Int) :
    clampRemaining capacity target = (max 0 (min (capacity : Int) target)).toNat := by
  have := clampRemaining_eq capacity target
  omega

/-- A sum saturates exactly where keeping it in the limits changes it (R86, R89). -/
theorem saturates_eq {limit : Int} (z : Int) (h : 0 ≤ limit) :
    saturates limit z = decide (max (-limit) (min limit z) ≠ z) := by
  unfold saturates
  exact decide_eq_decide.mpr (by omega)

section
variable (st : Settings) (capacity : Nat) (d : Int) (t : Tally)

theorem Tally.clipSaturates_eq : t.clipSaturates capacity d =
    decide (t.mode = .reconcile ∧ max (-127) (min 127 (t.clipSum capacity d)) ≠ t.clipSum capacity d) := by
  unfold Tally.clipSaturates
  cases t.mode with
  | strict => simp
  | reconcile => simpa using saturates_eq (t.clipSum capacity d) (by decide : (0 : Int) ≤ 127)

/-- The numbers of a sold tally, from the target and the clip's sum of the tally before it (R86 to R91). -/
theorem Tally.sold_eq :
    let remaining := max 0 (min (capacity : Int) (t.target d))
    let clip := if t.mode = .strict then 0 else max (-127) (min 127 (t.clipSum capacity d))
    let net := max (-9999) (min 9999 (t.net + d))
    let band := bandOf st capacity remaining.toNat
    t.sold st capacity d =
      { remaining := remaining.toNat, clip := clip, net := net, mode := t.mode,
        unbalanced := t.unbalanced || decide (net ≠ t.net + d ∨ (t.mode = .reconcile ∧ clip ≠ t.clipSum capacity d)),
        band := band, acked := t.acked, departed := decide (band ≠ t.acked),
        lastOutcome := some (clampOutcome capacity (t.target d)) } := by
  intro remaining clip net band
  have seats : clampRemaining capacity ((t.addNet d).target d) = remaining.toNat :=
    clampRemaining_toNat capacity (t.target d)
  have clip' : ((t.addNet d).resized st capacity d).clip = clip := (t.addNet d).resized_clip d st capacity
  have net' : (t.addNet d).net = net := saturate_eq 9999 _ (by decide)
  have lost : ((t.addNet d).resized st capacity d).unbalanced =
      (t.unbalanced || decide (net ≠ t.net + d ∨ (t.mode = .reconcile ∧ clip ≠ t.clipSum capacity d))) := by
    have sum : (t.addNet d).clipSaturates capacity d = t.clipSaturates capacity d := rfl
    change ((t.unbalanced || saturates 9999 (t.net + d)) || (t.addNet d).clipSaturates capacity d) = _
    rw [sum, t.clipSaturates_eq, saturates_eq _ (by decide), Bool.or_assoc, ← Bool.decide_or]
    congr 1
    refine decide_eq_decide.mpr (or_congr Iff.rfl (and_congr_right fun mode => ?_))
    simp only [clip, mode, reduceCtorEq, if_false]
  have band' : ((t.addNet d).resized st capacity d).band = band := congrArg (bandOf st capacity) seats
  rw [Tally.sold, Tally.mk.injEq]
  exact ⟨seats, clip', net', rfl, lost, band', rfl, congrArg (fun b => decide (b ≠ t.acked)) band', rfl⟩

end

/-! ### The report side of a SALE (R86, R89, R91, R92) -/

/-- A flag that is set queues one STATUS report at most (R30, R32). -/
theorem ReportUnit.setFlag_length (v : StatusView) (f : AttentionFlag) {r : ReportUnit} (q : r.Quiet) :
    (r.setFlag v f).queue.length ≤ r.queue.length + 1 := by
  unfold ReportUnit.setFlag
  split
  · exact Nat.le_succ _
  · dsimp only
    split
    · rw [ReportUnit.queueStatus_of_quiet v (r := { r with flags := f.setIn r.flags }) q]
      split
      · exact Nat.le_succ _
      · split
        · simp
        · exact Nat.le_succ _
    · exact Nat.le_succ _

/-- A flag that is set already is not set again (R30). -/
theorem ReportUnit.setFlag_of_isIn (v : StatusView) {f : AttentionFlag} {r : ReportUnit} (h : f.isIn r.flags = true) :
    r.setFlag v f = r := if_pos h

/-- CLIP_LIMIT, set once or not at all, has queued one report at most beyond a number. -/
def ReportUnit.ClipRoom (n : Nat) (r : ReportUnit) : Prop :=
  r.queue.length ≤ n ∨ (r.queue.length ≤ n + 1 ∧ AttentionFlag.clipLimit.isIn r.flags = true)

section
variable {s : State} (q : s.rep.Quiet)
include q

theorem State.clipLimitIf_room {n : Nat} (h : s.rep.ClipRoom n) (b : Bool) : (s.clipLimitIf b).rep.ClipRoom n := by
  unfold State.clipLimitIf
  split
  · rw [State.setFlag_rep]
    obtain room | ⟨more, flag⟩ := h
    · exact .inr ⟨(ReportUnit.setFlag_length _ _ q).trans (Nat.succ_le_succ room), ReportUnit.setFlag_isIn _ _ q⟩
    · rw [ReportUnit.setFlag_of_isIn _ flag]
      exact .inr ⟨more, flag⟩
  · exact h

theorem State.clipLimitIf_flag : AttentionFlag.clipLimit.isIn (s.clipLimitIf true).rep.flags = true :=
  ReportUnit.setFlag_isIn _ _ q

/-- A band that departs sets BAND, and its ALERT is queued where there is room (R91, R92). -/
theorem State.departureStage_alert {x : Slot} (moved : (s.tallyOf x).band ≠ (s.tallyOf x).acked)
    (first : (s.tallyOf x).departed = false) :
    AttentionFlag.band.isIn (s.departureStage x).rep.flags = true ∧
    (s.rep.queue.length < 16 →
      Report.alert x (s.tallyOf x).acked (s.tallyOf x).band (s.tallyOf x).remaining ∈ (s.departureStage x).rep.queue) := by
  have marked : (s.setTally x { s.tallyOf x with departed := true }).rep.Quiet := q
  have queued := (State.queueReport_leaves
    (.alert x (s.tallyOf x).acked (s.tallyOf x).band (s.tallyOf x).remaining) _).quiet marked
  rw [State.departureStage, if_neg moved, if_neg (by simp [first]), State.setFlag_rep]
  refine ⟨ReportUnit.setFlag_isIn _ _ queued, fun room => ?_⟩
  refine (ReportUnit.setFlag_grown _ _ queued).queue.subset ?_
  rw [State.queueReport_rep, ReportUnit.queueReport_of_room _ _ marked room]
  exact List.mem_append_right _ (List.mem_singleton_self _)

end

/-- The state of a SALE at its departure stage: the seats have moved and the band is taken (R86 to R90). -/
def State.banded (s : State) (x : Slot) (d : Int) : State :=
  ((s.netStage x d).seatStages x (s.showOf x).capacity d).bandStage x (s.showOf x).capacity

section
variable (s : State) (x : Slot) (k : Fin 16) (d : Int)

theorem State.banded_leaves : s.Leaves [.rep, .tally, .fmt] (s.banded x d) :=
  ((s.netStage_leaves x d).trans (State.seatStages_leaves _ x _ d)).trans (State.bandStage_leaves _ x _)

theorem State.banded_leaves_saleApply : (s.banded x d).Leaves [.rep, .tally, .fmt] (s.saleApply k x d) :=
  ((State.departureStage_leaves _ x).trans (State.saleFinish_leaves _ k x _)).trans (State.seatMarkIfMoved_leaves _ x _)

theorem State.departed_leaves_saleApply :
    ((s.banded x d).departureStage x).Leaves [.rep, .tally, .fmt] (s.saleApply k x d) :=
  (State.saleFinish_leaves _ k x _).trans (State.seatMarkIfMoved_leaves _ x _)

/-- The departure stage finds the sold tally, with departed as the SALE found it (R91). -/
theorem State.banded_tallyOf : (s.banded x d).tallyOf x =
    { (s.tallyOf x).sold s.settings (s.showOf x).capacity d with
      departed := (s.tallyOf x).departed, lastOutcome := (s.tallyOf x).lastOutcome } := by
  have net := s.netStage_tally x d
  have settings := (s.netStage_leaves x d).blocks.settings (by simp)
  have settings' := ((s.netStage x d).seatStages_leaves x (s.showOf x).capacity d).blocks.settings (by simp)
  have seats := (s.netStage x d).seatStages_tally x (s.showOf x).capacity d
  simp only [State.banded, State.bandStage, State.setTally, State.tallyOf] at net seats ⊢
  simp only [seats, net, settings', settings, Table.read_write_same]
  rfl

variable {s} (q : s.rep.Quiet)
include q

/-- A net or a clip that saturates in a SALE sets CLIP_LIMIT (R86, R89). -/
theorem State.saleApply_clipLimit (h : saturates 9999 ((s.tallyOf x).net + d) = true ∨
      (s.tallyOf x).clipSaturates (s.showOf x).capacity d = true) :
    AttentionFlag.clipLimit.isIn (s.saleApply k x d).rep.flags = true := by
  have quiet := (s.netStage_leaves x d).quiet q
  have later := (State.bandStage_leaves ((s.netStage x d).seatStages x (s.showOf x).capacity d) x
    (s.showOf x).capacity).trans (s.banded_leaves_saleApply x k d)
  have seats := (s.netStage x d).seatStages_leaves x (s.showOf x).capacity d
  refine later.flag (seats.quiet quiet) ?_
  obtain net | clip := h
  · refine seats.flag quiet ?_
    rw [State.netStage, net]
    exact State.clipLimitIf_flag (s := s.setTally x _) q
  · have found : ((s.netStage x d).tallyOf x).clipSaturates (s.showOf x).capacity d = true := by
      rw [State.tallyOf, s.netStage_tally x d, State.setTally_tallies, Table.read_write_same]
      exact clip
    rw [State.seatStages, found]
    exact State.clipLimitIf_flag (s := (s.netStage x d).setTally x _) quiet

/-- Before its ALERT, a SALE queues one report at most. -/
theorem State.banded_room : (s.banded x d).rep.queue.length ≤ s.rep.queue.length + 1 := by
  have net : (s.netStage x d).rep.ClipRoom s.rep.queue.length :=
    State.clipLimitIf_room (s := s.setTally x _) q (.inl (Nat.le_refl _)) _
  have quiet := (s.netStage_leaves x d).quiet q
  have seats : (s.banded x d).rep.ClipRoom s.rep.queue.length :=
    State.clipLimitIf_room (s := (s.netStage x d).setTally x _) quiet net _
  exact seats.elim Nat.le_succ_of_le And.left

/-- A SALE that takes the band away from the acknowledged one, where it had not departed, sets BAND and queues an ALERT where
there is room (R91, R92). -/
theorem State.saleApply_alert (first : (s.tallyOf x).departed = false)
    (moved : ((s.tallyOf x).sold s.settings (s.showOf x).capacity d).band ≠ (s.tallyOf x).acked) :
    AttentionFlag.band.isIn (s.saleApply k x d).rep.flags = true ∧
    (s.rep.queue.length < 15 →
      Report.alert x (s.tallyOf x).acked ((s.tallyOf x).sold s.settings (s.showOf x).capacity d).band
        ((s.tallyOf x).sold s.settings (s.showOf x).capacity d).remaining ∈ (s.saleApply k x d).rep.queue) := by
  have quiet := (s.banded_leaves x d).quiet q
  have later := s.departed_leaves_saleApply x k d
  have quiet' := (State.departureStage_leaves _ x).quiet quiet
  have tally := s.banded_tallyOf x d
  obtain ⟨flag, alert⟩ := State.departureStage_alert quiet (x := x) (tally ▸ moved) (tally ▸ first)
  rw [tally] at alert
  refine ⟨later.flag quiet' flag, fun room => (later.reports quiet').queue.subset (alert ?_)⟩
  have := State.banded_room x d q
  omega

end

end Sys2Proof.Machine
end

section
/-! SUPPORT. The checks of a SALE and a SALE applied (R84 to R93). -/

namespace Sys2Proof.Machine

section
variable {s : State} {tag : Byte} {k : Fin 16} {g : Bool} {x : Slot} {d : Int}

/-- A SALE whose fields are in range goes to the desk check (R83). -/
theorem exec_sale (s : State) (tag : Byte) (k : Fin 16) (g : Fin 2) (x : Slot) (delta : Byte) :
    exec (.sale tag [BitVec.ofNat 8 k.val, BitVec.ofNat 8 g.val, BitVec.ofNat 8 x.val, delta]) s =
      .next (s.consumeSpan.takeSale tag k (g == 1) x delta.toInt) := by
  change Host.Outcome.next (s.consumeSpan.sale tag _) = _
  simp only [State.sale, fin?_ofNat k (by decide), fin?_ofNat g (by decide), fin?_ofNat x (by decide)]

/-! ### The desk check (R84) -/

/-- A desk's record with the toggle of a new transaction (R84). -/
def State.toggled (s : State) (k : Fin 16) (g : Bool) : State :=
  s.setDesk k { s.tally.desks.read k with toggle := some g }

/-- A SALE that passes the gate, with its desk check, at the tally unit (R84 to R93). -/
theorem State.toggled_saleApply_tally (s : State) (k : Fin 16) (g : Bool) (x : Slot) (d : Int) :
    ((s.toggled k g).saleApply k x d).tally =
      { tallies := s.tally.tallies.write x ((s.tallyOf x).sold s.settings (s.showOf x).capacity d)
        desks := s.tally.desks.write k { s.tally.desks.read k with
          toggle := some g, lastSlot := some x,
          lastOutcome := some (clampOutcome (s.showOf x).capacity ((s.tallyOf x).target d)) } } := by
  rw [State.saleApply_tally]
  simp only [State.toggled, State.setDesk_desks, Table.read_write_same, Table.write_write]
  rfl

theorem State.takeSale_of_repeat (same : (s.tally.desks.read k).toggle = some g) :
    s.takeSale tag k g x d = s.saleRepeat k x := if_pos same

theorem State.takeSale_of_refused {reason : Reason} (new : (s.tally.desks.read k).toggle ≠ some g)
    (gate : s.saleGate x = some reason) :
    s.takeSale tag k g x d = (s.toggled k g).refuseKind .sale tag reason := by
  have gate' : (s.setDesk k { s.tally.desks.read k with toggle := some g }).saleGate x = some reason := gate
  rw [State.takeSale, if_neg new]
  dsimp only
  rw [gate']
  rfl

theorem State.takeSale_of_passed (new : (s.tally.desks.read k).toggle ≠ some g) (gate : s.saleGate x = none) :
    s.takeSale tag k g x d = (s.toggled k g).saleApply k x d := by
  have gate' : (s.setDesk k { s.tally.desks.read k with toggle := some g }).saleGate x = none := gate
  rw [State.takeSale, if_neg new]
  dsimp only
  rw [gate']
  rfl

theorem State.saleRepeat_eq (s : State) (k : Fin 16) (x : Slot) : s.saleRepeat k x = { s with tally :=
    { tallies := if (s.showOf x).state = .vacant then s.tally.tallies
        else s.tally.tallies.write x { s.tallyOf x with lastOutcome := some .repeated }
      desks := s.tally.desks.write k { s.tally.desks.read k with
        repeats := min 255 ((s.tally.desks.read k).repeats + 1), lastOutcome := some .repeated } } } := by
  unfold State.saleRepeat
  dsimp only
  by_cases vacant : (s.showOf x).state = .vacant
  · rw [if_neg (mt (s.occupied_iff x).mp (not_not.mpr vacant)), if_pos vacant]
    rfl
  · rw [if_pos ((s.occupied_iff x).mpr vacant), if_neg vacant]
    rfl

/-! ### The gate (R85) -/

theorem State.saleGate_of_unset (unset : s.clock.state = .unset) : s.saleGate x = some .dayClosed := if_pos unset

theorem State.saleGate_of_gone (isOpen : s.clock.state ≠ .unset)
    (gone : (s.showOf x).state = .vacant ∨ (s.showOf x).state = .retired) : s.saleGate x = some .noShow :=
  (if_neg isOpen).trans (if_pos gone)

theorem State.saleGate_of_live (isOpen : s.clock.state ≠ .unset)
    (live : ¬ ((s.showOf x).state = .vacant ∨ (s.showOf x).state = .retired)) :
    s.saleGate x = if (s.showOf x).salesClosed = true then some .salesClosed else none :=
  (if_neg isOpen).trans (if_neg live)

end

section
variable {s : State} {tag : Byte} {k : Fin 16} {g : Fin 2} {x : Slot} {delta : Byte}

/-- What a SALE that the gate refuses does: the refusal, and the toggle at the desk (R84, R85). -/
theorem exec_sale_refused {reason : Reason} (new : (s.tally.desks.read k).toggle ≠ some (g == 1))
    (gate : s.saleGate x = some reason) :
    ∃ t, exec (.sale tag [BitVec.ofNat 8 k.val, BitVec.ofNat 8 g.val, BitVec.ofNat 8 x.val, delta]) s = .next t ∧
      t.dir = { s.dir with
        span := none, refusalCount := min 65535 (s.dir.refusalCount + 1)
        lastRefusal := some { kind := 0x10, tag := tag, reason := reason } } ∧
      (s.rep.Quiet → AttentionFlag.refused.isIn t.rep.flags = true ∧ s.rep.GrownFrom t.rep) ∧
      t.tally = { s.tally with
        desks := s.tally.desks.write k { s.tally.desks.read k with toggle := some (g == 1) } } ∧
      SameBut [.dir, .rep, .tally] s t := by
  have refused := (s.toggled k (g == 1)).refuseKind_refused .sale tag reason
  refine ⟨_, (exec_sale s tag k g x delta).trans (congrArg _ (State.takeSale_of_refused (s := s.consumeSpan) new gate)),
    refused.dir, fun quiet => ⟨refused.flag quiet, refused.reports quiet⟩, refused.blocks.tally (by simp), ?_⟩
  exact SameBut.trans (t := s.toggled k (g == 1)) (by constructor <;> simp [State.toggled]) (refused.blocks.mono (by simp))

/-- What a SALE that passes the gate does (R86 to R93). -/
theorem exec_sale_passed (new : (s.tally.desks.read k).toggle ≠ some (g == 1)) (gate : s.saleGate x = none) :
    exec (.sale tag [BitVec.ofNat 8 k.val, BitVec.ofNat 8 g.val, BitVec.ofNat 8 x.val, delta]) s =
      .next ((s.consumeSpan.toggled k (g == 1)).saleApply k x delta.toInt) :=
  (exec_sale s tag k g x delta).trans (congrArg _ (State.takeSale_of_passed (s := s.consumeSpan) new gate))

/-- A SALE that passes the gate, in the terms of the sold tally (R84 to R93). -/
theorem exec_sale_applied (new : (s.tally.desks.read k).toggle ≠ some (g == 1)) (gate : s.saleGate x = none) :
    let old := s.tallyOf x
    let sold := old.sold s.settings (s.showOf x).capacity delta.toInt
    ∃ t, exec (.sale tag [BitVec.ofNat 8 k.val, BitVec.ofNat 8 g.val, BitVec.ofNat 8 x.val, delta]) s = .next t ∧
      t.tallyOf x = sold ∧ (∀ y : Slot, y ≠ x → t.tallyOf y = s.tallyOf y) ∧
      t.tally.desks.read k = { s.tally.desks.read k with
        toggle := some (g == 1), lastSlot := some x, lastOutcome := sold.lastOutcome } ∧
      (∀ j : Fin 16, j ≠ k → t.tally.desks.read j = s.tally.desks.read j) ∧
      (s.rep.Quiet →
        (saturates 9999 (old.net + delta.toInt) = true ∨ old.clipSaturates (s.showOf x).capacity delta.toInt = true →
          AttentionFlag.clipLimit.isIn t.rep.flags = true) ∧
        (old.departed = false → sold.band ≠ old.acked → AttentionFlag.band.isIn t.rep.flags = true ∧
          (s.rep.queue.length < 15 → Report.alert x old.acked sold.band sold.remaining ∈ t.rep.queue))) ∧
      t.dir = { s.dir with span := none } ∧
      s.Leaves [.dir, .rep, .tally, .fmt] t := by
  intro old sold
  have tally := s.consumeSpan.toggled_saleApply_tally k (g == 1) x delta.toInt
  have leaves := (s.consumeSpan.toggled k (g == 1)).saleApply_leaves k x delta.toInt
  have toggled : s.consumeSpan.Leaves [.rep, .tally, .fmt] (s.consumeSpan.toggled k (g == 1)) :=
    .of_same (by constructor <;> simp [State.toggled]) rfl rfl
  refine ⟨_, exec_sale_passed new gate, ?_, fun y other => ?_, ?_, fun j other => ?_,
    fun quiet => ⟨State.saleApply_clipLimit (s := s.consumeSpan.toggled k (g == 1)) x k _ quiet,
      State.saleApply_alert (s := s.consumeSpan.toggled k (g == 1)) x k _ quiet⟩,
    leaves.blocks.dir (by simp), (toggled.trans leaves).of_consumeSpan.mono (by simp)⟩
  · rw [State.tallyOf, tally]
    exact Table.read_write_same _ _ _
  · rw [State.tallyOf, tally]
    exact Table.read_write_other _ _ other
  · rw [tally]
    exact Table.read_write_same _ _ _
  · rw [tally]
    exact Table.read_write_other _ _ other

end

/-- Settles O49: the desk check, then the first test of the gate that fails. -/
theorem saleChecks : Obligations.SaleChecks := by
  unfold Obligations.SaleChecks
  refine ⟨fun s tag k g x delta => ⟨fun same => ?_, fun new => ?_⟩, fun s tag k g x delta new => ?_⟩
  · rw [exec_sale, State.takeSale_of_repeat (s := s.consumeSpan) same, State.saleRepeat_eq]
    rfl
  · cases gate : s.saleGate x with
    | some reason =>
      obtain ⟨t, run, dir, _, tally, _⟩ := exec_sale_refused (tag := tag) (delta := delta) new gate
      have desk : t.tally.desks.read k = { s.tally.desks.read k with toggle := some (g == 1) } := by
        rw [tally]
        exact Table.read_write_same _ _ _
      refine ⟨t, run, by rw [desk], by rw [desk], fun j other => ?_, fun unset => ?_⟩
      · rw [tally]
        exact Table.read_write_other _ _ other
      · rw [State.saleGate_of_unset unset] at gate
        cases gate
        rw [dir]
    | none =>
      obtain ⟨t, run, _, _, desk, desks, _⟩ := exec_sale_applied (tag := tag) (delta := delta) new gate
      refine ⟨t, run, by rw [desk], by rw [desk], desks, fun unset => ?_⟩
      rw [State.saleGate_of_unset unset] at gate
      cases gate
  · refine ⟨fun unset => exec_sale_refused new (State.saleGate_of_unset unset),
      fun isOpen gone => exec_sale_refused new (State.saleGate_of_gone isOpen gone),
      fun isOpen live closed => exec_sale_refused new ((State.saleGate_of_live isOpen live).trans (if_pos closed)),
      fun isOpen live selling => ?_⟩
    have gate : s.saleGate x = none := (State.saleGate_of_live isOpen live).trans (if_neg (by simp [selling]))
    obtain ⟨t, run, record, _, desk, _⟩ := exec_sale_applied (tag := tag) (delta := delta) new gate
    exact ⟨t, run, by rw [desk], by rw [record, Tally.sold_eq]⟩

/-- Settles O48: the stages as one function of the tally record, whose numbers are those of the statement. -/
theorem saleApplied : Obligations.SaleApplied := by
  unfold Obligations.SaleApplied
  intro s tag k g x delta new isOpen occupied unretired selling
  have gate : s.saleGate x = none :=
    (State.saleGate_of_live isOpen (not_or.mpr ⟨occupied, unretired⟩)).trans (if_neg (by simp [selling]))
  intro old cap d absorbed clip target remaining clipSum clip' netSum net' unbalanced band outcome
  have target_eq : old.target d = target := old.target_eq d
  have clipSum_eq : old.clipSum (s.showOf x).capacity d = clipSum := by
    rw [Tally.clipSum_eq, target_eq]
    rfl
  have band_eq : bandOf s.settings (s.showOf x).capacity remaining.toNat = band :=
    bandOf_eq s.settings (by omega) (by omega)
  have sold : old.sold s.settings (s.showOf x).capacity d =
      { remaining := remaining.toNat, clip := clip', net := net', mode := old.mode,
        unbalanced := old.unbalanced || unbalanced, band := band, acked := old.acked,
        departed := decide (band ≠ old.acked), lastOutcome := some outcome } := by
    rw [← band_eq]
    refine (old.sold_eq s.settings (s.showOf x).capacity d).trans ?_
    rw [target_eq, clipSum_eq]
    rfl
  have saturated : unbalanced = true → saturates 9999 (old.net + d) = true ∨
      old.clipSaturates (s.showOf x).capacity d = true := fun lost => by
    obtain net | ⟨mode, clip⟩ := of_decide_eq_true lost
    · exact .inl ((saturates_eq _ (by decide)).trans (decide_eq_true net))
    · refine .inr ((old.clipSaturates_eq _ d).trans (decide_eq_true ⟨mode, ?_⟩))
      rw [clipSum_eq]
      simpa only [clip', mode, reduceCtorEq, if_false] using clip
  obtain ⟨t, run, record, others, desk, desks, reports, dir, leaves⟩ :=
    exec_sale_applied (tag := tag) (delta := delta) new gate
  rw [show (s.tallyOf x).sold s.settings (s.showOf x).capacity delta.toInt = _ from sold] at record desk reports
  refine ⟨t, run, record, others, desk, desks, fun quiet => ?_, dir, leaves⟩
  obtain ⟨clipLimit, alert⟩ := reports quiet
  exact ⟨fun lost => clipLimit (saturated lost), fun moved first => alert first moved⟩

end Sys2Proof.Machine
end

section
/-! SUPPORT. ACKNOWLEDGE BAND, and a WRITE ENTRY at TALLY with its image (R80, R95, R99, R100, R180, R182, R184; log 14). -/

namespace Sys2Proof.Machine

/-! ### Codes and signed fields in an image (R180, R182) -/

theorem Band.ofCode_eq_none : ∀ {k : Nat}, 3 < k → Band.ofCode k = none
  | 0, h | 1, h | 2, h | 3, h => absurd h (by decide)
  | _ + 4, _ => rfl

theorem Band.ofCode_of_le : ∀ {k : Nat}, k ≤ 3 → ∃ b, Band.ofCode k = some b ∧ k = b.code
  | 0, _ => ⟨.opened, rfl, rfl⟩
  | 1, _ => ⟨.filling, rfl, rfl⟩
  | 2, _ => ⟨.few, rfl, rfl⟩
  | 3, _ => ⟨.soldOut, rfl, rfl⟩
  | _ + 4, h => absurd h (by omega)

theorem TallyMode.ofCode_eq_none : ∀ {k : Nat}, 1 < k → TallyMode.ofCode k = none
  | 0, h | 1, h => absurd h (by decide)
  | _ + 2, _ => rfl

theorem TallyMode.ofCode_of_le : ∀ {k : Nat}, k ≤ 1 → ∃ m, TallyMode.ofCode k = some m ∧ k = m.code
  | 0, _ => ⟨.strict, rfl, rfl⟩
  | 1, _ => ⟨.reconcile, rfl, rfl⟩
  | _ + 2, h => absurd h (by omega)

theorem outcomeOfCode_eq_none : ∀ {k : Nat}, 4 < k → outcomeOfCode k = none
  | 0, h | 1, h | 2, h | 3, h | 4, h => absurd h (by decide)
  | _ + 5, _ => rfl

theorem outcomeOfCode_of_le : ∀ {k : Nat}, k ≤ 4 → ∃ o, outcomeOfCode k = some o ∧ k = outcomeCode o
  | 0, _ => ⟨none, rfl, rfl⟩
  | 1, _ => ⟨some .applied, rfl, rfl⟩
  | 2, _ => ⟨some .clampedLow, rfl, rfl⟩
  | 3, _ => ⟨some .clampedHigh, rfl, rfl⟩
  | 4, _ => ⟨some .repeated, rfl, rfl⟩
  | _ + 5, h => absurd h (by omega)

theorem signedHalf_eq_signedField (hi lo : Byte) : signedHalf hi lo = signedField hi lo := by
  have word : (hi ++ lo : BitVec 16).toNat = half hi lo := by
    rw [BitVec.toNat_append, ← Nat.shiftLeft_add_eq_or_of_lt lo.isLt, Nat.shiftLeft_eq]
    rfl
  unfold signedHalf signedField
  rw [BitVec.toInt_eq_toNat_cond, word]
  have := half_le hi lo
  split <;> split <;> omega

/-- The one byte below −127 is 80h (R80, R180). -/
theorem toInt_lt_iff (b : Byte) : b.toInt < -127 ↔ b.toNat = 128 := by
  have := b.isLt
  rw [BitVec.toInt_eq_toNat_cond]
  split <;> omega

/-! ### The TALLY image (R80, R100, R184) -/

section
variable {capacity : Nat} {img : List Byte}

/-- The four codes of a TALLY image are assigned (R182). -/
def TallyCodes (img : List Byte) : Prop :=
  (imageByte img 5).toNat ≤ 1 ∧ (imageByte img 7).toNat ≤ 3 ∧ (imageByte img 8).toNat ≤ 3 ∧ (imageByte img 9).toNat ≤ 4

theorem tallyOfImage_of_unassigned (codes : ¬ TallyCodes img) : tallyOfImage capacity img = none := by
  unfold TallyCodes at codes
  simp only [not_and_or, not_le] at codes
  unfold tallyOfImage
  obtain mode | band | acked | outcome := codes
  · simp [TallyMode.ofCode_eq_none mode]
  · simp [Band.ofCode_eq_none band]
  · simp [Band.ofCode_eq_none acked]
  · simp [outcomeOfCode_eq_none outcome]

/-- The number fields and the flag bits of a TALLY image are in their ranges at a capacity (R80; log 14). -/
abbrev TallyNumbers (capacity : Nat) (img : List Byte) : Prop :=
  half (imageByte img 0) (imageByte img 1) ≤ capacity ∧ -127 ≤ (imageByte img 2).toInt ∧
    (-9999 ≤ signedHalf (imageByte img 3) (imageByte img 4) ∧ signedHalf (imageByte img 3) (imageByte img 4) ≤ 9999) ∧
    (imageByte img 6).toNat ≤ 3

theorem tallyOfImage_of_codes (codes : TallyCodes img) :
    (¬ TallyNumbers capacity img → tallyOfImage capacity img = none) ∧
    (TallyNumbers capacity img → ∃ r, tallyOfImage capacity img = some r ∧ r.SpelledBy img) := by
  obtain ⟨mode5, band7, acked8, outcome9⟩ := codes
  obtain ⟨mode, mode', code5⟩ := TallyMode.ofCode_of_le mode5
  obtain ⟨band, band', code7⟩ := Band.ofCode_of_le band7
  obtain ⟨acked, acked', code8⟩ := Band.ofCode_of_le acked8
  obtain ⟨outcome, outcome', code9⟩ := outcomeOfCode_of_le outcome9
  unfold tallyOfImage
  dsimp only
  rw [mode', band', acked', outcome']
  refine ⟨fun out => if_neg out, fun within => ⟨_, if_pos within, ?_⟩⟩
  have bits := within.2.2.2
  refine ⟨rfl, rfl, (signedHalf_eq_signedField _ _).symm, code5, ?_, ⟨code7, code8⟩, code9⟩
  simp only [decide_eq_true_eq]
  split <;> split <;> omega

theorem badTallyImage_iff : BadTallyImage capacity img ↔ ¬ (TallyCodes img ∧ TallyNumbers capacity img) := by
  have clip := toInt_lt_iff (imageByte img 2)
  unfold BadTallyImage TallyCodes TallyNumbers
  rw [signedHalf_eq_signedField]
  dsimp only
  omega

theorem tallyOfImage_of_bad (bad : BadTallyImage capacity img) : tallyOfImage capacity img = none := by
  by_cases codes : TallyCodes img
  · exact (tallyOfImage_of_codes codes).1 fun numbers => badTallyImage_iff.mp bad ⟨codes, numbers⟩
  · exact tallyOfImage_of_unassigned codes

theorem tallyOfImage_of_good (good : ¬ BadTallyImage capacity img) :
    ∃ r, tallyOfImage capacity img = some r ∧ r.SpelledBy img := by
  obtain ⟨codes, numbers⟩ := not_not.mp (mt badTallyImage_iff.mpr good)
  exact (tallyOfImage_of_codes codes).2 numbers

end

/-! ### ACKNOWLEDGE BAND (R95) -/

section
variable {s : State} {tag : Byte} {x : Slot}

theorem exec_acknowledgeBand (s : State) (tag : Byte) (x : Slot) {code : Byte} {b : Band}
    (band : Band.ofCode code.toNat = some b) :
    exec (.acknowledgeBand tag [BitVec.ofNat 8 x.val, code]) s = .next (s.consumeSpan.acknowledge tag x b) := by
  change Host.Outcome.next (s.consumeSpan.acknowledgeBand tag _) = _
  simp only [State.acknowledgeBand, fin?_ofNat x (by decide), band]

theorem State.acknowledgeBand_of_range {slot code : Byte} (out : 95 < slot.toNat ∨ 3 < code.toNat) :
    s.acknowledgeBand tag [slot, code] = s.refuseKind .acknowledgeBand tag .badField := by
  obtain slot' | code' := out
  · simp only [State.acknowledgeBand, fin?_eq_none (n := 96) slot']
  · rw [State.acknowledgeBand, Band.ofCode_eq_none code']
    cases fin? 96 slot.toNat <;> rfl

/-! ### A WRITE ENTRY at TALLY (R99, R100) -/

theorem exec_writeEntryTally {img : List Byte} (cursor : s.dir.cursor = { table := .tally, index := some x.val })
    (length : img.length = 10) :
    exec (.writeEntryTally tag img) s = .next (s.consumeSpan.writeTally tag x img) := by
  have at' : s.consumeSpan.dir.cursor = { table := .tally, index := some x.val } := cursor
  have entry : fin? 96 x.val = some x := dif_pos x.isLt
  have write : s.consumeSpan.writeEntry tag img = s.consumeSpan.writeTally tag x img := by
    rw [State.writeEntry, at']
    dsimp only
    rw [if_neg (by decide), if_pos (show img.length = TableName.tally.imageLength from length)]
    simp only [State.writeAt, State.atEntry, entry]
  exact congrArg Host.Outcome.next write

theorem State.writeTally_of_bad {img : List Byte} (bad : tallyOfImage (s.showOf x).capacity img = none) :
    s.writeTally tag x img = s.refuseKind .writeEntry tag .badField := by
  rw [State.writeTally, bad]

theorem State.writeTally_of_refused {img : List Byte} {r : Tally} {reason : Reason}
    (image : tallyOfImage (s.showOf x).capacity img = some r) (refusal : s.tallyWriteRefusal x r = some reason) :
    s.writeTally tag x img = s.refuseKind .writeEntry tag reason := by
  rw [State.writeTally, image]
  dsimp only
  rw [refusal]

theorem State.writeTally_of_taken {img : List Byte} {r : Tally}
    (image : tallyOfImage (s.showOf x).capacity img = some r) (taken : s.tallyWriteRefusal x r = none) :
    s.writeTally tag x img = (s.changeMode x r.mode).advanceCursor := by
  rw [State.writeTally, image]
  dsimp only
  rw [taken]

theorem State.modeOpen_iff : s.modeOpen x = true ↔
    ((s.showOf x).state = .listed ∨ (s.showOf x).state = .boarding) ∧ (s.showOf x).salesClosed = false := by
  simp [State.modeOpen, ShowState.upcoming_iff]

theorem State.tallyWriteRefusal_of_equal {r : Tally} (equal : { r with mode := (s.tallyOf x).mode } = s.tallyOf x) :
    s.tallyWriteRefusal x r = if s.modeOpen x = true then none else some .showLive := if_neg (not_not.mpr equal)

theorem State.tallyWriteRefusal_of_differing {r : Tally} (differs : { r with mode := (s.tallyOf x).mode } ≠ s.tallyOf x) :
    s.tallyWriteRefusal x r = some .readOnly := if_pos differs

/-- A WRITE ENTRY at TALLY that is refused (R19, R100). -/
theorem exec_writeEntryTally_refused {img : List Byte} {r : Tally} {reason : Reason}
    (cursor : s.dir.cursor = { table := .tally, index := some x.val }) (length : img.length = 10)
    (image : tallyOfImage (s.showOf x).capacity img = some r) (refusal : s.tallyWriteRefusal x r = some reason) :
    ∃ t, exec (.writeEntryTally tag img) s = .next t ∧ s.Refused t 0x31 tag reason :=
  ⟨_, (exec_writeEntryTally cursor length).trans
    (congrArg _ (State.writeTally_of_refused (s := s.consumeSpan) image refusal)),
    s.refuseKind_refused .writeEntry tag reason⟩

end

/-- Settles O50: the acknowledgement by the slot's state, then a TALLY image by its fields, the record and the show. -/
theorem bandsAndModes : Obligations.BandsAndModes := by
  unfold Obligations.BandsAndModes
  refine ⟨fun s tag x code b band => ⟨fun occupied => ?_, fun vacant => ?_⟩, fun s tag slot code out => ?_,
    fun s tag x img cursor length => ⟨fun bad => ?_, fun good => ?_⟩⟩
  · rw [exec_acknowledgeBand s tag x band, State.acknowledge, if_pos ((State.occupied_iff s.consumeSpan x).mpr occupied)]
    rfl
  · refine ⟨_, exec_acknowledgeBand s tag x band, ?_⟩
    rw [State.acknowledge, if_neg (mt (State.occupied_iff s.consumeSpan x).mp (not_not.mpr vacant))]
    exact s.refuseKind_refused .acknowledgeBand tag .noShow
  · exact ⟨_, congrArg Host.Outcome.next (State.acknowledgeBand_of_range (s := s.consumeSpan) out),
      s.refuseKind_refused .acknowledgeBand tag .badField⟩
  · exact ⟨_, (exec_writeEntryTally cursor length).trans
      (congrArg _ (State.writeTally_of_bad (s := s.consumeSpan) (tallyOfImage_of_bad bad))),
      s.refuseKind_refused .writeEntry tag .badField⟩
  · obtain ⟨r, image, spelled⟩ := tallyOfImage_of_good good
    refine ⟨r, image, spelled, fun equal selling => ?_, fun equal closed => ?_, fun differs => ?_⟩
    · have taken : s.consumeSpan.tallyWriteRefusal x r = none :=
        (State.tallyWriteRefusal_of_equal (s := s.consumeSpan) equal).trans
          (if_pos (State.modeOpen_iff (s := s.consumeSpan).mpr selling))
      rw [exec_writeEntryTally cursor length, State.writeTally_of_taken (s := s.consumeSpan) image taken,
        State.advanceCursor]
      have advanced : (s.consumeSpan.changeMode x r.mode).dir.cursor.advance =
          { table := .tally, index := if x.val + 1 < 96 then some (x.val + 1) else none } :=
        (congrArg Cursor.advance cursor).trans rfl
      rw [advanced]
      rfl
    · exact exec_writeEntryTally_refused cursor length image
        ((State.tallyWriteRefusal_of_equal equal).trans (if_neg (mt State.modeOpen_iff.mp closed)))
    · exact exec_writeEntryTally_refused cursor length image (State.tallyWriteRefusal_of_differing differs)

end Sys2Proof.Machine
end

section
/-! SUPPORT. What a command can do to the show and to the tally of one slot, and what that keeps of the tally's limits and of
the balance (R80, R89, R91, R94) and of a tally whose sales have closed (R101). -/

namespace Sys2Proof.Machine

/-- All that a command can do to a slot's show and to its tally: the tally stays, or it is zeroed, opened, sold from, marked
as a repeat, given a band, put in a mode, or edited, each where the slot's state lets it (R62, R63 to R65, R84 to R102). -/
inductive SlotMove (w : Show) (t : Tally) : Show → Tally → Prop
  | kept {w' : Show} (capacity : w'.capacity = w.capacity) (vacant : w'.state = .vacant ↔ w.state = .vacant) :
      SlotMove w t w' t
  | cleared {w' : Show} (vacant : w'.state = .vacant) : SlotMove w t w' Tally.zeroed
  | opened {w' : Show} (st : Settings) (mode : TallyMode) (vacant : w.state = .vacant) (occupied : w'.state ≠ .vacant)
      (seats : 1 ≤ w'.capacity ∧ w'.capacity ≤ 999) : SlotMove w t w' (Tally.open st w'.capacity mode)
  | sold (st : Settings) (delta : Int) (occupied : w.state ≠ .vacant) (selling : w.salesClosed = false) :
      SlotMove w t w (t.sold st w.capacity delta)
  | repeated (occupied : w.state ≠ .vacant) : SlotMove w t w { t with lastOutcome := some .repeated }
  | banded (band acked : Band) (occupied : w.state ≠ .vacant) :
      SlotMove w t w { t with band := band, acked := acked, departed := decide (band ≠ acked) }
  | remoded (mode : TallyMode) (occupied : w.state ≠ .vacant) (selling : w.salesClosed = false) :
      SlotMove w t w (t.changeMode w.capacity mode)
  | edited {w' : Show} (st : Settings) (mode : TallyMode) (listed : w.state = .listed) (occupied : w'.state ≠ .vacant)
      (seats : 1 ≤ w'.capacity ∧ w'.capacity ≤ 999) : SlotMove w t w' (t.edited st w.capacity w'.capacity mode)

theorem SlotMove.refl (w : Show) (t : Tally) : SlotMove w t w t := .kept rfl Iff.rfl

/-! ### The limits of a tally through the stages (R80, R87 to R94) -/

/-- The reconcile stage takes from the clip what it takes from the working delta (R87). -/
theorem Tally.reconciled_sum (t : Tally) (d : Int) : t.reconciledClip d + t.reconciledDelta d = t.clip + d := by
  unfold Tally.reconciledClip Tally.reconciledDelta
  cases t.mode with
  | strict => rfl
  | reconcile =>
    dsimp only
    unfold towardsZero absorbed
    split <;> split <;> split <;> omega

section
variable {t : Tally} {capacity : Nat}

/-- The stages leave a tally within its limits, and in balance where the delta was all that the balance lacked
(R87 to R91, R94). -/
theorem Tally.resized_fits {d : Int} (st : Settings) (net : -9999 ≤ t.net ∧ t.net ≤ 9999)
    (lacks : t.mode = .reconcile → t.unbalanced = false → (t.remaining : Int) + t.clip + d = capacity + t.net) :
    (t.resized st capacity d).Fits capacity where
  seats := clampRemaining_le capacity _
  clip := by
    rw [t.resized_clip]
    split <;> omega
  net := net
  strict strict := (t.resized_clip d st capacity).trans (if_pos strict)
  departs := decide_eq_true_iff
  balance mode balanced := by
    have reconcile : t.mode = .reconcile := mode
    obtain ⟨before, stage⟩ := Bool.or_eq_false_iff.mp
      (show (t.unbalanced || t.clipSaturates capacity d) = false from balanced)
    have within : ¬ (t.clipSum capacity d < -127 ∨ 127 < t.clipSum capacity d) := fun out =>
      Bool.false_ne_true (stage.symm.trans ((t.clipSaturates_iff d capacity).mpr ⟨reconcile, out⟩))
    have remaining : ((t.resized st capacity d).remaining : Int) = t.target d - clampExcess capacity (t.target d) := by
      rw [clampExcess_eq, sub_sub_cancel]
      exact clampRemaining_eq capacity _
    have clip : (t.resized st capacity d).clip = t.clipSum capacity d := by
      rw [t.resized_clip, if_neg (by simp [reconcile])]
      omega
    have sum := t.reconciled_sum d
    have lacked := lacks reconcile before
    have kept : (t.resized st capacity d).net = t.net := rfl
    rw [remaining, clip, kept]
    unfold Tally.clipSum Tally.target
    omega

theorem Tally.Fits.sold (h : t.Fits capacity) (st : Settings) (d : Int) : (t.sold st capacity d).Fits capacity := by
  have net : (t.addNet d).net = max (-9999) (min 9999 (t.net + d)) := saturate_eq 9999 _ (by decide)
  have stages : ((t.addNet d).resized st capacity d).Fits capacity := by
    refine Tally.resized_fits st (by omega) fun mode balanced => ?_
    obtain ⟨before, stage⟩ := Bool.or_eq_false_iff.mp
      (show (t.unbalanced || saturates 9999 (t.net + d)) = false from balanced)
    have within : ¬ (t.net + d < -9999 ∨ 9999 < t.net + d) := of_decide_eq_false stage
    have balance := h.balance mode before
    rw [net]
    change (t.remaining : Int) + t.clip + d = _
    omega
  exact { stages with }

theorem Tally.Fits.resized {old : Nat} (h : t.Fits old) (st : Settings) :
    (t.resized st capacity ((capacity : Int) - old)).Fits capacity :=
  Tally.resized_fits st h.net fun mode balanced => by
    have balance := h.balance mode balanced
    omega

theorem Tally.Fits.changeMode (h : t.Fits capacity) (seats : capacity ≤ 999) (mode : TallyMode) :
    (t.changeMode capacity mode).Fits capacity where
  seats := h.seats
  clip := show (-127 : Int) ≤ 0 ∧ (0 : Int) ≤ 127 by decide
  net := by
    have := h.seats
    change -9999 ≤ (t.remaining : Int) - capacity ∧ (t.remaining : Int) - capacity ≤ 9999
    omega
  strict _ := rfl
  departs := h.departs
  balance _ _ := by
    change (t.remaining : Int) + 0 = capacity + ((t.remaining : Int) - capacity)
    omega

theorem Tally.Fits.inMode (h : t.Fits capacity) (seats : capacity ≤ 999) (mode : TallyMode) :
    (t.inMode capacity mode).Fits capacity := by
  unfold Tally.inMode
  split
  · exact h.changeMode seats mode
  · exact h

theorem Tally.Fits.edited {old : Nat} (h : t.Fits old) (st : Settings) (seats : capacity ≤ 999) (mode : TallyMode) :
    (t.edited st old capacity mode).Fits capacity := by
  by_cases same : capacity = old
  · rw [Tally.edited_of_same same]
    exact (same ▸ h).inMode seats mode
  · rw [Tally.edited_of_resized same]
    exact (h.resized st).inMode seats mode

theorem Tally.open_fits (st : Settings) (mode : TallyMode) : (Tally.open st capacity mode).Fits capacity where
  seats := Nat.le_refl _
  clip := show (-127 : Int) ≤ 0 ∧ (0 : Int) ≤ 127 by decide
  net := show (-9999 : Int) ≤ 0 ∧ (0 : Int) ≤ 9999 by decide
  strict _ := rfl
  departs := ⟨nofun, fun differs => absurd rfl differs⟩
  balance _ _ := rfl

end

/-! ### What a move keeps -/

/-- The tally fits the show of its slot: zeroed while the slot is VACANT, within its limits while it is occupied (R80). -/
def Tally.FitsShow (w : Show) (t : Tally) : Prop :=
  if w.state = .vacant then t = Tally.zeroed else (1 ≤ w.capacity ∧ w.capacity ≤ 999) ∧ t.Fits w.capacity

theorem State.talliesFit_iff (s : State) : s.TalliesFit ↔ ∀ x, (s.tallyOf x).FitsShow (s.showOf x) := Iff.rfl

section
variable {w w' : Show} {t t' : Tally}

theorem Tally.fitsShow_of_occupied (occupied : w.state ≠ .vacant) :
    t.FitsShow w ↔ (1 ≤ w.capacity ∧ w.capacity ≤ 999) ∧ t.Fits w.capacity := by
  rw [Tally.FitsShow, if_neg occupied]

/-- A move keeps the tally within the limits of its show (R80, R94). -/
theorem SlotMove.fitsShow (move : SlotMove w t w' t') (fits : t.FitsShow w) : t'.FitsShow w' := by
  cases move with
  | kept capacity vacant => simpa only [Tally.FitsShow, capacity, vacant] using fits
  | cleared vacant => exact (if_pos vacant).mpr rfl
  | opened st mode _ occupied seats => exact (Tally.fitsShow_of_occupied occupied).mpr ⟨seats, Tally.open_fits st mode⟩
  | sold st delta occupied _ =>
    obtain ⟨seats, limits⟩ := (Tally.fitsShow_of_occupied occupied).mp fits
    exact (Tally.fitsShow_of_occupied occupied).mpr ⟨seats, limits.sold st delta⟩
  | repeated occupied =>
    obtain ⟨seats, limits⟩ := (Tally.fitsShow_of_occupied occupied).mp fits
    exact (Tally.fitsShow_of_occupied occupied).mpr ⟨seats, { limits with }⟩
  | banded band acked occupied =>
    obtain ⟨seats, limits⟩ := (Tally.fitsShow_of_occupied occupied).mp fits
    exact (Tally.fitsShow_of_occupied occupied).mpr ⟨seats, { limits with departs := decide_eq_true_iff }⟩
  | remoded mode occupied _ =>
    obtain ⟨seats, limits⟩ := (Tally.fitsShow_of_occupied occupied).mp fits
    exact (Tally.fitsShow_of_occupied occupied).mpr ⟨seats, limits.changeMode seats.2 mode⟩
  | edited st mode listed occupied seats =>
    obtain ⟨_, limits⟩ := (Tally.fitsShow_of_occupied (by rw [listed]; decide)).mp fits
    exact (Tally.fitsShow_of_occupied occupied).mpr ⟨seats, limits.edited st seats.2 mode⟩

/-- Once the sales of a STARTED or RETIRED show have closed, no move but the slot's clear reaches the tally's numbers: a sale
and a mode change want open sales, an insert a VACANT slot, an edit a LISTED show (R63, R64, R85, R100, R101). -/
theorem SlotMove.frozen (move : SlotMove w t w' t') (closed : w.salesClosed = true)
    (late : w.state = .started ∨ w.state = .retired) :
    w'.state = .vacant ∨ (t'.remaining = t.remaining ∧ t'.clip = t.clip ∧ t'.net = t.net) := by
  cases move with
  | kept _ _ => exact .inr ⟨rfl, rfl, rfl⟩
  | cleared vacant => exact .inl vacant
  | opened st mode vacant _ _ => simp [vacant] at late
  | sold st delta _ selling => simp [closed] at selling
  | repeated _ => exact .inr ⟨rfl, rfl, rfl⟩
  | banded band acked _ => exact .inr ⟨rfl, rfl, rfl⟩
  | remoded mode _ selling => simp [closed] at selling
  | edited st mode listed _ _ => simp [listed] at late

end

end Sys2Proof.Machine
end

section
/-! SUPPORT. The operations of the tally unit, of the show board and of the lobby clock as moves of the slots (R50, R56, R62 to
R65, R69, R84 to R102). -/

namespace Sys2Proof.Machine

/-- The show records and the tallies. -/
def State.seats (s : State) : Table Show 96 × Table Tally 96 := (s.board.shows, s.tally.tallies)

/-- Every slot's show and tally make a move. -/
def State.SlotsMove (s t : State) : Prop := ∀ x : Slot, SlotMove (s.showOf x) (s.tallyOf x) (t.showOf x) (t.tallyOf x)

section
variable {s t u : State}

theorem State.showOf_of_seats (h : t.seats = s.seats) (x : Slot) : t.showOf x = s.showOf x :=
  congrArg (fun p : Table Show 96 × Table Tally 96 => p.1.read x) h

theorem State.tallyOf_of_seats (h : t.seats = s.seats) (x : Slot) : t.tallyOf x = s.tallyOf x :=
  congrArg (fun p : Table Show 96 × Table Tally 96 => p.2.read x) h

theorem State.seats_ite {p : Prop} [Decidable p] (h : t.seats = s.seats) (k : u.seats = s.seats) :
    (if p then t else u).seats = s.seats := by split <;> assumption

theorem SameBut.seats {ks : List Block} (h : SameBut ks s t) (board : Block.board ∉ ks := by simp)
    (tally : Block.tally ∉ ks := by simp) : t.seats = s.seats := by
  rw [State.seats, h.board board, h.tally tally]
  rfl

theorem State.Leaves.seats {ks : List Block} (h : s.Leaves ks t) (board : Block.board ∉ ks := by simp)
    (tally : Block.tally ∉ ks := by simp) : t.seats = s.seats := h.blocks.seats board tally

namespace State.SlotsMove

theorem of_seats (h : t.seats = s.seats) : s.SlotsMove t := fun x => by
  rw [State.showOf_of_seats h, State.tallyOf_of_seats h]
  exact .refl _ _

/-- What keeps the shows and the tallies may come before a move. -/
theorem after_seats (h : t.seats = s.seats) (k : t.SlotsMove u) : s.SlotsMove u := fun x => by
  rw [← State.showOf_of_seats h, ← State.tallyOf_of_seats h]
  exact k x

/-- What keeps the shows and the tallies may come after a move. -/
theorem then_seats (h : s.SlotsMove t) (k : u.seats = t.seats) : s.SlotsMove u := fun x => by
  rw [State.showOf_of_seats k, State.tallyOf_of_seats k]
  exact h x

theorem ite {p : Prop} [Decidable p] (h : s.SlotsMove t) (k : s.SlotsMove u) : s.SlotsMove (if p then t else u) := by
  split <;> assumption

/-- A write at one slot is a move where it is one at that slot. -/
theorem of_keepsOthers {x : Slot} (h : s.KeepsOthers t x)
    (move : SlotMove (s.showOf x) (s.tallyOf x) (t.showOf x) (t.tallyOf x)) : s.SlotsMove t := fun y => by
  by_cases e : y = x
  · exact e ▸ move
  · obtain ⟨sameShow, sameTally⟩ := h.others y e
    rw [sameShow, sameTally]
    exact .refl _ _

/-- A tally replaced is a move where the new record is one of the slot's moves. -/
theorem setTally {x : Slot} {r : Tally} (move : SlotMove (s.showOf x) (s.tallyOf x) (s.showOf x) r) :
    s.SlotsMove (s.setTally x r) :=
  of_keepsOthers (s.setTally_keepsOthers x r) (by
    rw [State.tallyOf_setTally, if_pos rfl]
    exact move)

end State.SlotsMove

end

/-! ### The tally unit (R84 to R102) -/

section
variable (s : State)

theorem State.saleGate_passed {x : Slot} (gate : s.saleGate x = none) :
    (s.showOf x).state ≠ .vacant ∧ (s.showOf x).salesClosed = false := by
  have isOpen : s.clock.state ≠ .unset := fun unset => nomatch (State.saleGate_of_unset unset).symm.trans gate
  have live : ¬ ((s.showOf x).state = .vacant ∨ (s.showOf x).state = .retired) := fun gone =>
    nomatch (State.saleGate_of_gone isOpen gone).symm.trans gate
  refine ⟨fun vacant => live (.inl vacant), Bool.eq_false_iff.mpr fun closed => ?_⟩
  exact nomatch ((State.saleGate_of_live isOpen live).trans (if_pos closed)).symm.trans gate

theorem State.saleApply_tallyOf (k : Fin 16) (x : Slot) (d : Int) (y : Slot) : (s.saleApply k x d).tallyOf y =
    if y = x then (s.tallyOf x).sold s.settings (s.showOf x).capacity d else s.tallyOf y := by
  rw [State.tallyOf, State.saleApply_tally]
  exact Table.read_write _ _ _ _

theorem State.saleApply_moves (k : Fin 16) {x : Slot} (d : Int) (gate : s.saleGate x = none) :
    s.SlotsMove (s.saleApply k x d) := fun y => by
  rw [(s.saleApply_leaves k x d).showOf y, State.saleApply_tallyOf]
  split
  · next e =>
    subst e
    obtain ⟨occupied, selling⟩ := s.saleGate_passed gate
    exact .sold s.settings d occupied selling
  · exact .refl _ _

theorem State.takeSale_moves (tag : Byte) (k : Fin 16) (g : Bool) (x : Slot) (d : Int) :
    s.SlotsMove (s.takeSale tag k g x d) := by
  by_cases same : (s.tally.desks.read k).toggle = some g
  · rw [State.takeSale_of_repeat same]
    unfold State.saleRepeat
    dsimp only
    split
    · next occupied =>
      exact .after_seats (t := s.setDesk k _) rfl (.setTally (.repeated ((s.occupied_iff x).mp occupied)))
    · exact .of_seats rfl
  · cases gate : s.saleGate x with
    | some reason =>
      rw [State.takeSale_of_refused same gate]
      exact .of_seats rfl
    | none =>
      rw [State.takeSale_of_passed same gate]
      exact .after_seats (t := s.toggled k g) rfl (State.saleApply_moves _ k d gate)

theorem State.acknowledge_moves (tag : Byte) (x : Slot) (b : Band) : s.SlotsMove (s.acknowledge tag x b) := by
  unfold State.acknowledge
  split
  · next occupied => exact .setTally (.banded _ b ((s.occupied_iff x).mp occupied))
  · exact .of_seats rfl

/-- The band of an occupied slot's tally and its departure, recomputed (R90, R91, R102). -/
def Tally.rebanded (st : Settings) (w : Show) (t : Tally) : Tally :=
  if w.state = .vacant then t
  else { t with band := bandOf st w.capacity t.remaining, departed := decide (bandOf st w.capacity t.remaining ≠ t.acked) }

/-- The recomputation at one slot writes that slot's tally and reads the settings and the slot's show (R102). -/
theorem State.recomputeBand_reads (x y : Slot) :
    ((s.recomputeBand x).settings, (s.recomputeBand x).showOf y, (s.recomputeBand x).tallyOf y) =
      if y = x then (s.settings, s.showOf x, (s.tallyOf x).rebanded s.settings (s.showOf x))
      else (s.settings, s.showOf y, s.tallyOf y) := by
  have leaves := s.recomputeBand_leaves x
  have tally : (s.recomputeBand x).tallyOf y =
      if y = x then (s.tallyOf x).rebanded s.settings (s.showOf x) else s.tallyOf y := by
    unfold State.recomputeBand
    split
    · next occupied =>
      rw [State.tallyOf, State.seatMarkIfMoved_tally, State.departureStage_tally]
      simp only [State.bandStage, State.setTally, State.tallyOf, Table.read_write, if_true]
      rw [Tally.rebanded, if_neg ((s.occupied_iff x).mp occupied)]
      split <;> rfl
    · next vacant =>
      rw [Tally.rebanded, if_pos (not_not.mp (mt (s.occupied_iff x).mpr vacant))]
      split
      · next e => rw [e]
      · rfl
  rw [leaves.blocks.settings (by simp), leaves.showOf y, tally]
  split
  · next e => rw [e]
  · rfl

theorem State.recomputeBands_tallyOf (x : Slot) :
    s.recomputeBands.tallyOf x = (s.tallyOf x).rebanded s.settings (s.showOf x) := by
  have reads := foldl_read_all (read := fun s y => (s.settings, s.showOf y, s.tallyOf y))
    (g := fun p => (p.1, p.2.1, p.2.2.rebanded p.1 p.2.1)) (fun s x y => s.recomputeBand_reads x y) s x
  exact (Prod.mk.inj (Prod.mk.inj reads).2).2

theorem State.recomputeBands_moves : s.SlotsMove s.recomputeBands := fun x => by
  rw [s.recomputeBands_leaves.showOf x, State.recomputeBands_tallyOf]
  unfold Tally.rebanded
  split
  · exact .refl _ _
  · next occupied => exact .banded _ _ occupied

theorem State.takeSettings_moves (st : Settings) : s.SlotsMove (s.takeSettings st) :=
  (State.recomputeBands_moves { s with settings := st }).then_seats (State.markAllInUse_leaves _).seats

theorem State.writeTally_moves (tag : Byte) (x : Slot) (img : List Byte) : s.SlotsMove (s.writeTally tag x img) := by
  unfold State.writeTally
  split
  · next r _ =>
    split
    · exact .of_seats rfl
    · next taken =>
      have selling : s.modeOpen x = true := by
        by_contra closed
        by_cases equal : { r with mode := (s.tallyOf x).mode } = s.tallyOf x
        · exact nomatch ((State.tallyWriteRefusal_of_equal equal).trans (if_neg closed)).symm.trans taken
        · exact nomatch (State.tallyWriteRefusal_of_differing equal).symm.trans taken
      obtain ⟨upcoming, isOpen⟩ := State.modeOpen_iff.mp selling
      have occupied : (s.showOf x).state ≠ .vacant := by
        obtain listed | boarding := upcoming
        · simp [listed]
        · simp [boarding]
      exact (State.SlotsMove.setTally (.remoded r.mode occupied isOpen)).then_seats rfl
  · exact .of_seats rfl

end

/-! ### The show board (R62 to R65, R69) -/

theorem Show.evaluatedAt_occupied {w : Show} (occupied : w.state ≠ .vacant) (m : Nat) :
    (w.evaluatedAt m).state ≠ .vacant := by
  unfold Show.evaluatedAt
  dsimp only
  split
  · decide
  · split
    · decide
    · split
      · decide
      · exact occupied

theorem Show.afterTurn_kept (w : Show) (t : Tally) (m : Nat) : SlotMove w t (w.afterTurn m) t := by
  unfold Show.afterTurn
  split
  · exact .refl w t
  · next live =>
    have occupied := (not_or.mp live).1
    exact .kept rfl (iff_of_false (Show.evaluatedAt_occupied occupied m) occupied)

theorem Clock.settles_occupied {w : Show} (occupied : w.state ≠ .vacant) (c : Clock) :
    (c.settles w).state ≠ .vacant := by
  unfold Clock.settles
  split
  · exact Show.evaluatedAt_occupied occupied _
  · exact occupied

theorem Clock.settles_capacity (c : Clock) (w : Show) : (c.settles w).capacity = w.capacity := by
  unfold Clock.settles
  split <;> rfl

theorem showOfImage_capacity {img : List Byte} {w : Show} {mode : TallyMode}
    (h : showOfImage img = some (.record w mode)) : 1 ≤ w.capacity ∧ w.capacity ≤ 999 := by
  unfold showOfImage at h
  dsimp only at h
  split at h
  · cases h
  · split at h
    · cases h
    · split at h
      · next range =>
        cases h
        obtain ⟨_, _, _, _, _, _, _, _, capacity, _⟩ := range
        exact capacity
      · cases h

section
variable (s : State)

theorem State.boardMinute_moves (m : Nat) (evaluating : Bool) : s.SlotsMove (s.boardMinute m evaluating) := by
  unfold State.boardMinute
  split
  · refine .ite (fun x => ?_) (.of_seats rfl)
    rw [State.evaluateAll_showOf, (s.evaluateAll_leaves m).tallyOf x]
    exact Show.afterTurn_kept _ _ m
  · exact .of_seats rfl

theorem State.minuteBoundary_moves (m : Nat) : s.SlotsMove (s.minuteBoundary m) :=
  (s.boardMinute_moves m _).then_seats (State.minuteMarks_leaves _ m).seats

section
variable (x : Slot) {w : Show} {mode : TallyMode}

theorem State.insertShow_moves (seats : 1 ≤ w.capacity ∧ w.capacity ≤ 999) (vacant : (s.showOf x).state = .vacant) :
    s.SlotsMove (s.insertShow x w mode) := by
  refine .of_keepsOthers (s.insertShow_keepsOthers x w mode) ?_
  have capacity : (s.clock.settles w.opening).capacity = w.capacity := s.clock.settles_capacity w.opening
  have occupied : w.opening.state ≠ .vacant := show ShowState.listed ≠ .vacant by decide
  rw [State.insertShow_showOf, State.insertShow_tallyOf, ← capacity]
  exact .opened s.settings mode vacant (Clock.settles_occupied occupied s.clock) (capacity.symm ▸ seats)

theorem State.editShow_moves (seats : 1 ≤ w.capacity ∧ w.capacity ≤ 999) (listed : (s.showOf x).state = .listed) :
    s.SlotsMove (s.editShow x w mode) := by
  refine .of_keepsOthers (s.editShow_keepsOthers x w mode listed) ?_
  have capacity : (s.clock.settles (w.takenOver (s.showOf x))).capacity = w.capacity := s.clock.settles_capacity _
  have occupied : (w.takenOver (s.showOf x)).state ≠ .vacant := show (s.showOf x).state ≠ .vacant by simp [listed]
  rw [State.editShow_showOf _ _ _ _ listed, State.editShow_tallyOf, ← capacity]
  exact .edited s.settings mode listed (Clock.settles_occupied occupied s.clock) (capacity.symm ▸ seats)

theorem State.liveEditShow_moves (live : (s.showOf x).state = .boarding ∨ (s.showOf x).state = .started) :
    s.SlotsMove (s.liveEditShow x w) := by
  have unretired := ShowState.unretired_of_live live
  have occupied := ((ShowState.unretired_iff _).mp unretired).1
  refine .of_keepsOthers (s.liveEditShow_keepsOthers x w unretired) ?_
  rw [State.liveEditShow_showOf _ _ _ unretired, State.liveEditShow_tallyOf]
  exact .kept (s.clock.settles_capacity _)
    (iff_of_false (Clock.settles_occupied (w := w.relabelled (s.showOf x)) occupied s.clock) occupied)

theorem State.clearSlot_moves : s.SlotsMove (s.clearSlot x) :=
  .ite (.of_keepsOthers (s.clearOccupied_keepsOthers x) (by
    obtain ⟨record, tally⟩ := s.clearOccupied_records x
    rw [record, tally]
    exact .cleared rfl)) (.of_seats rfl)

end

/-- What the board does with a SHOW image that it accepts, by the slot's state (R61). -/
theorem State.disposeShow_moves (x : Slot) {img : List Byte} {w : ShowWrite} (image : showOfImage img = some w) :
    s.SlotsMove (s.disposeShow x w) := by
  cases w with
  | clear => exact s.clearSlot_moves x
  | record w mode =>
    have seats := showOfImage_capacity image
    unfold State.disposeShow
    dsimp only
    split
    · next vacant => exact s.insertShow_moves x seats vacant
    · next listed => exact s.editShow_moves x seats listed
    · next boarding => exact s.liveEditShow_moves x (.inl boarding)
    · next started => exact s.liveEditShow_moves x (.inr started)
    · exact .of_seats rfl

theorem State.writeShow_moves (tag : Byte) (x : Slot) (img : List Byte) : s.SlotsMove (s.writeShow tag x img) := by
  unfold State.writeShow
  split
  · next w image =>
    split
    · exact .of_seats rfl
    · exact (s.disposeShow_moves x image).then_seats rfl
  · exact .of_seats rfl

/-! ### The lobby clock (R42 to R50) -/

theorem clearedPair_moves (w : Show) (t : Tally) : SlotMove w t (clearedPair (w, t)).1 (clearedPair (w, t)).2 := by
  unfold clearedPair
  split
  · exact .refl w t
  · exact .cleared rfl

theorem State.takeClose_moves : s.SlotsMove s.takeClose := by
  refine .after_seats (s.removeNotices_leaves Notice.endsWithDay).seats fun x => ?_
  rw [s.takeClose_showOf, s.takeClose_tallyOf]
  have records := (s.removeNotices Notice.endsWithDay).closeBoard_records x
  obtain ⟨record, tally⟩ := Prod.mk.inj records
  rw [record, tally]
  exact clearedPair_moves _ _

theorem State.takeMark_moves (m sec : Nat) : s.SlotsMove (s.takeMark m sec) := by
  by_cases moved : m ≠ s.clock.minute ∨ s.clock.state = .lost
  · rw [State.takeMark_of_moved sec moved]
    refine .after_seats ?_ (State.minuteBoundary_moves _ m)
    exact State.seats_ite (State.clockTextChange_leaves _).seats rfl
  · obtain ⟨held, found⟩ := not_or.mp moved
    rw [State.takeMark_of_held sec (not_not.mp held) found]
    exact .of_seats rfl

theorem State.takeOpen_moves (civil day : Nat) : s.SlotsMove (s.takeOpen civil day) := by
  unfold State.takeOpen
  dsimp only
  refine .then_seats (.after_seats ?_ (State.minuteBoundary_moves _ 0)) (State.markAllInUse_leaves _).seats
  exact (State.clockTextChange_leaves _).seats

theorem State.advanceMinute_moves : s.SlotsMove s.advanceMinute :=
  (State.minuteBoundary_moves (s.setClock { s.clock with minute := s.clock.minute + 1, second := 0 })
    (s.clock.minute + 1)).then_seats (State.markSteps_leaves _).seats

theorem State.tickClock_moves : s.SlotsMove s.tickClock :=
  .ite (.ite (.of_seats s.loseClock_leaves.seats) (.ite s.advanceMinute_moves (.of_seats rfl))) (.of_seats rfl)

/-- A second tick moves the slots at the lobby clock alone, in whatever order the receivers take it (R41; log 6). -/
theorem State.tickReceivers_moves (order : TickOrder) : s.SlotsMove (order.receivers.foldl State.tickReceiver s) := by
  obtain ⟨before, after, split, outBefore, outAfter⟩ := TickOrder.receivers_split order
  rw [split, List.foldl_append, List.foldl_cons]
  exact .then_seats (.after_seats (State.tickOthers_leaves outBefore s).seats (State.tickClock_moves _))
    (State.tickOthers_leaves outAfter _).seats

end

end Sys2Proof.Machine
end

section
/-! SUPPORT. Every command as moves of the slots: the tally unit's, the board's and the clock's directives, the resets and the
counted minutes make them, and no other command reaches a show or a tally (R17, R38, R39, R80). -/

namespace Sys2Proof.Machine

/-! ### Directives that reach no show and no tally -/

section
variable (s : State)

theorem State.advanceCursor_seats : s.advanceCursor.seats = s.seats := rfl

theorem State.placePost_seats (tag : Byte) (n : Notice) : (s.placePost tag n).seats = s.seats := by
  unfold State.placePost
  split
  · next placed => exact (State.placeNotice_spec placed).1.seats
  · rfl

theorem State.postNotice_seats (held : Option (Fin 12)) (tag : Byte) (p : List Byte) :
    (s.postNotice held tag p).seats = s.seats := by
  have more : ∀ i id ps, (s.takeFragmentMore tag i id ps).seats = s.seats := fun i id ps => by
    unfold State.takeFragmentMore
    split
    · rfl
    · exact State.seats_ite rfl (State.seats_ite (State.placePost_seats _ _ _) rfl)
  unfold State.postNotice
  dsimp only
  refine State.seats_ite (State.seats_ite ?_ (State.seats_ite (more _ _ _) rfl)) rfl
  split
  · exact State.seats_ite rfl (State.seats_ite (State.placePost_seats _ _ _) rfl)
  · rfl

theorem State.stage_seats (k : DirectiveKind) (tag : Byte) (b : StagedBody) : (s.stage k tag b).seats = s.seats :=
  State.seats_ite rfl rfl

theorem State.writeStaged_seats (tag : Byte) (b : Option StagedBody) : (s.writeStaged tag b).seats = s.seats := by
  cases b with
  | some b => exact State.seats_ite rfl rfl
  | none => rfl

theorem State.readTurns_seats : ∀ (n : Nat) (s : State), (State.readTurns n s).seats = s.seats
  | 0, _ => rfl
  | n + 1, s => by
    unfold State.readTurns
    split
    · rfl
    · exact State.seats_ite ((State.readTurns_seats n _).trans rfl) rfl

theorem State.writeTitle_seats (tag : Byte) (i : Fin 64) (img : List Byte) : (s.writeTitle tag i img).seats = s.seats := by
  unfold State.writeTitle
  split
  · exact (State.Leaves.foldl State.slotMark_leaves _ _).seats
  · rfl

theorem State.writeTemplate_seats (tag : Byte) (i : Fin 32) (img : List Byte) :
    (s.writeTemplate tag i img).seats = s.seats := by
  unfold State.writeTemplate
  split
  · exact (State.templateMarks_leaves _ i).seats
  · rfl

/-! ### WRITE ENTRY (R23, R24) -/

theorem State.writeSettings_moves (tag : Byte) (img : List Byte) : s.SlotsMove (s.writeSettings tag img) := by
  unfold State.writeSettings
  split
  · exact .ite (.then_seats (s.takeSettings_moves _) (State.advanceCursor_seats _)) (.of_seats rfl)
  · exact .of_seats rfl

theorem State.atEntry_moves {n : Nat} (i : Nat) (f : Fin n → State) (h : ∀ k, s.SlotsMove (f k)) :
    s.SlotsMove (s.atEntry i f) := by
  unfold State.atEntry
  split
  · exact h _
  · exact .of_seats rfl

theorem State.writeAt_moves (tag : Byte) (t : TableName) (i : Nat) (img : List Byte) :
    s.SlotsMove (s.writeAt tag t i img) := by
  match t with
  | .settings => exact s.writeSettings_moves tag img
  | .show => exact s.atEntry_moves i _ fun x => s.writeShow_moves tag x img
  | .tally => exact s.atEntry_moves i _ fun x => s.writeTally_moves tag x img
  | .title => exact s.atEntry_moves i _ fun k => .of_seats (s.writeTitle_seats tag k img)
  | .template => exact s.atEntry_moves i _ fun k => .of_seats (s.writeTemplate_seats tag k img)
  | .layout => exact s.atEntry_moves i _ fun _ => .of_seats (s.writeStaged_seats tag _)
  | .region => exact s.atEntry_moves i _ fun _ => .of_seats (s.writeStaged_seats tag _)
  | .palette => exact s.atEntry_moves i _ fun _ => .of_seats (s.writeStaged_seats tag _)
  | .glyph => exact s.atEntry_moves i _ fun _ => .of_seats (s.writeStaged_seats tag _)
  | .desk | .notice | .display | .tile => exact .of_seats rfl

theorem State.writeEntry_moves (tag : Byte) (img : List Byte) : s.SlotsMove (s.writeEntry tag img) := by
  unfold State.writeEntry
  split
  · exact .of_seats rfl
  · exact .ite (.of_seats rfl) (.ite (s.writeAt_moves tag _ _ img) (.of_seats rfl))

/-! ### Resets (R38, R39) -/

theorem State.SlotsMove.of_reset {t : State} (h : ∀ x, (t.showOf x).state = .vacant ∧ t.tallyOf x = Tally.zeroed) :
    s.SlotsMove t := fun x => by
  obtain ⟨vacant, zeroed⟩ := h x
  rw [zeroed]
  exact .cleared vacant

theorem State.restart_moves : s.SlotsMove s.restart :=
  .of_reset s fun x => ⟨congrArg Show.state (s.board.restart_shows x), TallyUnit.reset_tallies x⟩

theorem State.powerOnReset_moves (straps : Fin 8) (sense : BitVec 12) : s.SlotsMove (s.powerOnReset straps sense) :=
  .of_reset s fun x => ⟨congrArg Show.state (Board.reset_shows x), TallyUnit.reset_tallies x⟩

/-! ### The directives (R17 to R20) -/

/-- Every directive makes moves of the slots. -/
theorem State.carryOut_moves (k : DirectiveKind) (held : Option (Fin 12)) (tag : Byte) (p : List Byte) :
    s.SlotsMove (s.carryOut k held tag p) := by
  have no : ∀ k tag reason, s.SlotsMove (s.refuseKind k tag reason) := fun k tag reason => .of_seats rfl
  cases k <;> dsimp only [State.carryOut]
  case markTime =>
    unfold State.markTime
    split
    · exact .ite (.ite (no _ _ _) (s.takeMark_moves _ _)) (no _ _ _)
    · exact no _ _ _
  case openDay =>
    unfold State.openDay
    split
    · exact .ite (.ite (s.takeOpen_moves _ _) (no _ _ _)) (no _ _ _)
    · exact no _ _ _
  case closeDay =>
    unfold State.closeDay
    split
    · exact .ite (no _ _ _) s.takeClose_moves
    · exact no _ _ _
  case sale =>
    unfold State.sale
    split
    · split
      · exact s.takeSale_moves _ _ _ _ _
      · exact no _ _ _
    · exact no _ _ _
  case acknowledgeBand =>
    unfold State.acknowledgeBand
    split
    · split
      · exact s.acknowledge_moves _ _ _
      · exact no _ _ _
    · exact no _ _ _
  case postNotice => exact .of_seats (s.postNotice_seats held tag p)
  case withdrawNotice =>
    unfold State.withdrawNotice
    split
    · exact .ite (.of_seats (s.removeNotices_leaves _).seats) (no _ _ _)
    · exact no _ _ _
  case driveChimeLine =>
    unfold State.driveChimeLine
    split
    · split
      · exact .of_seats rfl
      · exact no _ _ _
    · exact no _ _ _
  case setCursor =>
    unfold State.setCursor
    split
    · split
      · exact .ite (.of_seats rfl) (no _ _ _)
      · exact no _ _ _
    · exact no _ _ _
  case writeEntry => exact s.writeEntry_moves tag p
  case readEntries =>
    unfold State.readEntries
    split
    · refine .ite (no _ _ _) ?_
      split
      · exact no _ _ _
      · exact .of_seats (State.readTurns_seats _ s)
    · exact no _ _ _
  case requestStatus =>
    unfold State.requestStatus
    split
    · exact .of_seats s.queueStatus_leaves.seats
    · exact no _ _ _
  case setAttentionMask =>
    unfold State.setAttentionMask
    split
    · exact .ite (.of_seats (State.seats_ite rfl rfl)) (no _ _ _)
    · exact no _ _ _
  case span =>
    unfold State.takeSpan
    split
    · split
      · exact .of_seats rfl
      · exact no _ _ _
    · exact no _ _ _
  case restart =>
    unfold State.takeRestart
    split
    · exact s.restart_moves
    · exact no _ _ _
  case setDisplayMode =>
    unfold State.setDisplayMode
    split
    · split
      · exact .of_seats (s.stage_seats _ _ _)
      · exact no _ _ _
    · exact no _ _ _
  case selectLayout =>
    unfold State.selectLayout
    split
    · split
      · exact .of_seats (s.stage_seats _ _ _)
      · exact no _ _ _
    · exact no _ _ _
  case selectProgram =>
    unfold State.selectProgram
    split
    · split
      · exact .of_seats (s.stage_seats _ _ _)
      · exact no _ _ _
    · exact no _ _ _
  case setDisplayMasks =>
    unfold State.setDisplayMasks
    split
    · split
      · exact .of_seats (s.stage_seats _ _ _)
      · exact no _ _ _
    · exact no _ _ _

theorem State.directive_moves (kind tag : Byte) (p : List Byte) : s.SlotsMove (s.directive kind tag p) := by
  unfold State.directive
  split
  · exact .after_seats (t := s.consumeSpan) rfl (State.carryOut_moves _ _ _ tag p)
  · exact .of_seats rfl

/-! ### The events of the feed and of the flywheel (R1 to R15) -/

theorem State.malformedLocked_seats : s.malformedLocked.seats = s.seats := s.malformedLocked_losesLock.blocks.seats

theorem State.outputStart_seats (o : OutputFrame) (b : Bool) : (s.outputStart o b).seats = s.seats :=
  (s.outputStart_same o b).seats

theorem State.acquireSymbols_seats : s.acquireSymbols.seats = s.seats := by
  unfold State.acquireSymbols
  split <;> rfl

theorem State.loseSymbols_seats : s.loseSymbols.seats = s.seats := by
  by_cases lock : s.feed.lock = .locked
  · exact (State.loseSymbols_losesLock lock).blocks.seats
  · rw [State.loseSymbols_of_unlocked lock]; rfl

theorem State.frameTimeout_seats : s.frameTimeout.seats = s.seats := by
  by_cases lock : s.feed.lock = .locked
  · exact (State.frameTimeout_losesLock lock).blocks.seats
  · rw [State.frameTimeout_of_unlocked lock]

theorem State.takeFrameStart_seats (n : Byte) (l : LaneMap) (b : Bool) : (s.takeFrameStart n l b).seats = s.seats := by
  unfold State.takeFrameStart
  dsimp only
  split
  · rfl
  · unfold State.searchFrameStart
    split
    · rfl
    · rfl
    · exact State.seats_ite (State.outputStart_seats _ _ _) rfl
  · unfold State.lockedFrameStart
    split
    · exact State.outputStart_seats _ _ _
    · exact State.malformedLocked_seats _
    · exact State.malformedLocked_seats _

theorem State.takeLineGroup_seats (z : LaneLines) : (s.takeLineGroup z).seats = s.seats := by
  have line : ∀ u : State, (u.lockedLine z).seats = u.seats := fun u => State.seats_ite rfl rfl
  unfold State.takeLineGroup
  dsimp only
  split
  · rfl
  · split <;> rfl
  · split
    · rfl
    · exact line _
    · exact line _

theorem State.takeFrameEnd_seats : s.takeFrameEnd.seats = s.seats := by
  have ending : ∀ u : State, u.lockedFrameEnd.seats = u.seats := fun u => State.seats_ite rfl u.malformedLocked_seats
  unfold State.takeFrameEnd
  dsimp only
  split
  · rfl
  · split
    · rfl
    · exact State.seats_ite rfl rfl
    · rfl
  · split
    · rfl
    · exact ending _
    · exact ending _

theorem State.searchPacket_seats : s.searchPacket.seats = s.seats := by
  unfold State.searchPacket
  split
  · rfl
  · split
    · rfl
    · exact State.seats_ite rfl rfl
    · rfl
  · rfl

/-- A margin packet reaches the shows and the tallies by the directive that it carries alone (R10, R17). -/
theorem State.takeMarginPacket_moves (bytes : List Byte) : s.SlotsMove (s.takeMarginPacket bytes) := by
  have packet : ∀ u : State, u.SlotsMove (u.takePacket bytes) := fun u =>
    .ite (.ite (u.directive_moves _ _ _) (.of_seats rfl)) (.of_seats rfl)
  have locked : ∀ u : State, u.SlotsMove (u.lockedPacket bytes) := fun u => by
    unfold State.lockedPacket
    split
    · exact .of_seats rfl
    · exact .ite (.after_seats (t := u.setRecord u.feed.record.addPacket) rfl (packet _))
        (.of_seats (State.malformedLocked_seats _))
    · exact .of_seats rfl
  unfold State.takeMarginPacket
  dsimp only
  split
  · exact .of_seats rfl
  · exact .of_seats (State.searchPacket_seats (s.repeatOut (.marginPacket bytes)))
  · exact .after_seats (t := s.repeatOut (.marginPacket bytes)) rfl (locked _)

theorem State.flywheelLine_seats : s.flywheelLine.seats = s.seats := by
  unfold State.flywheelLine
  split
  · rfl
  · rfl
  · exact State.seats_ite rfl rfl
  · exact State.seats_ite rfl rfl

theorem State.flywheelEnd_seats : s.flywheelEnd.seats = s.seats := by
  unfold State.flywheelEnd
  split <;> rfl

/-! ### The device's own events -/

theorem State.completeRender_seats : s.completeRender.seats = s.seats := by
  have join : ∀ (u : State) (p : Prop) [Decidable p] (t : TileNo), (if p then u.tryJoin t else u).seats = u.seats :=
    fun u p _ t => State.seats_ite (u.tryJoin_leaves t).seats rfl
  have sweep : ∀ u : State, u.runSweep.seats = u.seats := fun u => by
    unfold State.runSweep
    refine State.seats_ite ?_ rfl
    split
    · exact (State.tryJoin_leaves _ _).seats
    · rfl
  unfold State.completeRender
  split
  · rfl
  · dsimp only
    rw [sweep, join]
    exact (State.startRender_leaves _).seats

theorem State.completeTransmission_seats : s.completeTransmission.seats = s.seats := by
  unfold State.completeTransmission
  split <;> rfl

end

/-- Every command makes moves of the slots. -/
theorem exec_moves {c : Instr} {s t : State} (run : exec c s = .next t) : s.SlotsMove t := by
  cases hd : c.directive? with
  | some d =>
    obtain ⟨k, tag, p⟩ := d
    rw [exec_of_directive hd] at run
    cases run
    exact .after_seats (t := s.consumeSpan) rfl (State.carryOut_moves _ k _ tag p)
  | none =>
    cases c with
    | powerOnReset straps sense => cases run; exact s.powerOnReset_moves straps sense
    | symbolAcquisition => cases run; exact .of_seats s.acquireSymbols_seats
    | symbolLoss => cases run; exact .of_seats s.loseSymbols_seats
    | frameStart n l b => cases run; exact .of_seats (s.takeFrameStart_seats n l b)
    | marginPacket bytes => cases run; exact s.takeMarginPacket_moves bytes
    | lineGroup z => cases run; exact .of_seats (s.takeLineGroup_seats z)
    | frameEnd => cases run; exact .of_seats s.takeFrameEnd_seats
    | frameTimeout => cases run; exact .of_seats s.frameTimeout_seats
    | flywheelFrameStart b => cases run; exact .of_seats (State.seats_ite (s.outputStart_seats _ b) rfl)
    | flywheelLine => cases run; exact .of_seats s.flywheelLine_seats
    | flywheelFrameEnd => cases run; exact .of_seats s.flywheelEnd_seats
    | tenthTick => cases run; exact .of_seats rfl
    | secondTick order =>
      cases run
      exact .after_seats (t := { s with divider := { s.divider with secondDue := false } }) rfl
        (State.tickReceivers_moves _ order)
    | minuteBoundary => cases run; exact .ite s.advanceMinute_moves (.of_seats rfl)
    | enterHoldover => cases run; exact .ite s.advanceMinute_moves (.of_seats s.holdoverStep_leaves.seats)
    | enterLost => cases run; exact .ite s.advanceMinute_moves (.of_seats s.lostStep_leaves.seats)
    | clockSaturation => cases run; exact .of_seats (State.seats_ite s.loseClock_leaves.seats rfl)
    | lifetimeExpiry => cases run; exact .of_seats (s.removeNotices_leaves _).seats
    | chimePatternStart i => cases run; exact .of_seats (State.seats_ite rfl rfl)
    | chimeCountdownExpiry i => cases run; exact .of_seats rfl
    | pageTurn l r => cases run; exact .of_seats (State.seats_ite (s.turnPage_leaves l r).leaves.seats rfl)
    | tickerStep d => cases run; exact .of_seats (State.seats_ite (s.stepTicker_leaves d).leaves.seats rfl)
    | renderStart => cases run; exact .of_seats s.startRender_leaves.seats
    | renderCompletion => cases run; exact .of_seats s.completeRender_seats
    | chainPacketArrival p => cases run; exact .of_seats (State.seats_ite rfl rfl)
    | upstreamReady => cases run; exact .of_seats rfl
    | upstreamReadyWithdrawal => cases run; exact .of_seats rfl
    | transmissionCompletion => cases run; exact .of_seats s.completeTransmission_seats
    | panelRemoval d => cases run; exact .of_seats (State.seats_ite rfl rfl)
    | panelAttachment d => cases run; exact .of_seats (State.seats_ite rfl rfl)
    | _ => simp [Instr.directive?] at hd

/-- A step makes moves of the slots: an idle one leaves them, and any other is a command's. -/
theorem step_moves {s t : State} (run : step s = .next t) : s.SlotsMove t := by
  unfold step at run
  split at run
  · cases run
    exact .of_seats rfl
  · next c rest _ => exact .after_seats (t := { s with pending := rest }) rfl (exec_moves run)

/-- Settles O12: a step makes moves of the slots, and a move keeps a tally within the limits of its show. -/
theorem talliesStayFit : Obligations.TalliesStayFit := by
  unfold Obligations.TalliesStayFit
  intro s t fit run
  exact t.talliesFit_iff.mpr fun x => (step_moves run x).fitsShow (s.talliesFit_iff.mp fit x)

/-- Settles O20: a step makes a move of the slot, and no move but a clear reaches the numbers of a tally whose sales have
closed at a show that is past BOARDING. -/
theorem closedSalesFreezeTally : Obligations.ClosedSalesFreezeTally := by
  unfold Obligations.ClosedSalesFreezeTally
  intro s t x run closed late
  exact (step_moves run x).frozen closed late

end Sys2Proof.Machine
end

section
/-! SUPPORT. The notice queue as a list, and what a placement does by the way it is handled (R107, R111 to R113). -/

namespace Sys2Proof.Machine

/-! ### Queues in order (R107) -/

section
variable {q r : List Notice} {n : Notice}

/-- The order of a queue rests on the ids and the classes alone. -/
theorem NoticesOrdered.of_map (h : NoticesOrdered q) (ids : r.map Notice.id = q.map Notice.id)
    (classes : r.map Notice.cls = q.map Notice.cls) : NoticesOrdered r where
  room := by
    have length := congrArg List.length ids
    rw [List.length_map, List.length_map] at length
    exact length ▸ h.room
  distinct := ids ▸ h.distinct
  classes := by
    have sorted := h.classes
    rw [← List.pairwise_map (f := Notice.cls) (R := fun a b => a.code ≤ b.code)] at sorted ⊢
    exact classes ▸ sorted

theorem NoticesOrdered.sublist (h : NoticesOrdered q) (sub : r.Sublist q) : NoticesOrdered r where
  room := sub.length_le.trans h.room
  distinct := (sub.map _).nodup h.distinct
  classes := h.classes.sublist sub

theorem NoticesOrdered.eq_of_id (h : NoticesOrdered q) {a b : Notice} (ha : a ∈ q) (hb : b ∈ q) (same : a.id = b.id) :
    a = b :=
  List.inj_on_of_nodup_map h.distinct ha hb same

/-- A notice that ages keeps its id and its class (R117). -/
theorem NoticesOrdered.aged (h : NoticesOrdered q) : NoticesOrdered (q.map Notice.aged) :=
  h.of_map (by rw [List.map_map]; rfl) (by rw [List.map_map]; rfl)

theorem joinClass_perm (q : List Notice) (n : Notice) : (joinClass q n).Perm (n :: q) := by
  have parts := List.takeWhile_append_dropWhile (p := fun m : Notice => decide (m.cls.code ≤ n.cls.code)) (l := q)
  rw [joinClass, List.append_assoc]
  exact List.perm_middle.trans (parts.symm ▸ .refl _)

/-- A new notice that joins a queue with room at the end of its class leaves it in order (R107). -/
theorem NoticesOrdered.join (h : NoticesOrdered q) (new : ∀ m ∈ q, m.id ≠ n.id) (room : q.length < 32) :
    NoticesOrdered (joinClass q n) where
  room := by
    rw [(joinClass_perm q n).length_eq]
    exact room
  distinct := by
    rw [((joinClass_perm q n).map Notice.id).nodup_iff, List.map_cons, List.nodup_cons]
    exact ⟨fun live => by
      obtain ⟨m, hm, same⟩ := List.mem_map.mp live
      exact new m hm same, h.distinct⟩
  classes := by
    rw [joinClass_of_sorted n h.classes, List.append_assoc, List.pairwise_append]
    refine ⟨h.classes.filter _, ?_, fun a ha b hb => ?_⟩
    · refine List.pairwise_cons.mpr ⟨fun b hb => ?_, h.classes.filter _⟩
      exact (of_decide_eq_true (List.mem_filter.mp hb).2).le
    · have before : a.cls.code ≤ n.cls.code := of_decide_eq_true (List.mem_filter.mp ha).2
      obtain rfl | after := List.mem_cons.mp hb
      · exact before
      · exact before.trans (of_decide_eq_true (List.mem_filter.mp after).2).le

/-- A replacement keeps the order: in place within a class, and as a join of another class (R111). -/
theorem NoticesOrdered.replace (h : NoticesOrdered q) {old : Notice} (live : old ∈ q) (same : old.id = n.id) :
    NoticesOrdered (replaceNotice q old n) := by
  unfold replaceNotice
  split
  · next cls =>
    refine h.of_map ?_ ?_
    · rw [List.map_map]
      refine List.map_congr_left fun m _ => ?_
      by_cases e : m.id = n.id <;> simp [e]
    · rw [List.map_map]
      refine List.map_congr_left fun m hm => ?_
      by_cases e : m.id = n.id
      · simp [cls, h.eq_of_id hm live (e.trans same.symm), same]
      · simp [e]
  · refine (h.sublist List.filter_sublist).join (fun m hm => ?_) ?_
    · simpa using (List.mem_filter.mp hm).2
    · refine (List.length_filter_lt_length_iff_exists.mpr ⟨old, live, ?_⟩).trans_le h.room
      simp [same]

theorem mem_replaceNotice {old m : Notice} (h : m ∈ replaceNotice q old n) : m ∈ q ∨ m = n := by
  unfold replaceNotice at h
  split at h
  · obtain ⟨a, ha, rfl⟩ := List.mem_map.mp h
    split
    · exact .inr rfl
    · exact .inl ha
  · obtain e | kept := List.mem_cons.mp ((joinClass_perm _ n).mem_iff.mp h)
    · exact .inr e
    · exact .inl (List.mem_filter.mp kept).1

end

/-! ### The ways of a placement (R111 to R113) -/

theorem liveNotice_eq_none (q : List Notice) (id : Byte) : liveNotice q id = none ↔ ∀ m ∈ q, m.id ≠ id := by
  simp [liveNotice, List.find?_eq_none]

/-- Is an id of no notice of a queue? -/
def NewTo (q : List Notice) (n : Notice) : Prop := ∀ m ∈ q, m.id ≠ n.id

/-- What the handling of a placement says of the queue (R111, R112). -/
inductive Placement.Fits (q : List Notice) (n : Notice) : Placement → Prop
  | replace {old : Notice} (live : old ∈ q) (same : old.id = n.id) : Placement.Fits q n (.replace old)
  | join (new : NewTo q n) (room : q.length < 32) : Placement.Fits q n .join
  | evict {tail : Notice} (new : NewTo q n) (full : 32 ≤ q.length) (last : q.getLast? = some tail)
      (lower : n.cls.code < tail.cls.code) : Placement.Fits q n (.evict tail)
  | fail (new : NewTo q n) (full : 32 ≤ q.length)
      (last : ∀ tail, q.getLast? = some tail → tail.cls.code ≤ n.cls.code) : Placement.Fits q n .fail

theorem placementOf_fits (q : List Notice) (n : Notice) : Placement.Fits q n (placementOf q n) := by
  unfold placementOf
  split
  · next live => exact .replace (List.mem_of_find?_eq_some live) (by simpa using List.find?_some live)
  · next none =>
    have new : NewTo q n := (liveNotice_eq_none _ _).mp none
    split
    · next room => exact .join new room
    · next full =>
      replace full := Nat.le_of_not_lt full
      split
      · next tail last =>
        split
        · next lower => exact .evict new full last lower
        · next notLower =>
          refine .fail new full fun other h => ?_
          obtain rfl := Option.some.inj (last.symm.trans h)
          exact Nat.le_of_not_lt notLower
      · next last => exact .fail new full fun other h => nomatch last.symm.trans h

/-- A placement replaces the live notice of its id, joins a queue with room, takes the place of a tail of a strictly lower
class, or fails (R111 to R114). -/
inductive State.Placing (s : State) (n : Notice) : Prop
  | replaces (old : Notice) (live : old ∈ s.notice.queue) (same : old.id = n.id)
      (run : s.placeNotice n =
        some ((s.setNotices (replaceNotice s.notice.queue old n)).placed n (old.target ||| n.target)))
  | joins (new : NewTo s.notice.queue n) (room : s.notice.queue.length < 32)
      (run : s.placeNotice n = some ((s.setNotices (joinClass s.notice.queue n)).placed n n.target))
  | evicts (tail : Notice) (new : NewTo s.notice.queue n) (full : 32 ≤ s.notice.queue.length)
      (last : s.notice.queue.getLast? = some tail) (lower : n.cls.code < tail.cls.code)
      (run : s.placeNotice n = some (((s.evictTail tail).setNotices
        (joinClass s.notice.queue.dropLast n)).placed n (tail.target ||| n.target)))
  | fails (new : NewTo s.notice.queue n) (full : 32 ≤ s.notice.queue.length)
      (last : ∀ tail, s.notice.queue.getLast? = some tail → tail.cls.code ≤ n.cls.code)
      (run : s.placeNotice n = none)

theorem State.placing (s : State) (n : Notice) : s.Placing n := by
  have fits := placementOf_fits s.notice.queue n
  cases way : placementOf s.notice.queue n <;> rw [way] at fits
  case replace old =>
    cases fits with
    | replace live same => exact .replaces old live same (by rw [State.placeNotice, way])
  case join =>
    cases fits with
    | join new room => exact .joins new room (by rw [State.placeNotice, way])
  case evict tail =>
    cases fits with
    | evict new full last lower =>
      have shorter : (s.evictTail tail).notice.queue = s.notice.queue.dropLast := by
        rw [(s.evictTail_spec tail).2.1]
      exact .evicts tail new full last lower (by rw [State.placeNotice, way, ← shorter])
  case fail =>
    cases fits with
    | fail new full last => exact .fails new full last (by rw [State.placeNotice, way])

/-- A placement leaves the queue in order, with no notice that was not there but its own (R107, R111 to R113). -/
theorem State.placeNotice_ordered {s t : State} {n : Notice} (h : NoticesOrdered s.notice.queue)
    (run : s.placeNotice n = some t) :
    NoticesOrdered t.notice.queue ∧ ∀ m ∈ t.notice.queue, m ∈ s.notice.queue ∨ m = n := by
  have joined : ∀ {r : List Notice} {m : Notice}, r.Sublist s.notice.queue → m ∈ joinClass r n →
      m ∈ s.notice.queue ∨ m = n := fun sub hm =>
    (List.mem_cons.mp ((joinClass_perm _ n).mem_iff.mp hm)).symm.imp_left (sub.mem ·)
  cases s.placing n with
  | replaces old live same run' =>
    cases run'.symm.trans run
    rw [(State.placed_spec _ _ _).2.1]
    exact ⟨h.replace live same, fun m => mem_replaceNotice⟩
  | joins new room run' =>
    cases run'.symm.trans run
    rw [(State.placed_spec _ _ _).2.1]
    exact ⟨h.join new room, fun m => joined (.refl _)⟩
  | evicts tail new full last lower run' =>
    cases run'.symm.trans run
    rw [(State.placed_spec _ _ _).2.1]
    have sub := List.dropLast_sublist s.notice.queue
    refine ⟨(h.sublist sub).join (fun m hm => new m (sub.mem hm)) ?_, fun m => joined sub⟩
    rw [List.length_dropLast]
    have := h.room
    omega
  | fails new full last run' => exact nomatch run'.symm.trans run

end Sys2Proof.Machine
end

section
/-! SUPPORT. What an output frame start does at the notice unit and at the modes of the displays: the staged directives keep
the saved modes legal, the takeovers settle, and the rest leaves both alone (R122, R155, R162, R167, R170, R171). -/

namespace Sys2Proof.Machine

/-! ### Folds over distinct items -/

/-- An operation that changes what is read at its own item alone, run over a list of distinct items, changes it at the items
of the list alone, once each. -/
theorem foldl_read_at {σ ι α : Type} [DecidableEq ι] {read : σ → ι → α} {f : σ → ι → σ} {g : ι → α → α}
    (h : ∀ s x y, read (f s x) y = if y = x then g x (read s x) else read s y) (y : ι) :
    ∀ L : List ι, L.Nodup → ∀ s, read (L.foldl f s) y = if y ∈ L then g y (read s y) else read s y
  | [], _, s => by simp
  | x :: L, nodup, s => by
    obtain ⟨out, nodup⟩ := List.nodup_cons.mp nodup
    rw [List.foldl_cons, foldl_read_at h y L nodup (f s x), h]
    by_cases e : y = x
    · subst e
      simp [out]
    · simp [e]

theorem foldl_finRange_read {σ α : Type} {k : Nat} {read : σ → Fin k → α} {f : σ → Fin k → σ} {g : Fin k → α → α}
    (h : ∀ s x y, read (f s x) y = if y = x then g x (read s x) else read s y) (s : σ) (y : Fin k) :
    read ((List.finRange k).foldl f s) y = g y (read s y) := by
  rw [foldl_read_at h y _ (List.nodup_finRange k) s, if_pos (List.mem_finRange y)]

/-! ### What leaves the notice unit and the displays alone -/

/-- The notice unit and the display records are the same in two states. -/
structure State.KeepsScreens (s t : State) : Prop where
  notice   : t.notice = s.notice
  displays : t.comp.displays = s.comp.displays

namespace State.KeepsScreens

theorem refl (s : State) : s.KeepsScreens s := ⟨rfl, rfl⟩

theorem trans {s t u : State} (h : s.KeepsScreens t) (k : t.KeepsScreens u) : s.KeepsScreens u :=
  ⟨k.notice.trans h.notice, k.displays.trans h.displays⟩

theorem ite {s t u : State} {p : Prop} [Decidable p] (h : s.KeepsScreens t) (k : s.KeepsScreens u) :
    s.KeepsScreens (if p then t else u) := by split <;> assumption

theorem foldl {α : Type} {f : State → α → State} (h : ∀ s a, State.KeepsScreens s (f s a)) (as : List α) (s : State) :
    s.KeepsScreens (as.foldl f s) :=
  List.foldlRecOn as f (refl s) fun t k a _ => k.trans (h t a)

theorem of_marks {s t : State} (h : s.Leaves [.rep, .fmt] t) : s.KeepsScreens t :=
  ⟨h.blocks.notice (by simp), by rw [h.blocks.comp (by simp)]⟩

end State.KeepsScreens

section
variable (s : State)

theorem State.setPage_keepsScreens (l : LayoutNo) (r : RegionNo) (p : PageState) : s.KeepsScreens (s.setPage l r p) :=
  ⟨rfl, rfl⟩

theorem State.bindTile_keepsScreens (t : TileNo) (b : Option Binding) : s.KeepsScreens (s.bindTile t b) := by
  have bound : ∀ x : Tile, s.KeepsScreens (s.setTile t x) := fun x => ⟨rfl, rfl⟩
  have dirty : ∀ x : Tile, s.KeepsScreens ((s.setTile t x).makeDirty t) := fun x =>
    (bound x).trans (.of_marks (State.makeDirty_leaves _ t))
  unfold State.bindTile
  dsimp only
  split
  · exact dirty _
  · exact dirty _
  · exact bound _
  · exact bound _
  · exact bound _

theorem State.releaseTile_keepsScreens (t : TileNo) : s.KeepsScreens (s.releaseTile t) := by
  unfold State.releaseTile
  dsimp only
  split <;> exact ⟨rfl, rfl⟩

theorem State.releaseAll_keepsScreens (ts : List TileNo) : s.KeepsScreens (s.releaseAll ts) :=
  .foldl State.releaseTile_keepsScreens ts s

theorem State.bindAll_keepsScreens (l : LayoutNo) (ts : List TileNo) : s.KeepsScreens (s.bindAll l ts) :=
  .foldl (fun s t => s.bindTile_keepsScreens t _) ts s

/-- A landed LAYOUT or REGION write reaches pages and tiles (R156, R158). -/
theorem State.tilesAfterWrite_keepsScreens (b : Compositor) (l : LayoutNo) (w z : RegionNo → Bool) :
    s.KeepsScreens (s.tilesAfterWrite b l w z) := by
  have pages : ∀ (u : State) (r : RegionNo), u.KeepsScreens (u.pageAfterWrite b w l r) := fun u r =>
    .ite (.ite ⟨rfl, rfl⟩ (.refl u)) (.ite ⟨rfl, rfl⟩ (.refl u))
  exact .ite (((State.KeepsScreens.foldl pages _ s).trans (State.releaseAll_keepsScreens _ _)).trans
    (State.bindAll_keepsScreens _ _ _)) (.refl s)

theorem State.landLayout_keepsScreens (tag : Byte) (l : LayoutNo) (img : Layout) :
    s.KeepsScreens (s.landLayout tag l img) :=
  .ite (.trans (t := s.setComp { s.comp with layouts := s.comp.layouts.write l img }) ⟨rfl, rfl⟩
    (State.tilesAfterWrite_keepsScreens _ _ _ _ _)) ⟨rfl, rfl⟩

theorem State.landRegion_keepsScreens (tag : Byte) (i : Fin 128) (img : Region) :
    s.KeepsScreens (s.landRegion tag i img) :=
  .ite (.trans (t := s.setComp { s.comp with regions := s.comp.regions.write i img }) ⟨rfl, rfl⟩
    (State.tilesAfterWrite_keepsScreens _ _ _ _ _)) ⟨rfl, rfl⟩

theorem State.recountLayouts_keepsScreens : s.KeepsScreens s.recountLayouts := by
  have leave : ∀ (u : State) (l : LayoutNo), u.KeepsScreens (u.leaveLayout l) := fun u l =>
    (u.releaseAll_keepsScreens _).trans (.foldl (fun s r => s.setPage_keepsScreens l r _) _ _)
  have enter : ∀ (u : State) (l : LayoutNo), u.KeepsScreens (u.enterLayout l) := fun u l =>
    (State.KeepsScreens.foldl (fun s r => s.setPage_keepsScreens l r _) _ u).trans (State.bindAll_keepsScreens _ _ _)
  have counted : ∀ u : State, u.KeepsScreens (u.setComp { u.comp with inUse := Table.tabulate u.comp.users }) :=
    fun u => ⟨rfl, rfl⟩
  exact ((State.KeepsScreens.foldl leave _ s).trans (.foldl enter _ _)).trans (counted _)

theorem State.settleTile_keepsScreens (d : DisplayNo) : s.KeepsScreens (s.settleTile d) := by
  have needed : ∀ w : DisplaySet, s.KeepsScreens (s.setComp { s.comp with tileNeeded := w }) := fun w => ⟨rfl, rfl⟩
  exact .ite ((needed _).trans (State.bindTile_keepsScreens _ _ _))
    (.ite ((needed _).trans (State.releaseTile_keepsScreens _ _)) (needed _))

theorem State.settleTicker_keepsScreens (fresh : BitVec 16) (d : DisplayNo) : s.KeepsScreens (s.settleTicker fresh d) := by
  unfold State.settleTicker
  dsimp only
  split
  · exact .ite (.trans (t := s.setTicker d _) ⟨rfl, rfl⟩ (.of_marks (State.markTile_leaves _ _))) (.refl s)
  · exact ⟨rfl, rfl⟩

end

/-! ### The landing of staged directives (R154, R167, R168) -/

/-- No saved mode is TAKEOVER (R166). -/
def State.SavedLegal (s : State) : Prop := ∀ d : DisplayNo, (s.display d).saved ≠ .takeover

theorem State.display_setDisplay (s : State) (d e : DisplayNo) (x : Display) :
    (s.setDisplay d x).display e = if e = d then x else s.display e := Table.read_write _ _ _ _

theorem State.SavedLegal.setDisplay {s : State} (h : s.SavedLegal) (d : DisplayNo) {x : Display}
    (saved : x.saved ≠ .takeover) : (s.setDisplay d x).SavedLegal := fun e => by
  rw [State.display_setDisplay]
  split
  · exact saved
  · exact h e

theorem State.SavedLegal.of_screens {s t : State} (h : s.SavedLegal) (k : s.KeepsScreens t) : t.SavedLegal := fun d => by
  rw [State.display, k.displays]
  exact h d

/-- The notice unit is the same, and where a condition holds saved modes stay legal. -/
structure State.Lands (ok : Prop) (s t : State) : Prop where
  notice : t.notice = s.notice
  saved  : ok → s.SavedLegal → t.SavedLegal

section
variable {ok : Prop}

theorem State.Lands.trans {s t u : State} (h : s.Lands ok t) (k : t.Lands ok u) : s.Lands ok u :=
  ⟨k.notice.trans h.notice, fun o => k.saved o ∘ h.saved o⟩

theorem State.Lands.of_screens {s t : State} (h : s.KeepsScreens t) : s.Lands ok t :=
  ⟨h.notice, fun _ legal => legal.of_screens h⟩

theorem State.Lands.foldl {α : Type} {f : State → α → State} (h : ∀ s a, State.Lands ok s (f s a)) (as : List α)
    (s : State) : s.Lands ok (as.foldl f s) :=
  List.foldlRecOn as f (.of_screens (.refl s)) fun t k a _ => k.trans (h t a)

/-- A display record replaced by one whose saved mode is legal where the former one's is. -/
theorem State.Lands.setDisplay (s : State) (d : DisplayNo) {x : Display}
    (saved : ok → (s.display d).saved ≠ .takeover → x.saved ≠ .takeover) : s.Lands ok (s.setDisplay d x) :=
  ⟨rfl, fun o legal => legal.setDisplay d (saved o (legal d))⟩

end

/-- Is a staged directive no SET DISPLAY MODE to TAKEOVER? None that decoding makes is (R168). -/
def Staged.ModeLegal (x : Staged) : Prop := ∀ ds m, x.body = .displayMode ds m → m ≠ .takeover

theorem Landing.land_lands (p : Landing) (x : Staged) : p.state.Lands x.ModeLegal (p.land x).state := by
  unfold Landing.land
  dsimp only
  split
  · next ds m body =>
    refine .foldl (fun s d => .setDisplay s d fun legal saved => ?_) _ _
    unfold Display.takeMode
    split
    · exact legal ds m body
    · exact saved
  · refine .foldl (fun s d => ?_) _ _
    unfold State.selectAt
    split
    · exact .of_screens ⟨rfl, rfl⟩
    · exact .setDisplay s d fun _ => id
  · refine .foldl (fun s d => ?_) _ _
    exact .setDisplay s d fun _ => id
  · refine .foldl (fun s d => ?_) _ _
    exact .setDisplay s d fun _ => id
  · rw [Landing.freshIf_state]
    exact .of_screens (State.landLayout_keepsScreens _ _ _ _)
  · rw [Landing.freshIf_state]
    exact .of_screens (State.landRegion_keepsScreens _ _ _ _)
  · exact .of_screens ⟨rfl, rfl⟩
  · exact .of_screens ⟨rfl, rfl⟩

/-- The staged directives leave the notice unit alone, and with legal modes the saved ones legal (R28, R166, R168). -/
theorem State.landStaged_lands (s : State) : s.takeHanded.Lands s.ModesLegal s.landStaged.state :=
  List.foldlRecOn (motive := fun p : Landing => s.takeHanded.Lands s.ModesLegal p.state) s.dir.handed Landing.land
    (.of_screens (.refl _)) fun p k x held =>
      ⟨(p.land_lands x).notice.trans k.notice, fun legal saved =>
        (p.land_lands x).saved (fun ds m body => legal.staged x (List.mem_filter.mp held).1 ds m body)
          (k.saved legal saved)⟩

theorem State.landStaged_notice (s : State) : s.landStaged.state.notice = s.notice := s.landStaged_lands.notice

theorem State.landStaged_savedLegal {s : State} (legal : s.ModesLegal) : s.landStaged.state.SavedLegal :=
  s.landStaged_lands.saved legal legal.saved

/-! ### The takeovers (R170) -/

/-- A display record after step 3, with the takeover notice of the display and its wake request (R170). -/
def Display.settled (x : Display) (notice : Option Notice) (wake : Bool) : Display :=
  let y := x.settleTakeover notice
  { y with
    mode := if decide (y.mode = .dark) && wake then .live else y.mode
    takeover := notice.map fun n => n.id }

theorem State.settleMode_notice (s : State) (d : DisplayNo) :
    (s.settleMode d).notice = { s.notice with wake := s.notice.wake &&& ~~~(BitVec.twoPow 12 d.val) } := by
  unfold State.settleMode
  dsimp only
  split <;> rfl

theorem State.settleMode_display (s : State) (d e : DisplayNo) :
    (s.settleMode d).display e = if e = d then
      (s.display d).settled (takeoverNotice s.notice.queue d) (s.notice.wake.getLsbD d.val) else s.display e := by
  have flagged : ∀ (u : State) (p : Prop) [Decidable p] (y : DisplayNo),
      (if p then State.setFlag .displayWoke u else u).display y = u.display y := fun u p _ y => by split <;> rfl
  have cleared : ∀ (u : State) (w : DisplaySet) (y : DisplayNo),
      ({ u with notice := { u.notice with wake := w } } : State).display y = u.display y := fun _ _ _ => rfl
  unfold State.settleMode
  dsimp only
  simp only [State.display_setDisplay, cleared, flagged, if_true]
  split
  · unfold Display.settled
    dsimp only
    split <;> rfl
  · rfl

/-- Step 3 leaves the queue and the post buffer, and consumes the wake requests of the displays that it settles (R170). -/
theorem State.settleModes_notice (s : State) : s.settleModes.notice = { s.notice with wake := 0 } := by
  have kept : ∀ (L : List DisplayNo) (s : State), (L.foldl State.settleMode s).notice =
      { s.notice with wake := (L.foldl State.settleMode s).notice.wake } := by
    intro L
    induction L with
    | nil => exact fun _ => rfl
    | cons d L ih =>
      intro s
      rw [List.foldl_cons, ih, s.settleMode_notice]
  have bits : ∀ d : DisplayNo, s.settleModes.notice.wake.getLsbD d.val = false :=
    foldl_finRange_read (read := fun (s : State) (d : DisplayNo) => s.notice.wake.getLsbD d.val) (g := fun _ _ => false)
      (fun s d e => by
        rw [s.settleMode_notice]
        have same : e.val = d.val ↔ e = d := Fin.val_inj
        by_cases h : e = d <;> simp [h, same]) s
  have wake : s.settleModes.notice.wake = 0 := BitVec.eq_of_getLsbD_eq fun i hi => by
    rw [bits ⟨i, hi⟩]
    simp
  have whole := kept (List.finRange 12) s
  rw [State.settleModes] at wake ⊢
  rw [whole, wake]

/-- Every display after step 3, by the queue and the wake requests before it (R170). -/
theorem State.settleModes_display (s : State) (d : DisplayNo) : s.settleModes.display d =
    (s.display d).settled (takeoverNotice s.notice.queue d) (s.notice.wake.getLsbD d.val) := by
  have reads := foldl_finRange_read
    (read := fun (s : State) (d : DisplayNo) => (s.display d, s.notice.queue, s.notice.wake.getLsbD d.val))
    (g := fun d x => (x.1.settled (takeoverNotice x.2.1 d) x.2.2, x.2.1, false))
    (f := State.settleMode)
    (fun s d e => by
      rw [s.settleMode_notice, s.settleMode_display]
      have same : e.val = d.val ↔ e = d := Fin.val_inj
      by_cases h : e = d
      · simp [h]
      · simp [h, same]) s d
  exact (Prod.mk.inj reads).1

theorem Display.settled_takeover (x : Display) (notice : Option Notice) (wake : Bool) :
    (x.settled notice wake).takeover = notice.map fun n => n.id := rfl

/-- A display settles into TAKEOVER exactly where it has a takeover notice (R170). -/
theorem Display.settled_mode {x : Display} (saved : x.saved ≠ .takeover) (notice : Option Notice) (wake : Bool) :
    (x.settled notice wake).mode = .takeover ↔ notice.isSome = true := by
  have woken : (x.settled notice wake).mode = .takeover ↔ (x.settleTakeover notice).mode = .takeover := by
    unfold Display.settled
    dsimp only
    split
    · next dark => simp_all
    · rfl
  rw [woken]
  unfold Display.settleTakeover
  cases notice with
  | some n =>
    dsimp only
    split
    · next taken => simp [taken]
    · simp
  | none =>
    dsimp only
    split
    · simp [saved]
    · next free => simp [free]

/-! ### The output frame start (R167) -/

/-- The notice unit and the modes and takeover notices of the displays are the same in two states. -/
structure State.KeepsModes (s t : State) : Prop where
  notice : t.notice = s.notice
  modes  : ∀ d : DisplayNo, (t.display d).mode = (s.display d).mode ∧ (t.display d).takeover = (s.display d).takeover

theorem State.KeepsModes.trans {s t u : State} (h : s.KeepsModes t) (k : t.KeepsModes u) : s.KeepsModes u :=
  ⟨k.notice.trans h.notice, fun d =>
    ⟨(k.modes d).1.trans (h.modes d).1, (k.modes d).2.trans (h.modes d).2⟩⟩

theorem State.KeepsModes.of_screens {s t : State} (h : s.KeepsScreens t) : s.KeepsModes t :=
  ⟨h.notice, fun d => by simp only [State.display, h.displays, and_self]⟩

theorem State.KeepsModes.foldl {α : Type} {f : State → α → State} (h : ∀ s a, State.KeepsModes s (f s a)) (as : List α)
    (s : State) : s.KeepsModes (as.foldl f s) :=
  List.foldlRecOn as f (.of_screens (.refl s)) fun t k a _ => k.trans (h t a)

theorem State.settleBanner_keepsModes (s : State) (d : DisplayNo) : s.KeepsModes (s.settleBanner d) :=
  ⟨rfl, fun e => by
    rw [State.settleBanner, State.display_setDisplay]
    split
    · next same => exact same ▸ ⟨rfl, rfl⟩
    · exact ⟨rfl, rfl⟩⟩

/-- Step 5 at one display reaches its tile, its ticker and its banner (R171). -/
theorem State.settleNotice_keepsModes (fresh : BitVec 16) (old : Table Display 12) (s : State) (d : DisplayNo) :
    s.KeepsModes (s.settleNotice fresh old d) := by
  have change : ∀ u : State, u.KeepsScreens (u.settleChange (old.read d) (s.comp.bindsNotice d) d) := fun u =>
    .ite (.of_marks (u.markTile_leaves _)) (.refl u)
  exact (((State.KeepsModes.of_screens (s.settleTile_keepsScreens d)).trans
    (.of_screens (State.settleTicker_keepsScreens _ fresh d))).trans (State.settleBanner_keepsModes _ d)).trans
    (.of_screens (change _))

/-- Steps 4 and 5 keep what step 3 has settled (R155, R167, R171). -/
theorem State.compositorStart_keepsModes (s : State) :
    s.landStaged.state.latchColours.settleModes.KeepsModes s.compositorStart :=
  (State.KeepsModes.of_screens (State.recountLayouts_keepsScreens _)).trans
    (.foldl (State.settleNotice_keepsModes _ _) _ _)

theorem State.compositorStart_notice (s : State) : s.compositorStart.notice = { s.notice with wake := 0 } := by
  have latched : s.landStaged.state.latchColours.notice = s.notice := s.landStaged_notice
  rw [s.compositorStart_keepsModes.notice, State.settleModes_notice, latched]

/-- A display is in TAKEOVER exactly where it has a takeover notice, and its record names it. -/
def State.Settled (s : State) (q : List Notice) : Prop :=
  ∀ d : DisplayNo, ((s.display d).mode = .takeover ↔ (takeoverNotice q d).isSome = true) ∧
    (s.display d).takeover = (takeoverNotice q d).map fun n => n.id

theorem State.compositorStart_settled {s : State} (legal : s.ModesLegal) : s.compositorStart.Settled s.notice.queue := by
  intro d
  obtain ⟨mode, takeover⟩ := s.compositorStart_keepsModes.modes d
  have latched : s.landStaged.state.latchColours.notice = s.notice := s.landStaged_notice
  have saved : (s.landStaged.state.latchColours.display d).saved ≠ .takeover := State.landStaged_savedLegal legal d
  rw [mode, takeover, State.settleModes_display, latched]
  exact ⟨Display.settled_mode saved _ _, Display.settled_takeover _ _ _⟩

theorem State.ModesLegal.of_same {s t : State} (h : s.ModesLegal) (displays : t.comp.displays = s.comp.displays)
    (staging : t.dir.staging = s.dir.staging) : t.ModesLegal where
  saved d := by
    rw [State.display, displays]
    exact h.saved d
  staged := staging ▸ h.staged

theorem State.frameStartHandling_notice (s : State) (b : Bool) :
    (s.frameStartHandling b).notice = { s.notice with wake := 0 } := by
  cases b with
  | false => rw [State.frameStartHandling_commitLast, State.commitTiles_notice, State.compositorStart_notice]
  | true => rw [State.frameStartHandling_commitFirst, State.compositorStart_notice, State.commitTiles_notice]

theorem State.frameStartHandling_settled {s : State} (legal : s.ModesLegal) (b : Bool) :
    (s.frameStartHandling b).Settled s.notice.queue := by
  cases b with
  | false =>
    rw [State.frameStartHandling_commitLast]
    intro d
    rw [State.display, State.commitTiles_comp]
    exact State.compositorStart_settled legal d
  | true =>
    have same : s.commitTiles.ModesLegal := legal.of_same (by rw [State.commitTiles_comp]) (by rw [State.commitTiles_dir])
    have settled := State.compositorStart_settled same
    rw [State.commitTiles_notice] at settled
    rwa [State.frameStartHandling_commitFirst]

/-- An output frame start consumes the wake requests, and reaches nothing else of the notice unit (R123, R170). -/
theorem State.outputStart_notice (s : State) (o : OutputFrame) (b : Bool) :
    (s.outputStart o b).notice = { s.notice with wake := 0 } := State.frameStartHandling_notice _ b

theorem State.outputStart_settled {s : State} (legal : s.ModesLegal) (o : OutputFrame) (b : Bool) :
    (s.outputStart o b).Settled s.notice.queue := by
  have same : ∀ f, ((s.portsStart s.feed.output.isOpen).setFeed f).ModesLegal := fun f =>
    legal.of_same (by simp [State.portsStart, State.setPorts]) (by simp [State.portsStart])
  exact State.frameStartHandling_settled (same _) b

/-- A command that brings an output frame start changes the feed receiver and runs it (R12, R13). -/
theorem State.startsOutput_run {s t : State} {c : Instr} (starts : s.startsOutput c) (run : exec c s = .next t) :
    ∃ f o b, t = (s.setFeed f).outputStart o b := by
  obtain ⟨b, rfl, free⟩ | ⟨n, l, b, rfl, ⟨lock, phase⟩ | ⟨lock, candidate, count⟩⟩ := starts
  · have free := (s.startsOutput_flywheel_iff b).mp (.inl ⟨b, rfl, free⟩)
    cases run
    exact ⟨s.feed, .flywheel 0, b, State.flywheelStart_of_free free b⟩
  · cases run
    exact ⟨_, _, _, State.takeFrameStart_of_between lock phase n l b⟩
  · cases run
    exact ⟨_, _, _, State.takeFrameStart_of_next lock candidate count l b⟩

/-! ### The takeover notice (R122) -/

theorem Notice.takesOver_iff (n : Notice) (d : DisplayNo) :
    (n.cls == .urgent && n.takeover && n.targets d) = true ↔ n.TakesOver d := by
  simp [Notice.TakesOver, Notice.targets, and_assoc]

theorem takeoverNotice_eq_some_iff (q : List Notice) (d : DisplayNo) (n : Notice) :
    takeoverNotice q d = some n ↔ FirstTakeover q d n := by
  have none : ∀ m : Notice, (!(m.cls == .urgent && m.takeover && m.targets d)) = true ↔ ¬ m.TakesOver d := fun m => by
    rw [← m.takesOver_iff d, Bool.not_eq_true', Bool.not_eq_true]
  rw [takeoverNotice, List.find?_eq_some_iff_getElem, n.takesOver_iff d]
  constructor
  · rintro ⟨takes, i, within, at', before⟩
    refine ⟨i, at' ▸ List.getElem?_eq_getElem within, takes, fun j m lt hj => ?_⟩
    obtain ⟨_, rfl⟩ := List.getElem?_eq_some_iff.mp hj
    exact (none _).mp (before j lt)
  · rintro ⟨i, at', takes, before⟩
    obtain ⟨within, at'⟩ := List.getElem?_eq_some_iff.mp at'
    exact ⟨takes, i, within, at', fun j lt => (none _).mpr (before j _ lt (List.getElem?_eq_getElem _))⟩

theorem takeoverNotice_eq_none_iff (q : List Notice) (d : DisplayNo) :
    takeoverNotice q d = none ↔ ∀ n ∈ q, ¬ n.TakesOver d := by
  simp only [takeoverNotice, List.find?_eq_none, Notice.takesOver_iff]

theorem takeoverNotice_isSome_iff (q : List Notice) (d : DisplayNo) :
    (takeoverNotice q d).isSome = true ↔ ∃ n ∈ q, n.TakesOver d := by
  simp only [takeoverNotice, List.find?_isSome, Notice.takesOver_iff]

/-- Settles O22: the takeover notice as the first found, then step 3 of the output frame start, which the later steps keep. -/
theorem takeoverFollowsNotices : Obligations.TakeoverFollowsNotices := by
  unfold Obligations.TakeoverFollowsNotices
  refine ⟨fun q d => ⟨takeoverNotice_eq_some_iff q d, takeoverNotice_eq_none_iff q d⟩, fun c s t legal starts run => ?_⟩
  obtain ⟨f, o, b, rfl⟩ := State.startsOutput_run starts run
  have notice : ((s.setFeed f).outputStart o b).notice = { s.notice with wake := 0 } := State.outputStart_notice _ o b
  refine ⟨by rw [notice], by rw [notice], fun d => ?_⟩
  obtain ⟨mode, takeover⟩ := State.outputStart_settled (s := s.setFeed f) (legal.of_same rfl rfl) o b d
  exact ⟨mode.trans (takeoverNotice_isSome_iff _ d), takeover⟩

end Sys2Proof.Machine
end

section
/-! SUPPORT. The notice unit's invariant at the operations of the notice unit, of the show board and of the lobby clock
(R68, R72, R73, R107, R115 to R118). -/

namespace Sys2Proof.Machine

/-! ### What the invariant reads -/

/-- What the notice unit's invariant reads: the queue, the post buffer and the states of the shows. -/
def State.noticeView (s : State) : List Notice × Option PartialPost × (Slot → ShowState) :=
  (s.notice.queue, s.notice.post, fun x => (s.showOf x).state)

/-- The invariant, over what it reads. -/
theorem State.noticesFit_iff (s : State) : s.NoticesFit ↔
    NoticesOrdered s.noticeView.1 ∧
    (∀ x : Slot, (∃ n ∈ s.noticeView.1, n.id = boardingId x) → s.noticeView.2.2 x = .boarding) ∧
    ∀ p, s.noticeView.2.1 = some p → p.notice.id.toNat < 160 :=
  ⟨fun ⟨ordered, live, post⟩ => ⟨ordered, live, post⟩, fun ⟨ordered, live, post⟩ => ⟨ordered, live, post⟩⟩

/-- An operation that keeps the notice unit's invariant. -/
def State.KeepsNoticesFit (s t : State) : Prop := s.NoticesFit → t.NoticesFit

section
variable {s t u : State}

theorem SameBut.noticeView {ks : List Block} (h : SameBut ks s t) (board : Block.board ∉ ks := by simp)
    (notice : Block.notice ∉ ks := by simp) : t.noticeView = s.noticeView := by
  rw [State.noticeView, h.notice notice]
  simp only [State.showOf, h.board board]
  rfl

theorem State.Leaves.noticeView {ks : List Block} (h : s.Leaves ks t) (board : Block.board ∉ ks := by simp)
    (notice : Block.notice ∉ ks := by simp) : t.noticeView = s.noticeView := h.blocks.noticeView board notice

theorem State.noticeView_ite {p : Prop} [Decidable p] (h : t.noticeView = s.noticeView)
    (k : u.noticeView = s.noticeView) : (if p then t else u).noticeView = s.noticeView := by split <;> assumption

namespace State.KeepsNoticesFit

theorem of_view (h : t.noticeView = s.noticeView) : s.KeepsNoticesFit t := fun fit => by
  rw [State.noticesFit_iff, h]
  exact s.noticesFit_iff.mp fit

theorem refl (s : State) : s.KeepsNoticesFit s := id

theorem trans (h : s.KeepsNoticesFit t) (k : t.KeepsNoticesFit u) : s.KeepsNoticesFit u := k ∘ h

/-- What keeps the notice view may come after an operation. -/
theorem then_view (h : s.KeepsNoticesFit t) (k : u.noticeView = t.noticeView) : s.KeepsNoticesFit u :=
  h.trans (.of_view k)

/-- What keeps the notice view may come before an operation. -/
theorem after_view (h : t.noticeView = s.noticeView) (k : t.KeepsNoticesFit u) : s.KeepsNoticesFit u :=
  trans (of_view h) k

theorem ite {p : Prop} [Decidable p] (h : s.KeepsNoticesFit t) (k : s.KeepsNoticesFit u) :
    s.KeepsNoticesFit (if p then t else u) := by split <;> assumption

theorem foldl {α : Type} {f : State → α → State} (h : ∀ s a, State.KeepsNoticesFit s (f s a)) (as : List α) (s : State) :
    s.KeepsNoticesFit (as.foldl f s) :=
  List.foldlRecOn as f (refl s) fun t k a _ => k.trans (h t a)

end State.KeepsNoticesFit

end

/-! ### Boarding notices (R72, R73) -/

theorem boardingId_toNat (x : Slot) : (boardingId x).toNat = 160 + x.val := by
  rw [boardingId, BitVec.toNat_ofNat]
  omega

theorem boardingId_injective {x y : Slot} (h : boardingId x = boardingId y) : x = y := by
  have same := congrArg BitVec.toNat h
  rw [boardingId_toNat, boardingId_toNat] at same
  exact Fin.ext (by omega)

section
variable (s : State)

/-- With the invariant, no boarding notice of a slot that is not BOARDING is live (R73). -/
theorem State.NoticesFit.no_boarding {s : State} (fit : s.NoticesFit) {x : Slot} (off : (s.showOf x).state ≠ .boarding)
    {n : Notice} (live : n ∈ s.notice.queue) : n.id ≠ boardingId x :=
  fun same => off (fit.2.live x ⟨n, live, same⟩)

/-- A record written at a slot keeps the invariant where its state stays or the slot is not BOARDING before. -/
theorem State.setShow_keepsNoticesFit (x : Slot) {w : Show}
    (h : w.state = (s.showOf x).state ∨ (s.showOf x).state ≠ .boarding) : s.KeepsNoticesFit (s.setShow x w) := by
  intro fit
  refine ⟨fit.1, fun y live => ?_, fit.2.post⟩
  have boarding := fit.2.live y live
  rw [State.showOf_setShow]
  split
  · next here =>
    subst here
    obtain stays | off := h
    · exact stays.trans boarding
    · exact absurd boarding off
  · exact boarding

/-- The removal of notices keeps the invariant (R107, R116 to R118). -/
theorem State.removeNotices_keepsNoticesFit (p : Notice → Bool) : s.KeepsNoticesFit (s.removeNotices p) := by
  intro fit
  obtain ⟨leaves, notice, _⟩ := s.removeNotices_spec p
  have sub : (s.removeNotices p).notice.queue.Sublist s.notice.queue := by
    rw [notice]
    exact List.filter_sublist
  refine ⟨fit.1.sublist sub, fun x ⟨n, live, same⟩ => ?_, fun post => ?_⟩
  · rw [leaves.showOf x]
    exact fit.2.live x ⟨n, sub.mem live, same⟩
  · rw [notice]
    exact fit.2.post post

theorem State.ageNotices_keepsNoticesFit : s.KeepsNoticesFit s.ageNotices := by
  intro fit
  obtain ⟨leaves, notice, _⟩ := s.ageNotices_spec
  refine ⟨?_, fun x ⟨n, live, same⟩ => ?_, fun post => ?_⟩
  · rw [notice]
    exact (fit.1.sublist List.filter_sublist).aged
  · rw [notice] at live
    obtain ⟨m, kept, rfl⟩ := List.mem_map.mp live
    rw [leaves.showOf x]
    exact fit.2.live x ⟨m, (List.mem_filter.mp kept).1, same⟩
  · rw [notice]
    exact fit.2.post post

/-- A placement keeps the invariant where the notice is no boarding notice, or the one of a BOARDING slot (R73). -/
theorem State.placeNotice_keepsNoticesFit {s t : State} {n : Notice} (run : s.placeNotice n = some t)
    (own : ∀ x, n.id = boardingId x → (s.showOf x).state = .boarding) : s.KeepsNoticesFit t := by
  intro fit
  obtain ⟨leaves, post, _⟩ := State.placeNotice_spec run
  obtain ⟨ordered, only⟩ := State.placeNotice_ordered fit.1 run
  refine ⟨ordered, fun x ⟨m, live, same⟩ => ?_, post ▸ fit.2.post⟩
  rw [leaves.showOf x]
  obtain old | rfl := only m live
  · exact fit.2.live x ⟨m, old, same⟩
  · exact own x same

/-- A boarding notice request of a BOARDING slot keeps the invariant (R72, R73, R115). -/
theorem State.requestBoarding_keepsNoticesFit {x : Slot} (boarding : (s.showOf x).state = .boarding) :
    s.KeepsNoticesFit (s.requestBoarding x) := by
  unfold State.requestBoarding
  split
  · next run =>
    refine State.placeNotice_keepsNoticesFit run fun y same => ?_
    obtain rfl := boardingId_injective (x := x) same
    exact boarding
  · exact .of_view rfl

/-! ### Posts (R109, R110) -/

theorem State.placePost_keepsNoticesFit (tag : Byte) {n : Notice} (desk : n.id.toNat < 160) :
    s.KeepsNoticesFit (s.placePost tag n) := by
  unfold State.placePost
  split
  · next run =>
    refine State.placeNotice_keepsNoticesFit run fun x same => ?_
    rw [same, boardingId_toNat] at desk
    omega
  · exact .of_view rfl

/-- A post in the buffer keeps the invariant where its id is no boarding notice's (R109). -/
theorem State.setPost_keepsNoticesFit {p : Option PartialPost} (desk : ∀ post, p = some post → post.notice.id.toNat < 160) :
    s.KeepsNoticesFit (s.setPost p) := fun fit => ⟨fit.1, fit.2.live, desk⟩

theorem State.takeFragmentZero_keepsNoticesFit (tag : Byte) (p : PartialPost) :
    s.KeepsNoticesFit (s.takeFragmentZero tag p) := by
  unfold State.takeFragmentZero
  split
  · exact .of_view rfl
  · next desk =>
    replace desk := Nat.lt_of_not_le desk
    exact .ite ((s.setPost_keepsNoticesFit (p := none) fun _ h => nomatch h).trans (State.placePost_keepsNoticesFit _ tag desk))
      (s.setPost_keepsNoticesFit fun _ h => Option.some.inj h ▸ desk)

theorem State.takeFragmentMore_keepsNoticesFit (tag : Byte) (i : Nat) (id : Byte) (positions : List Byte) :
    s.KeepsNoticesFit (s.takeFragmentMore tag i id positions) := by
  intro fit
  have emptied := s.setPost_keepsNoticesFit (p := none) fun _ h => nomatch h
  revert fit
  unfold State.takeFragmentMore
  split
  · exact State.KeepsNoticesFit.of_view rfl
  · next p held =>
    intro fit
    have desk := fit.2.post p held
    exact State.KeepsNoticesFit.ite (emptied.then_view rfl)
      (.ite (emptied.trans (State.placePost_keepsNoticesFit _ tag desk))
        (s.setPost_keepsNoticesFit fun _ h => Option.some.inj h ▸ desk)) fit

theorem State.postNotice_keepsNoticesFit (held : Option (Fin 12)) (tag : Byte) (p : List Byte) :
    s.KeepsNoticesFit (s.postNotice held tag p) := by
  have refused : ∀ reason, s.KeepsNoticesFit (s.refuseKind .postNotice tag reason) := fun _ => .of_view rfl
  unfold State.postNotice
  dsimp only
  refine .ite (.ite ?_ (.ite (s.takeFragmentMore_keepsNoticesFit tag _ _ _) (refused _))) (refused _)
  split
  · exact s.takeFragmentZero_keepsNoticesFit tag _
  · exact refused _

/-! ### Evaluations (R68, R69) -/

theorem State.recomputeDue_noticeView : s.recomputeDue.noticeView = s.noticeView := rfl

/-- A change of state: the slot's boarding notice leaves with BOARDING and comes with it (R68, R72, R73). -/
theorem State.advanceShow_keepsNoticesFit (x : Slot) (m : Nat) : s.KeepsNoticesFit (s.advanceShow x m) := by
  intro fit
  unfold State.advanceShow
  dsimp only
  split
  · next moved =>
    generalize (s.showOf x).stateAt m = new at moved ⊢
    let written := s.setShow x { s.showOf x with state := new }
    let placed := if new = .retired then written.unplaceSlot x else written
    let leaving := Notice.leavesWith x (decide ((s.showOf x).state = .boarding)) (decide (new = .retired))
    let cleared := placed.removeNotices leaving
    have queue : placed.notice = s.notice := by
      dsimp only [placed]
      split <;> rfl
    have shows : ∀ y, cleared.showOf y = if y = x then { s.showOf x with state := new } else s.showOf y := fun y => by
      rw [(placed.removeNotices_leaves leaving).showOf y, ← s.showOf_setShow]
      dsimp only [placed]
      split <;> rfl
    have notice := (placed.removeNotices_spec leaving).2.1
    rw [queue] at notice
    have fits : cleared.NoticesFit := by
      refine ⟨?_, fun y ⟨n, live, same⟩ => ?_, fun p h => fit.2.post p ?_⟩
      · rw [notice]
        exact fit.1.sublist List.filter_sublist
      · rw [notice] at live
        obtain ⟨live, stays⟩ := List.mem_filter.mp live
        have boarding := fit.2.live y ⟨n, live, same⟩
        rw [shows, if_neg]
        · exact boarding
        · rintro rfl
          simp [leaving, Notice.leavesWith, boarding, same] at stays
      · rwa [notice] at h
    have asked : (if new = .boarding ∧ (written.showOf x).announce = true then cleared.requestBoarding x
        else cleared).NoticesFit := by
      split
      · next asks =>
        refine cleared.requestBoarding_keepsNoticesFit ?_ fits
        rw [shows, if_pos rfl]
        exact asks.1
      · exact fits
    exact State.KeepsNoticesFit.of_view
      ((State.slotMark_leaves _ x).noticeView.trans (State.listingChange_leaves _).leaves.noticeView) asked
  · exact fit

theorem State.closeSales_keepsNoticesFit (x : Slot) : s.KeepsNoticesFit (s.closeSales x) :=
  (s.setShow_keepsNoticesFit x (w := { s.showOf x with salesClosed := true }) (.inl rfl)).then_view
    (State.seatMark_leaves _ x).noticeView

theorem State.evaluateSlot_keepsNoticesFit (x : Slot) (m : Nat) : s.KeepsNoticesFit (s.evaluateSlot x m) :=
  .ite ((s.advanceShow_keepsNoticesFit x m).trans (State.closeSales_keepsNoticesFit _ x)) (s.advanceShow_keepsNoticesFit x m)

theorem State.boardMinute_keepsNoticesFit (m : Nat) (evaluating : Bool) : s.KeepsNoticesFit (s.boardMinute m evaluating) := by
  have turn : ∀ (u : State) (x : Slot), u.KeepsNoticesFit (u.evaluateTurn m x) := fun u x =>
    .ite (u.evaluateSlot_keepsNoticesFit x m) (.refl u)
  unfold State.boardMinute
  split
  · exact .ite ((State.KeepsNoticesFit.foldl turn _ s).then_view (State.recomputeDue_noticeView _)) (.refl s)
  · exact .refl s

theorem State.minuteBoundary_keepsNoticesFit (m : Nat) : s.KeepsNoticesFit (s.minuteBoundary m) :=
  (s.boardMinute_keepsNoticesFit m _).then_view (State.minuteMarks_leaves _ m).noticeView

/-! ### SHOW writes and clears (R62 to R65) -/

theorem State.settle_keepsNoticesFit (x : Slot) : s.KeepsNoticesFit (s.settle x) :=
  (State.KeepsNoticesFit.ite (s.evaluateSlot_keepsNoticesFit x _) (.refl s)).then_view
    (State.slotMark_leaves _ x).noticeView

/-- The clear of a slot takes its boarding notice with it (R62, R73). -/
theorem State.clearSlot_keepsNoticesFit (x : Slot) : s.KeepsNoticesFit (s.clearSlot x) := by
  refine .ite (fun fit => ?_) (.refl s)
  have notice := s.clearOccupied_notice x
  refine ⟨?_, fun y ⟨n, live, same⟩ => ?_, fun p h => fit.2.post p ?_⟩
  · rw [notice]
    exact fit.1.sublist List.filter_sublist
  · rw [notice] at live
    obtain ⟨live, stays⟩ := List.mem_filter.mp live
    have boarding := fit.2.live y ⟨n, live, same⟩
    have other : y ≠ x := by
      rintro rfl
      simp [State.clearedBy, Notice.leavesWith, boarding, same] at stays
    rw [((s.clearOccupied_keepsOthers x).others y other).1]
    exact boarding
  · rwa [notice] at h

variable (x : Slot) (w : Show) (mode : TallyMode)

theorem State.insertShow_keepsNoticesFit (vacant : (s.showOf x).state = .vacant) :
    s.KeepsNoticesFit (s.insertShow x w mode) := by
  rw [State.insertShow_eq, State.entered]
  refine .trans ?_ (State.settle_keepsNoticesFit _ x)
  exact ((s.setShow_keepsNoticesFit x (w := w.opening) (.inr (by simp [vacant]))).then_view rfl).then_view
    (State.writeListing_leaves _ x true).noticeView

theorem State.editShow_keepsNoticesFit : s.KeepsNoticesFit (s.editShow x w mode) := by
  rw [State.editShow_eq, State.revised, State.refitted]
  refine .trans ?_ (State.settle_keepsNoticesFit _ x)
  have replaced : ∀ (u : State) (moved : Bool), (u.replace x moved).noticeView = u.noticeView := fun u moved => by
    cases moved <;> rfl
  exact ((((s.setShow_keepsNoticesFit x (w := w.takenOver (s.showOf x)) (.inl rfl)).then_view
    (State.resize_leaves _ x _ _).noticeView).then_view (State.toMode_leaves _ x mode).noticeView).then_view
    (replaced _ _)).then_view (State.writeListing_leaves _ x _).noticeView

theorem State.liveEditShow_keepsNoticesFit : s.KeepsNoticesFit (s.liveEditShow x w) := by
  rw [State.liveEditShow_eq, State.restated]
  have relabelled : s.KeepsNoticesFit (s.relabelled x w) :=
    (s.setShow_keepsNoticesFit x (w := w.relabelled (s.showOf x)) (.inl rfl)).then_view
      (State.writeListing_leaves _ x _).noticeView
  have state : ((s.relabelled x w).showOf x).state = (s.showOf x).state := by
    rw [State.relabelled, (State.writeListing_leaves _ x _).showOf x, State.showOf_setShow, if_pos rfl]
    rfl
  refine (relabelled.trans ?_).trans (State.settle_keepsNoticesFit _ x)
  unfold State.announces
  split
  · next changed =>
    exact .ite (State.requestBoarding_keepsNoticesFit _ (state.trans changed.1)) (State.removeNotices_keepsNoticesFit _ _)
  · exact .refl _

/-- What the board does with a SHOW image that it accepts, by the slot's state (R61). -/
theorem State.takeShow_keepsNoticesFit (v : ShowWrite) : s.KeepsNoticesFit (s.takeShow x v) := by
  refine State.KeepsNoticesFit.then_view (t := s.disposeShow x v) ?_ rfl
  cases v with
  | clear => exact s.clearSlot_keepsNoticesFit x
  | record w mode =>
    unfold State.disposeShow
    dsimp only
    split
    · next vacant => exact s.insertShow_keepsNoticesFit x w mode vacant
    · exact s.editShow_keepsNoticesFit x w mode
    · exact s.liveEditShow_keepsNoticesFit x w
    · exact s.liveEditShow_keepsNoticesFit x w
    · exact .refl s

end

/-! ### The lobby clock (R42 to R50) -/

section
variable (s : State)

theorem State.takeMark_keepsNoticesFit (m sec : Nat) : s.KeepsNoticesFit (s.takeMark m sec) := by
  by_cases moved : m ≠ s.clock.minute ∨ s.clock.state = .lost
  · rw [State.takeMark_of_moved sec moved]
    refine .after_view ?_ (State.minuteBoundary_keepsNoticesFit _ m)
    exact State.noticeView_ite (State.clockTextChange_leaves _).noticeView rfl
  · obtain ⟨held, found⟩ := not_or.mp moved
    rw [State.takeMark_of_held sec (not_not.mp held) found]
    exact .of_view rfl

theorem State.takeOpen_keepsNoticesFit (civil day : Nat) : s.KeepsNoticesFit (s.takeOpen civil day) := by
  unfold State.takeOpen
  dsimp only
  refine .then_view (.after_view ?_ (State.minuteBoundary_keepsNoticesFit _ 0)) (State.markAllInUse_leaves _).noticeView
  exact (State.clockTextChange_leaves _).noticeView

theorem State.takeClose_keepsNoticesFit : s.KeepsNoticesFit s.takeClose := by
  have dueless : ∀ u : State, u.withoutDue.noticeView = u.noticeView := fun _ => rfl
  have cleared : ∀ u : State, u.KeepsNoticesFit u.closeBoard := fun u => by
    rw [State.closeBoard_eq]
    exact (State.KeepsNoticesFit.foldl State.clearSlot_keepsNoticesFit _ u).then_view (dueless _)
  exact ((s.removeNotices_keepsNoticesFit _).trans (cleared _)).then_view (State.closeDay_tail_leaves _).noticeView

theorem State.advanceMinute_keepsNoticesFit : s.KeepsNoticesFit s.advanceMinute := by
  let started := s.setClock { s.clock with minute := s.clock.minute + 1, second := 0 }
  let counted := started.minuteBoundary (s.clock.minute + 1)
  have boundary : s.KeepsNoticesFit counted := .after_view (t := started) rfl (started.minuteBoundary_keepsNoticesFit _)
  have clocked : ∀ c : Clock, s.KeepsNoticesFit (counted.setClock c) := fun c => boundary.then_view rfl
  exact (clocked { counted.clock with sinceMark := counted.clock.sinceMark + 1 }).then_view
    (State.markSteps_leaves _).noticeView

theorem State.tickReceiver_keepsNoticesFit (r : TickReceiver) : s.KeepsNoticesFit (s.tickReceiver r) := by
  cases r with
  | clock =>
    exact .ite (.ite (.of_view s.loseClock_leaves.noticeView) (.ite s.advanceMinute_keepsNoticesFit (.of_view rfl))) (.refl s)
  | notices => exact s.ageNotices_keepsNoticesFit
  | compositor => exact .of_view s.tickCompositor_leaves.1.noticeView

end

end Sys2Proof.Machine
end

section
/-! SUPPORT. Every command keeps the notice unit's invariant: the directives of the notice unit, the board and the clock, the
resets, the counted minutes and the second ticks reach what it reads, and no other command does (R17, R38, R39, R107). -/

namespace Sys2Proof.Machine

section
variable (s : State)

/-! ### Directives that reach neither the queue nor the post buffer nor a show's state -/

theorem State.takeSale_noticeView (tag : Byte) (k : Fin 16) (g : Bool) (x : Slot) (d : Int) :
    (s.takeSale tag k g x d).noticeView = s.noticeView := by
  unfold State.takeSale
  dsimp only
  split
  · exact State.noticeView_ite rfl rfl
  · split
    · rfl
    · exact (State.saleApply_leaves _ k x d).noticeView

theorem State.writeStaged_noticeView (tag : Byte) (b : Option StagedBody) :
    (s.writeStaged tag b).noticeView = s.noticeView := by
  cases b with
  | some b => exact State.noticeView_ite rfl rfl
  | none => rfl

theorem State.readTurns_noticeView : ∀ (n : Nat) (s : State), (State.readTurns n s).noticeView = s.noticeView
  | 0, _ => rfl
  | n + 1, s => by
    unfold State.readTurns
    split
    · rfl
    · exact State.noticeView_ite ((State.readTurns_noticeView n _).trans rfl) rfl

/-! ### WRITE ENTRY (R23, R24) -/

theorem State.writeSettings_noticeView (tag : Byte) (img : List Byte) :
    (s.writeSettings tag img).noticeView = s.noticeView := by
  unfold State.writeSettings
  split
  · next st _ _ _ =>
    have taken : (s.takeSettings st).noticeView = s.noticeView :=
      (State.markAllInUse_leaves _).noticeView.trans (State.recomputeBands_leaves { s with settings := st }).noticeView
    have advanced : ∀ u : State, u.advanceCursor.noticeView = u.noticeView := fun _ => rfl
    exact State.noticeView_ite ((advanced _).trans taken) rfl
  · rfl

theorem State.writeTally_noticeView (tag : Byte) (x : Slot) (img : List Byte) :
    (s.writeTally tag x img).noticeView = s.noticeView := by
  unfold State.writeTally
  split
  · split <;> rfl
  · rfl

theorem State.writeTitle_noticeView (tag : Byte) (i : Fin 64) (img : List Byte) :
    (s.writeTitle tag i img).noticeView = s.noticeView := by
  unfold State.writeTitle
  split
  · exact (State.Leaves.foldl State.slotMark_leaves _ _).noticeView
  · rfl

theorem State.writeTemplate_noticeView (tag : Byte) (i : Fin 32) (img : List Byte) :
    (s.writeTemplate tag i img).noticeView = s.noticeView := by
  unfold State.writeTemplate
  split
  · exact (State.templateMarks_leaves _ i).noticeView
  · rfl

theorem State.writeShow_keepsNoticesFit (tag : Byte) (x : Slot) (img : List Byte) :
    s.KeepsNoticesFit (s.writeShow tag x img) := by
  unfold State.writeShow
  split
  · split
    · exact .of_view rfl
    · exact (s.takeShow_keepsNoticesFit x _).then_view rfl
  · exact .of_view rfl

theorem State.atEntry_keepsNoticesFit {n : Nat} (i : Nat) (f : Fin n → State) (h : ∀ k, s.KeepsNoticesFit (f k)) :
    s.KeepsNoticesFit (s.atEntry i f) := by
  unfold State.atEntry
  split
  · exact h _
  · exact .refl s

theorem State.writeEntry_keepsNoticesFit (tag : Byte) (img : List Byte) : s.KeepsNoticesFit (s.writeEntry tag img) := by
  have write : ∀ (t : TableName) (i : Nat), s.KeepsNoticesFit (s.writeAt tag t i img) := fun t i => by
    match t with
    | .settings => exact .of_view (s.writeSettings_noticeView tag img)
    | .show => exact s.atEntry_keepsNoticesFit i _ fun x => s.writeShow_keepsNoticesFit tag x img
    | .tally => exact s.atEntry_keepsNoticesFit i _ fun x => .of_view (s.writeTally_noticeView tag x img)
    | .title => exact s.atEntry_keepsNoticesFit i _ fun k => .of_view (s.writeTitle_noticeView tag k img)
    | .template => exact s.atEntry_keepsNoticesFit i _ fun k => .of_view (s.writeTemplate_noticeView tag k img)
    | .layout | .region | .palette | .glyph =>
      exact s.atEntry_keepsNoticesFit i _ fun _ => .of_view (s.writeStaged_noticeView tag _)
    | .desk | .notice | .display | .tile => exact .refl s
  unfold State.writeEntry
  split
  · exact .of_view rfl
  · exact .ite (.of_view rfl) (.ite (write _ _) (.of_view rfl))

/-! ### Resets (R38, R39) -/

/-- An empty queue and an empty post buffer meet the invariant with any shows. -/
theorem State.noticesFit_of_empty {s : State} (queue : s.notice.queue = []) (post : s.notice.post = none) : s.NoticesFit where
  left := by
    rw [queue]
    constructor <;> simp
  right := ⟨fun x => by simp [queue], fun p => by simp [post]⟩

/-! ### The directives (R17 to R20) -/

theorem State.carryOut_keepsNoticesFit (k : DirectiveKind) (held : Option (Fin 12)) (tag : Byte) (p : List Byte) :
    s.KeepsNoticesFit (s.carryOut k held tag p) := by
  have no : ∀ k tag reason, s.KeepsNoticesFit (s.refuseKind k tag reason) := fun k tag reason => .of_view rfl
  have staged : ∀ k b, s.KeepsNoticesFit (s.stage k tag b) := fun k b => .of_view (State.noticeView_ite rfl rfl)
  cases k <;> dsimp only [State.carryOut]
  case markTime =>
    unfold State.markTime
    split
    · exact .ite (.ite (no _ _ _) (s.takeMark_keepsNoticesFit _ _)) (no _ _ _)
    · exact no _ _ _
  case openDay =>
    unfold State.openDay
    split
    · exact .ite (.ite (s.takeOpen_keepsNoticesFit _ _) (no _ _ _)) (no _ _ _)
    · exact no _ _ _
  case closeDay =>
    unfold State.closeDay
    split
    · exact .ite (no _ _ _) s.takeClose_keepsNoticesFit
    · exact no _ _ _
  case sale =>
    unfold State.sale
    split
    · split
      · exact .of_view (s.takeSale_noticeView _ _ _ _ _)
      · exact no _ _ _
    · exact no _ _ _
  case acknowledgeBand =>
    unfold State.acknowledgeBand
    split
    · split
      · exact .of_view (State.noticeView_ite rfl rfl)
      · exact no _ _ _
    · exact no _ _ _
  case postNotice => exact s.postNotice_keepsNoticesFit held tag p
  case withdrawNotice =>
    unfold State.withdrawNotice
    split
    · exact .ite (s.removeNotices_keepsNoticesFit _) (no _ _ _)
    · exact no _ _ _
  case driveChimeLine =>
    unfold State.driveChimeLine
    split
    · split
      · exact .of_view rfl
      · exact no _ _ _
    · exact no _ _ _
  case setCursor =>
    unfold State.setCursor
    split
    · split
      · exact .ite (.of_view rfl) (no _ _ _)
      · exact no _ _ _
    · exact no _ _ _
  case writeEntry => exact s.writeEntry_keepsNoticesFit tag p
  case readEntries =>
    unfold State.readEntries
    split
    · refine .ite (no _ _ _) ?_
      split
      · exact no _ _ _
      · exact .of_view (State.readTurns_noticeView _ s)
    · exact no _ _ _
  case requestStatus =>
    unfold State.requestStatus
    split
    · exact .of_view rfl
    · exact no _ _ _
  case setAttentionMask =>
    unfold State.setAttentionMask
    split
    · exact .ite (.of_view (State.noticeView_ite rfl rfl)) (no _ _ _)
    · exact no _ _ _
  case span =>
    unfold State.takeSpan
    split
    · split
      · exact .of_view rfl
      · exact no _ _ _
    · exact no _ _ _
  case restart =>
    unfold State.takeRestart
    split
    · exact fun _ => State.noticesFit_of_empty rfl rfl
    · exact no _ _ _
  case setDisplayMode =>
    unfold State.setDisplayMode
    split
    · split
      · exact staged _ _
      · exact no _ _ _
    · exact no _ _ _
  case selectLayout =>
    unfold State.selectLayout
    split
    · split
      · exact staged _ _
      · exact no _ _ _
    · exact no _ _ _
  case selectProgram =>
    unfold State.selectProgram
    split
    · split
      · exact staged _ _
      · exact no _ _ _
    · exact no _ _ _
  case setDisplayMasks =>
    unfold State.setDisplayMasks
    split
    · split
      · exact staged _ _
      · exact no _ _ _
    · exact no _ _ _

theorem State.directive_keepsNoticesFit (kind tag : Byte) (p : List Byte) :
    s.KeepsNoticesFit (s.directive kind tag p) := by
  unfold State.directive
  split
  · exact .after_view (t := s.consumeSpan) rfl (State.carryOut_keepsNoticesFit _ _ _ tag p)
  · exact .of_view rfl

/-! ### The events of the feed and of the flywheel (R1 to R15) -/

theorem State.outputStart_noticeView (o : OutputFrame) (b : Bool) : (s.outputStart o b).noticeView = s.noticeView := by
  have board := (s.outputStart_same o b).board (by simp)
  rw [State.noticeView, s.outputStart_notice o b]
  simp only [State.showOf, board]
  rfl

theorem State.malformedLocked_noticeView : s.malformedLocked.noticeView = s.noticeView :=
  s.malformedLocked_losesLock.blocks.noticeView

theorem State.loseSymbols_noticeView : s.loseSymbols.noticeView = s.noticeView := by
  by_cases lock : s.feed.lock = .locked
  · exact (State.loseSymbols_losesLock lock).blocks.noticeView
  · rw [State.loseSymbols_of_unlocked lock]; rfl

theorem State.frameTimeout_noticeView : s.frameTimeout.noticeView = s.noticeView := by
  by_cases lock : s.feed.lock = .locked
  · exact (State.frameTimeout_losesLock lock).blocks.noticeView
  · rw [State.frameTimeout_of_unlocked lock]

theorem State.takeFrameStart_noticeView (n : Byte) (l : LaneMap) (b : Bool) :
    (s.takeFrameStart n l b).noticeView = s.noticeView := by
  unfold State.takeFrameStart
  dsimp only
  split
  · rfl
  · unfold State.searchFrameStart
    split
    · rfl
    · rfl
    · exact State.noticeView_ite (State.outputStart_noticeView _ _ _) rfl
  · unfold State.lockedFrameStart
    split
    · exact State.outputStart_noticeView _ _ _
    · exact State.malformedLocked_noticeView _
    · exact State.malformedLocked_noticeView _

theorem State.takeLineGroup_noticeView (z : LaneLines) : (s.takeLineGroup z).noticeView = s.noticeView := by
  have line : ∀ u : State, (u.lockedLine z).noticeView = u.noticeView := fun u => State.noticeView_ite rfl rfl
  unfold State.takeLineGroup
  dsimp only
  split
  · rfl
  · split <;> rfl
  · split
    · rfl
    · exact line _
    · exact line _

theorem State.takeFrameEnd_noticeView : s.takeFrameEnd.noticeView = s.noticeView := by
  have ending : ∀ u : State, u.lockedFrameEnd.noticeView = u.noticeView := fun u =>
    State.noticeView_ite rfl u.malformedLocked_noticeView
  unfold State.takeFrameEnd
  dsimp only
  split
  · rfl
  · split
    · rfl
    · exact State.noticeView_ite rfl rfl
    · rfl
  · split
    · rfl
    · exact ending _
    · exact ending _

/-- A margin packet reaches the notice unit and the shows by the directive that it carries alone (R10, R17). -/
theorem State.takeMarginPacket_keepsNoticesFit (bytes : List Byte) : s.KeepsNoticesFit (s.takeMarginPacket bytes) := by
  have packet : ∀ u : State, u.KeepsNoticesFit (u.takePacket bytes) := fun u =>
    .ite (.ite (u.directive_keepsNoticesFit _ _ _) (.refl u)) (.of_view rfl)
  have search : ∀ u : State, u.searchPacket.noticeView = u.noticeView := fun u => by
    unfold State.searchPacket
    split
    · rfl
    · split
      · rfl
      · exact State.noticeView_ite rfl rfl
      · rfl
    · rfl
  have locked : ∀ u : State, u.KeepsNoticesFit (u.lockedPacket bytes) := fun u => by
    unfold State.lockedPacket
    split
    · exact .refl u
    · exact .ite (.after_view (t := u.setRecord u.feed.record.addPacket) rfl (packet _))
        (.of_view (State.malformedLocked_noticeView _))
    · exact .refl u
  unfold State.takeMarginPacket
  dsimp only
  split
  · exact .of_view rfl
  · exact .of_view (search (s.repeatOut (.marginPacket bytes)))
  · exact .after_view (t := s.repeatOut (.marginPacket bytes)) rfl (locked _)

/-! ### The device's own events -/

theorem State.completeRender_noticeView : s.completeRender.noticeView = s.noticeView := by
  have join : ∀ (u : State) (p : Prop) [Decidable p] (t : TileNo),
      (if p then u.tryJoin t else u).noticeView = u.noticeView := fun u p _ t =>
    State.noticeView_ite (u.tryJoin_leaves t).noticeView rfl
  have sweep : ∀ u : State, u.runSweep.noticeView = u.noticeView := fun u => by
    unfold State.runSweep
    refine State.noticeView_ite ?_ rfl
    split
    · exact (State.tryJoin_leaves _ _).noticeView
    · rfl
  unfold State.completeRender
  split
  · rfl
  · dsimp only
    rw [sweep, join]
    exact (State.startRender_leaves _).noticeView

end

/-- Every command keeps the notice unit's invariant. -/
theorem exec_keepsNoticesFit {c : Instr} {s t : State} (run : exec c s = .next t) : s.KeepsNoticesFit t := by
  cases hd : c.directive? with
  | some d =>
    obtain ⟨k, tag, p⟩ := d
    rw [exec_of_directive hd] at run
    cases run
    exact .after_view (t := s.consumeSpan) rfl (State.carryOut_keepsNoticesFit _ k _ tag p)
  | none =>
    cases c with
    | powerOnReset straps sense => cases run; exact fun _ => State.noticesFit_of_empty rfl rfl
    | symbolAcquisition =>
      cases run
      unfold State.acquireSymbols
      split <;> exact .of_view rfl
    | symbolLoss => cases run; exact .of_view s.loseSymbols_noticeView
    | frameStart n l b => cases run; exact .of_view (s.takeFrameStart_noticeView n l b)
    | marginPacket bytes => cases run; exact s.takeMarginPacket_keepsNoticesFit bytes
    | lineGroup z => cases run; exact .of_view (s.takeLineGroup_noticeView z)
    | frameEnd => cases run; exact .of_view s.takeFrameEnd_noticeView
    | frameTimeout => cases run; exact .of_view s.frameTimeout_noticeView
    | flywheelFrameStart b => cases run; exact .of_view (State.noticeView_ite (s.outputStart_noticeView _ b) rfl)
    | flywheelLine =>
      cases run
      unfold State.flywheelLine
      split
      · exact .refl s
      · exact .refl s
      · exact .of_view (State.noticeView_ite rfl rfl)
      · exact .of_view (State.noticeView_ite rfl rfl)
    | flywheelFrameEnd =>
      cases run
      unfold State.flywheelEnd
      split <;> exact .of_view rfl
    | tenthTick => cases run; exact .of_view rfl
    | secondTick order =>
      cases run
      exact .after_view (t := { s with divider := { s.divider with secondDue := false } }) rfl
        (.foldl State.tickReceiver_keepsNoticesFit _ _)
    | minuteBoundary => cases run; exact .ite s.advanceMinute_keepsNoticesFit (.refl s)
    | enterHoldover =>
      cases run; exact .ite s.advanceMinute_keepsNoticesFit (.of_view s.holdoverStep_leaves.noticeView)
    | enterLost => cases run; exact .ite s.advanceMinute_keepsNoticesFit (.of_view s.lostStep_leaves.noticeView)
    | clockSaturation => cases run; exact .ite (.of_view s.loseClock_leaves.noticeView) (.refl s)
    | lifetimeExpiry => cases run; exact s.removeNotices_keepsNoticesFit _
    | chimePatternStart i => cases run; exact .of_view (State.noticeView_ite rfl rfl)
    | chimeCountdownExpiry i => cases run; exact .of_view rfl
    | pageTurn l r => cases run; exact .of_view (State.noticeView_ite (s.turnPage_leaves l r).leaves.noticeView rfl)
    | tickerStep d => cases run; exact .of_view (State.noticeView_ite (s.stepTicker_leaves d).leaves.noticeView rfl)
    | renderStart => cases run; exact .of_view s.startRender_leaves.noticeView
    | renderCompletion => cases run; exact .of_view s.completeRender_noticeView
    | chainPacketArrival p => cases run; exact .of_view (State.noticeView_ite rfl rfl)
    | upstreamReady => cases run; exact .of_view rfl
    | upstreamReadyWithdrawal => cases run; exact .of_view rfl
    | transmissionCompletion =>
      cases run
      unfold State.completeTransmission
      split <;> exact .of_view rfl
    | panelRemoval d => cases run; exact .of_view (State.noticeView_ite rfl rfl)
    | panelAttachment d => cases run; exact .of_view (State.noticeView_ite rfl rfl)
    | _ => simp [Instr.directive?] at hd

/-- Settles O13: an idle step changes nothing, and every command keeps the notice unit's invariant. -/
theorem noticesStayFit : Obligations.NoticesStayFit := by
  unfold Obligations.NoticesStayFit
  intro s t fit run
  unfold step at run
  split at run
  · cases run
    exact fit
  · next c rest _ =>
    have kept : s.KeepsNoticesFit t := .after_view (t := { s with pending := rest }) rfl (exec_keepsNoticesFit run)
    exact kept fit

end Sys2Proof.Machine
end

section
/-! SUPPORT. How notices leave, and a second tick at which the business minute does not advance, in any order of its receivers
(R41, R43, R116, R117, R119, R164; log 6). -/

namespace Sys2Proof.Machine

/-! ### The tickers where notices leave (R119, R164) -/

section
variable (s : State)

/-- The removal of notices judges the tickers of the displays that those which leave target (R119, R164). -/
theorem State.removeNotices_judged (p : Notice → Bool) :
    s.TickersJudged (s.removeNotices p) fun d => s.notice.queue.any fun n => p n && n.targets d := fun d => by
  rw [s.removeNotices_tickers p d, (s.removeNotices_spec p).2.1]

/-- A second tick at the notice unit judges the tickers of the displays that the notices which end target (R117, R164). -/
theorem State.ageNotices_tickers (d : DisplayNo) :
    s.ageNotices.comp.tickers.read d =
      if (s.notice.queue.any fun n => n.expires && n.targets d) = true then
        (s.comp.tickers.read d).judged
          (eligibleNotices ((s.notice.queue.filter fun n => !n.expires).map Notice.aged) d (s.comp.tickers.read d).classes)
          s.settings.dwell
      else s.comp.tickers.read d := by
  have any : (s.notice.queue.any fun n => n.expires && n.targets d) =
      (s.notice.queue.filter Notice.expires).any fun n => n.targets d := by rw [List.any_filter]
  rw [any]
  unfold State.ageNotices
  dsimp only
  split
  · next none =>
    rw [List.isEmpty_iff.mp none]
    rfl
  · rw [State.noticeChange_tickers, targetsOf_getLsbD]
    rfl

end

/-! ### A second tick within a business minute (R41, R43) -/

/-- A second tick at this clock record does not advance the business minute: the second is not the last, or the clock does not
count (R43). -/
def Clock.Still (c : Clock) : Prop := c.second ≠ 59 ∨ c.state = .unset ∨ c.state = .lost

section
variable {s : State}

/-- A second tick within a minute changes the clock record and no more (R43). -/
theorem State.tickClock_of_still (still : s.clock.Still) : ∃ c, s.tickClock = s.setClock c := by
  unfold State.tickClock
  split
  · next counts =>
    have second : s.clock.second ≠ 59 := by
      obtain counting := (ClockState.counts_iff _).mp counts
      obtain second | unset | lost := still
      · exact second
      · simp [unset] at counting
      · simp [lost] at counting
    rw [if_neg fun last => second ((Clock.atEnd_iff _).mp last).2, if_neg second]
    exact ⟨_, rfl⟩
  · exact ⟨s.clock, rfl⟩

/-- In whatever order the receivers take a second tick within a minute, the clock's turn is a change of the clock record
between the turns of the others. -/
theorem State.tickReceivers_of_still (still : s.clock.Still) (order : TickOrder) : ∃ before after c,
    order.receivers = before ++ .clock :: after ∧ TickReceiver.clock ∉ before ∧ TickReceiver.clock ∉ after ∧
    order.receivers.foldl State.tickReceiver s =
      after.foldl State.tickReceiver ((before.foldl State.tickReceiver s).setClock c) := by
  obtain ⟨before, after, split, outBefore, outAfter⟩ := TickOrder.receivers_split order
  have same := (State.tickOthers_leaves outBefore s).clock
  obtain ⟨c, run⟩ := State.tickClock_of_still (s := before.foldl State.tickReceiver s) (same ▸ still)
  refine ⟨before, after, c, split, outBefore, outAfter, ?_⟩
  rw [split, List.foldl_append, List.foldl_cons, State.tickReceiver, run]

/-- What the notice unit, the compositor and a change of the clock record keep, a second tick within a minute keeps. -/
theorem State.tickReceivers_induction {P : State → Prop} (clock : ∀ u c, P u → P (u.setClock c))
    (notices : ∀ u, P u → P u.ageNotices) (compositor : ∀ u, P u → P u.tickCompositor)
    (still : s.clock.Still) (order : TickOrder) (start : P s) : P (order.receivers.foldl State.tickReceiver s) := by
  have others : ∀ L : List TickReceiver, TickReceiver.clock ∉ L → ∀ u, P u → P (L.foldl State.tickReceiver u) :=
    fun L out u h => List.foldlRecOn L _ h fun v k r hr => by
      cases r with
      | clock => exact absurd hr out
      | notices => exact notices v k
      | compositor => exact compositor v k
  obtain ⟨before, after, c, _, outBefore, outAfter, run⟩ := State.tickReceivers_of_still still order
  rw [run]
  exact others _ outAfter _ (clock _ c (others _ outBefore _ start))

/-- What is read of a state where the notice unit and the compositor each take a second tick within a minute once: the two
effects in either order, with no trace of the clock's turn. -/
theorem State.tickReceivers_read {α : Type} {read : State → α} {f g : α → α}
    (clock : ∀ u c, read (u.setClock c) = read u) (notices : ∀ u, read u.ageNotices = f (read u))
    (compositor : ∀ u, read u.tickCompositor = g (read u)) (still : s.clock.Still) (order : TickOrder)
    (commute : f (g (read s)) = g (f (read s))) :
    read (order.receivers.foldl State.tickReceiver s) = g (f (read s)) := by
  let act (a : α) (r : TickReceiver) : α :=
    match r with
    | .clock => a
    | .notices => f a
    | .compositor => g a
  have others : ∀ L : List TickReceiver, TickReceiver.clock ∉ L → ∀ u,
      read (L.foldl State.tickReceiver u) = L.foldl act (read u) := by
    intro L
    induction L with
    | nil => exact fun _ _ => rfl
    | cons r L ih =>
      intro out u
      obtain ⟨other, out⟩ := not_or.mp (mt List.mem_cons.mpr out)
      rw [List.foldl_cons, ih out, List.foldl_cons]
      congr 1
      cases r with
      | clock => exact absurd rfl other
      | notices => exact notices u
      | compositor => exact compositor u
  obtain ⟨before, after, c, split, outBefore, outAfter, run⟩ := State.tickReceivers_of_still still order
  have turns : read (order.receivers.foldl State.tickReceiver s) = order.receivers.foldl act (read s) := by
    rw [run, split, others _ outAfter, clock, others _ outBefore, List.foldl_append]
    rfl
  rw [turns]
  cases order with
  | clockNoticesCompositor | noticesClockCompositor | noticesCompositorClock => rfl
  | clockCompositorNotices | compositorClockNotices | compositorNoticesClock => exact commute

end

/-! ### What a second tick within a minute reaches (R41) -/

theorem exec_secondTick (s : State) (order : TickOrder) : exec (.secondTick order) s =
    .next (order.receivers.foldl State.tickReceiver { s with divider := { s.divider with secondDue := false } }) := rfl

/-- The notice unit after a second tick within a minute: those of lifetime 1 leave, the others age (R117). -/
theorem State.tickReceivers_notice {s : State} (still : s.clock.Still) (order : TickOrder) :
    (order.receivers.foldl State.tickReceiver s).notice = { s.notice with
      queue := (s.notice.queue.filter fun n => !n.expires).map Notice.aged } :=
  State.tickReceivers_read (read := State.notice)
    (f := fun v => { v with queue := (v.queue.filter fun n => !n.expires).map Notice.aged }) (g := id) (fun _ _ => rfl)
    (fun u => u.ageNotices_spec.2.1) (fun u => u.tickCompositor_leaves.1.blocks.notice (by simp)) still order rfl

/-- A second tick within a minute reaches, beside the clock record and the divider, the queue, pages, tickers and marks. -/
theorem exec_secondTick_leaves {s : State} (still : s.clock.Still) (order : TickOrder) :
    ∃ t, exec (.secondTick order) s = .next t ∧
      t = order.receivers.foldl State.tickReceiver { s with divider := { s.divider with secondDue := false } } ∧
      t.comp = { s.comp with pages := t.comp.pages, tickers := t.comp.tickers } ∧
      s.Leaves [.rep, .clock, .divider, .notice, .fmt, .comp] t := by
  have reach : ∀ t u : State, u.Leaves [.rep, .clock, .divider, .notice, .fmt, .comp] t →
      t.comp = { u.comp with pages := t.comp.pages, tickers := t.comp.tickers } →
      (u.comp = { s.comp with pages := u.comp.pages, tickers := u.comp.tickers } ∧
        s.Leaves [.rep, .clock, .divider, .notice, .fmt, .comp] u) →
      t.comp = { s.comp with pages := t.comp.pages, tickers := t.comp.tickers } ∧
        s.Leaves [.rep, .clock, .divider, .notice, .fmt, .comp] t := fun t u leaves comp before =>
    ⟨by rw [comp, before.1], before.2.trans leaves⟩
  refine ⟨_, exec_secondTick s order, rfl, ?_⟩
  refine State.tickReceivers_induction (s := { s with divider := { s.divider with secondDue := false } })
    (P := fun t => t.comp = { s.comp with pages := t.comp.pages, tickers := t.comp.tickers } ∧
      s.Leaves [.rep, .clock, .divider, .notice, .fmt, .comp] t)
    (fun u c => reach _ u (.of_same (by constructor <;> simp) rfl rfl) rfl)
    (fun u => reach _ u (u.ageNotices_spec.1.mono (by simp)) (by rw [u.ageNotices_spec.2.2]))
    (fun u => reach _ u (u.tickCompositor_leaves.1.mono (by simp)) u.tickCompositor_leaves.2) still order ?_
  exact ⟨rfl, .of_same (by constructor <;> simp) rfl rfl⟩

/-! ### The ways out of the queue (R116, R117) -/

section
variable {s : State}

theorem State.withdrawNotice_of_live {id : Byte} (tag : Byte) (live : ∃ n ∈ s.notice.queue, n.id = id) :
    s.withdrawNotice tag [id] = s.removeNotices fun n => n.id == id := if_pos ((liveNotice_isSome _ _).mpr live)

theorem State.withdrawNotice_of_new {id : Byte} (tag : Byte) (new : ∀ n ∈ s.notice.queue, n.id ≠ id) :
    s.withdrawNotice tag [id] = s.refuseKind .withdrawNotice tag .notFound :=
  if_neg fun live => by
    obtain ⟨n, hn, same⟩ := (liveNotice_isSome _ _).mp live
    exact new n hn same

theorem exec_withdrawNotice (s : State) (tag : Byte) (p : List Byte) :
    exec (.withdrawNotice tag p) s = .next (s.consumeSpan.withdrawNotice tag p) := rfl

end

/-- Settles O52: a withdrawal and an expiry are removals by id and by lifetime; a second tick by its receivers. -/
theorem noticesLeave : Obligations.NoticesLeave := by
  unfold Obligations.NoticesLeave
  intro s q
  refine ⟨fun tag id live => ?_, fun tag id new => ?_, ?_, fun order still => ?_⟩
  · obtain ⟨leaves, notice, comp⟩ := s.consumeSpan.removeNotices_spec fun n => n.id == id
    have run := exec_withdrawNotice s tag [id]
    rw [State.withdrawNotice_of_live (s := s.consumeSpan) tag live] at run
    refine ⟨_, run, ?_, comp, leaves.blocks.dir (by simp), s.consumeSpan.removeNotices_judged _,
      (State.Leaves.of_consumeSpan leaves).mono (by simp)⟩
    rw [notice]
    simp only [beq_eq_decide, ne_eq, decide_not]
    rfl
  · have run := exec_withdrawNotice s tag [id]
    rw [State.withdrawNotice_of_new (s := s.consumeSpan) tag new] at run
    exact ⟨_, run, s.refuseKind_refused .withdrawNotice tag .notFound⟩
  · obtain ⟨leaves, notice, comp⟩ := s.removeNotices_spec Notice.expires
    refine ⟨_, rfl, ?_, comp, s.removeNotices_judged _, leaves⟩
    rw [notice]
    simp only [Notice.expires, beq_eq_decide, ne_eq, decide_not]
    rfl
  · obtain ⟨t, run, result, comp, leaves⟩ := exec_secondTick_leaves still order
    refine ⟨t, run, ?_, comp, leaves⟩
    rw [result, State.tickReceivers_notice (s := { s with divider := { s.divider with secondDue := false } }) still order]
    simp only [Notice.expires, beq_eq_decide, ne_eq, decide_not]
    rfl

end Sys2Proof.Machine
end

section
/-! SUPPORT. Eligible lists, page states and tickers in time (R121, R157 to R160, R163). -/

namespace Sys2Proof.Machine

/-! ### Eligible lists (R121, R157) -/

theorem Region.classMask_getLsbD (g : Region) (i : Nat) :
    g.classMask.getLsbD i = (decide (i ≤ 3) && g.k0.getLsbD i) := by
  rw [Region.classMask, BitVec.getLsbD_ofNat, BitVec.testBit_toNat]
  congr 1
  exact decide_eq_decide.mpr Nat.lt_succ_iff

theorem Region.includeStarted_eq (g : Region) : g.includeStarted = g.k3.getLsbD 0 := by
  rw [Region.includeStarted, ← Nat.testBit_zero, BitVec.testBit_toNat]

/-- The three filters of a LISTING region, by its key bytes (R157, R184). -/
theorem Region.admits_iff (g : Region) (w : Show) : g.admits w = true ↔
    w.listingClass ≤ 3 ∧ g.k0.getLsbD w.listingClass = true ∧ g.k1.toNat ≤ w.auditorium ∧ w.auditorium ≤ g.k2.toNat ∧
      (w.state = .listed ∨ w.state = .boarding ∨ (w.state = .started ∧ g.k3.getLsbD 0 = true)) := by
  unfold Region.admits
  rw [g.classMask_getLsbD, g.includeStarted_eq]
  simp only [Bool.and_eq_true, decide_eq_true_iff, and_assoc]
  cases w.state <;> simp [Region.auditoriumFirst, Region.auditoriumLast]

section
variable {q : List Notice} {d : DisplayNo} {cs : ClassSet}

theorem eligibleNotices_of_urgent (urgent : ∃ n ∈ q, (n.targets d && n.cls.isIn cs) = true ∧ n.cls = .urgent) :
    eligibleNotices q d cs = q.filter fun n => (n.targets d && n.cls.isIn cs) && decide (n.cls = .urgent) := by
  have any : ((q.filter fun n => n.targets d && n.cls.isIn cs).any fun n => n.cls == .urgent) = true := by
    simpa [and_assoc] using urgent
  unfold eligibleNotices
  rw [if_pos any, List.filter_filter]
  exact List.filter_congr fun n _ => by rw [Bool.and_comm, beq_eq_decide]

theorem eligibleNotices_of_not_urgent (none : ∀ n ∈ q, (n.targets d && n.cls.isIn cs) = true → n.cls ≠ .urgent) :
    eligibleNotices q d cs = q.filter fun n => n.targets d && n.cls.isIn cs := by
  refine if_neg fun any => ?_
  obtain ⟨n, hn, urgent⟩ := List.any_eq_true.mp any
  obtain ⟨live, taken⟩ := List.mem_filter.mp hn
  exact none n live taken (eq_of_beq urgent)

/-- The eligible notices are a choice of the queue's, in queue order (R121). -/
theorem eligibleNotices_filter (q : List Notice) (d : DisplayNo) (cs : ClassSet) :
    ∃ p : Notice → Bool, eligibleNotices q d cs = q.filter p := by
  by_cases urgent : ∃ n ∈ q, (n.targets d && n.cls.isIn cs) = true ∧ n.cls = .urgent
  · exact ⟨_, eligibleNotices_of_urgent urgent⟩
  · exact ⟨_, eligibleNotices_of_not_urgent fun n live taken cls => urgent ⟨n, live, taken, cls⟩⟩

/-- A notice that ages stays as eligible as it was (R117, R121). -/
theorem eligibleNotices_aged (q : List Notice) (d : DisplayNo) (cs : ClassSet) :
    eligibleNotices (q.map Notice.aged) d cs = (eligibleNotices q d cs).map Notice.aged := by
  unfold eligibleNotices
  dsimp only
  rw [List.filter_map, List.any_map]
  have any : ((fun n => n.cls == .urgent) ∘ Notice.aged) = fun n => n.cls == .urgent := rfl
  rw [any, List.filter_map, apply_ite (List.map Notice.aged)]
  rfl

end

/-! ### Page states (R158 to R160) -/

theorem Table.write_read_self {α : Type} {k : Nat} (t : Table α k) (i : Fin k) : t.write i (t.read i) = t :=
  Table.ext_read fun j => by
    rw [Table.read_write]
    split
    · next same => rw [same]
    · rfl

theorem Region.effectivePeriod_eq (g : Region) :
    g.effectivePeriod = if g.k4.toNat = 0 then 0 else max 3 g.k4.toNat := by
  unfold Region.effectivePeriod Region.pagePeriod
  split
  · rfl
  · split <;> omega

theorem PageState.turned_eq {p : PageState} (h : p.index < p.count) : p.turned = (p.index + 1) % p.count := by
  unfold PageState.turned
  split
  · next more => exact (Nat.mod_eq_of_lt more).symm
  · next last =>
    have full : p.index + 1 = p.count := by omega
    rw [full, Nat.mod_self]

/-- A page state after a second tick, by its effective period (R159). -/
def PageState.ticked (p : PageState) (period : Nat) : PageState :=
  if p.active && period != 0 then
    if p.countdown ≤ 1 then { p with index := p.turned, countdown := period }
    else { p with countdown := p.countdown - 1 }
  else p

/-- A page state after a listing change, by its new page count and its effective period (R160). -/
def PageState.recounted (p : PageState) (count period : Nat) : PageState :=
  if p.active then
    if p.index < count then { p with count := count } else { p with index := 0, count := count, countdown := period }
  else p

/-- Of the state's records a step changes one page state, and marks. -/
structure State.TakesPage (s : State) (l : LayoutNo) (r : RegionNo) (p : PageState) (t : State) : Prop where
  leaves : s.Leaves [.rep, .fmt, .comp] t
  comp   : t.comp = { s.comp with pages := s.comp.pages.write (regionIndex l r) p }

section
variable (s : State) (l : LayoutNo) (r : RegionNo)

theorem State.setPage_takes (p : PageState) : s.TakesPage l r p (s.setPage l r p) := ⟨(s.setPage_leaves l r p).leaves, rfl⟩

theorem State.setPage_pageChange_takes (p : PageState) : s.TakesPage l r p ((s.setPage l r p).pageChange l r) := by
  have marks := State.pageChange_leaves (s.setPage l r p) l r
  exact ⟨(s.setPage_leaves l r p).leaves.trans (marks.mono (by simp)), marks.blocks.comp (by simp)⟩

theorem State.TakesPage.same : s.TakesPage l r (s.page l r) s :=
  ⟨.refl _ s, by rw [State.page, Table.write_read_self]⟩

/-- A page that turns goes to its next index with its countdown reloaded (R159). -/
theorem State.turnPage_takes : s.TakesPage l r
    { s.page l r with index := (s.page l r).turned, countdown := (s.comp.region l r).effectivePeriod } (s.turnPage l r) := by
  unfold State.turnPage
  dsimp only
  split
  · exact s.setPage_takes l r _
  · exact s.setPage_pageChange_takes l r _

theorem State.tickPage_takes :
    s.TakesPage l r ((s.page l r).ticked (s.comp.region l r).effectivePeriod) (s.tickPage l r) := by
  unfold State.tickPage PageState.ticked State.pageTurns
  split
  · split
    · exact s.turnPage_takes l r
    · exact s.setPage_takes l r _
  · exact .same s l r

theorem State.recountPage_takes :
    s.TakesPage l r ((s.page l r).recounted (s.pageCountNow l r) (s.comp.region l r).effectivePeriod)
      (s.recountPage l r) := by
  unfold State.recountPage PageState.recounted
  dsimp only
  split
  · split
    · exact s.setPage_takes l r _
    · exact s.setPage_pageChange_takes l r _
  · exact .same s l r

end

theorem regionIndex_of (i : Fin 128) : regionIndex (regionLayout i) (regionNumber i) = i :=
  Fin.ext (Nat.div_add_mod i.val 8)

/-- What an action at every region reads and writes of a state at one of them. -/
def State.pageView (s : State) (i : Fin 128) : PageState × Table Region 128 × Board :=
  (s.comp.pages.read i, s.comp.regions, s.board)

theorem State.TakesPage.pageView {s t : State} {l : LayoutNo} {r : RegionNo} {p : PageState} (h : s.TakesPage l r p t)
    (j : Fin 128) : t.pageView j = if j = regionIndex l r then (p, (s.pageView j).2) else s.pageView j := by
  simp only [State.pageView, h.comp, h.leaves.blocks.board (by simp), Table.read_write]
  split <;> rfl

/-- An action at every region that changes each page state by the region's record and the board changes them all so. -/
theorem State.forRegions_page {f : State → LayoutNo → RegionNo → State} {g : Region → Board → PageState → PageState}
    (takes : ∀ s l r, State.TakesPage s l r (g (s.comp.region l r) s.board (s.page l r)) (f s l r))
    (s : State) (l : LayoutNo) (r : RegionNo) :
    (s.forRegions f).page l r = g (s.comp.region l r) s.board (s.page l r) := by
  have turn : ∀ (u : State) (i j : Fin 128), (f u (regionLayout i) (regionNumber i)).pageView j =
      if j = i then (g ((u.pageView i).2.1.read i) (u.pageView i).2.2 (u.pageView i).1, (u.pageView i).2) else u.pageView j :=
    fun u i j => by
      rw [(takes u (regionLayout i) (regionNumber i)).pageView, State.page, Compositor.region, regionIndex_of]
      split <;> rfl
  exact congrArg Prod.fst (foldl_finRange_read
    (g := fun (i : Fin 128) (v : PageState × Table Region 128 × Board) => (g (v.2.1.read i) v.2.2 v.1, v.2)) turn s
    (regionIndex l r))

/-- A page state with the region that it belongs to. -/
def State.pageOf (s : State) (l : LayoutNo) (r : RegionNo) : PageState × Region := (s.page l r, s.comp.region l r)

section
variable {s t : State} (l : LayoutNo) (r : RegionNo)

theorem State.page_of_tickers {ks : Table Ticker 12} (h : t.comp = { s.comp with tickers := ks }) :
    t.page l r = s.page l r := by
  rw [State.page, h]
  rfl

theorem State.region_of_pages {ps : Table PageState 128} {ks : Table Ticker 12}
    (h : t.comp = { s.comp with pages := ps, tickers := ks }) : t.comp.region l r = s.comp.region l r := by
  rw [h]
  rfl

end

section
variable (s : State) (l : LayoutNo) (r : RegionNo)

/-- A second tick at the compositor ticks every page state (R159). -/
theorem State.tickCompositor_page :
    s.tickCompositor.page l r = (s.page l r).ticked (s.comp.region l r).effectivePeriod := by
  rw [State.tickCompositor, State.page_of_tickers l r (State.tickTickers_leaves _ _).comp]
  exact State.forRegions_page (g := fun g _ p => p.ticked g.effectivePeriod) State.tickPage_takes s l r

/-- A listing change recounts every page state (R160). -/
theorem State.listingChange_page : s.listingChange.page l r =
    (s.page l r).recounted (s.pageCountNow l r) (s.comp.region l r).effectivePeriod := by
  have marks : s.listingChange.page l r = (s.forRegions State.recountPage).page l r := by
    rw [State.page, State.listingChange, (State.listingMarks_leaves _).blocks.comp (by simp)]
    rfl
  rw [marks]
  exact State.forRegions_page (g := fun g b p => p.recounted (pageCountOf (b.eligible g).length g.height) g.effectivePeriod)
    State.recountPage_takes s l r

/-- A second tick within a minute ticks every page state (R41, R159). -/
theorem State.tickReceivers_page {s : State} (still : s.clock.Still) (order : TickOrder) :
    (order.receivers.foldl State.tickReceiver s).page l r = (s.page l r).ticked (s.comp.region l r).effectivePeriod := by
  have notices : ∀ u : State, u.ageNotices.pageOf l r = u.pageOf l r := fun u =>
    Prod.ext (State.page_of_tickers l r u.ageNotices_spec.2.2) (State.region_of_pages l r u.ageNotices_spec.2.2)
  have compositor : ∀ u : State, u.tickCompositor.pageOf l r =
      ((u.pageOf l r).1.ticked (u.pageOf l r).2.effectivePeriod, (u.pageOf l r).2) := fun u =>
    Prod.ext (u.tickCompositor_page l r) (State.region_of_pages l r u.tickCompositor_leaves.2)
  exact congrArg Prod.fst (State.tickReceivers_read (read := fun u => u.pageOf l r) (f := id)
    (g := fun v => (v.1.ticked v.2.effectivePeriod, v.2)) (fun _ _ => rfl) notices compositor still order rfl)

/-! ### The recount at a clear (R62, R160) -/

theorem Board.eligible_vacated (b : Board) (x : Slot) (g : Region) :
    { b with shows := b.shows.write x Show.vacant, order := b.order.filter fun y => y != x }.eligible g =
      { b with order := b.order.filter fun y => y != x }.eligible g :=
  List.filter_congr fun y hy => by
    have other : y ≠ x := by simpa using (List.mem_filter.mp hy).2
    rw [Table.read_write_other _ _ other]

/-- A slot that leaves the listing order has the pages recounted without it (R76, R160). -/
theorem State.unlist_page (x : Slot) : (s.unlist x).page l r =
    if x ∈ s.board.order then
      (s.page l r).recounted
        (pageCountOf ({ s.board with order := s.board.order.filter fun y => y != x }.eligible (s.comp.region l r)).length
          (s.comp.region l r).height)
        (s.comp.region l r).effectivePeriod
    else s.page l r := by
  unfold State.unlist
  by_cases listed : x ∈ s.board.order
  · rw [if_pos (List.contains_iff_mem.mpr listed), if_pos listed, State.listingChange_page]
    rfl
  · rw [if_neg fun h => listed (List.contains_iff_mem.mp h), if_neg listed]

/-- A clear recounts the pages where the slot stood in the listing order (R62, R76, R160). -/
theorem State.clearOccupied_page (x : Slot) : (s.clearOccupied x).page l r =
    if x ∈ s.board.order then
      (s.page l r).recounted
        (pageCountOf ((s.clearOccupied x).board.eligible (s.comp.region l r)).length (s.comp.region l r).height)
        (s.comp.region l r).effectivePeriod
    else s.page l r := by
  obtain ⟨leaves, _, comp⟩ := s.removeNotices_spec (s.clearedBy x)
  have page : (s.clearOccupied x).page l r = ((s.removeNotices (s.clearedBy x)).unlist x).page l r := by
    rw [State.page, State.clearOccupied_eq, (State.slotMark_leaves _ x).blocks.comp (by simp)]
    rfl
  rw [page, State.unlist_page, leaves.blocks.board (by simp), State.clearOccupied_board, Board.eligible_vacated]
  rw [State.page_of_tickers l r comp, State.region_of_pages l r comp]

end

/-! ### Tickers (R163) -/

/-- The id of the notice that a ticker steps to, by the queue (R163). -/
def nextEligible (q : List Notice) (d : DisplayNo) (cs : ClassSet) (current : Byte) : Option Byte :=
  match (eligibleNotices q d cs).find? fun n => (noticesAfter q current).any fun m => m.id == n.id with
  | some n => some n.id
  | none => (eligibleNotices q d cs).head?.map Notice.id

theorem State.nextTickerNotice_eq (s : State) (d : DisplayNo) (cs : ClassSet) (current : Byte) :
    s.nextTickerNotice d cs current = nextEligible s.notice.queue d cs current := rfl

theorem noticesAfter_aged (q : List Notice) (id : Byte) :
    noticesAfter (q.map Notice.aged) id = (noticesAfter q id).map Notice.aged := by
  rw [noticesAfter, List.dropWhile_map, ← List.map_drop]
  rfl

theorem nextEligible_aged (q : List Notice) (d : DisplayNo) (cs : ClassSet) (id : Byte) :
    nextEligible (q.map Notice.aged) d cs id = nextEligible q d cs id := by
  unfold nextEligible
  rw [eligibleNotices_aged, noticesAfter_aged, List.find?_map, List.head?_map]
  have any : ∀ k : Byte, (((noticesAfter q id).map Notice.aged).any fun m => m.id == k) =
      (noticesAfter q id).any fun m => m.id == k := fun k => by
    rw [List.any_map]
    rfl
  simp only [any]
  have found : (eligibleNotices q d cs).find? ((fun n => (noticesAfter q id).any fun m => m.id == n.id) ∘ Notice.aged) =
      (eligibleNotices q d cs).find? fun n => (noticesAfter q id).any fun m => m.id == n.id := rfl
  rw [found, Option.map_map]
  cases (eligibleNotices q d cs).find? fun n => (noticesAfter q id).any fun m => m.id == n.id with
  | some n => rfl
  | none => rfl

section
variable {before after : List Notice} {n : Notice}

/-- In a queue of distinct ids, the ids before and after a notice are not its own, and none stands on both sides. -/
theorem ids_apart (distinct : ((before ++ n :: after).map Notice.id).Nodup) :
    (∀ a ∈ before, a.id ≠ n.id) ∧ (∀ b ∈ after, b.id ≠ n.id) ∧ ∀ a ∈ before, ∀ b ∈ after, b.id ≠ a.id := by
  rw [List.map_append, List.map_cons, List.nodup_append] at distinct
  obtain ⟨-, tail, apart⟩ := distinct
  refine ⟨fun a ha => apart a.id (List.mem_map_of_mem ha) n.id List.mem_cons_self, fun b hb same => ?_,
    fun a ha b hb same => ?_⟩
  · exact (List.nodup_cons.mp tail).1 (same ▸ List.mem_map_of_mem hb)
  · exact apart a.id (List.mem_map_of_mem ha) b.id (List.mem_cons_of_mem _ (List.mem_map_of_mem hb)) same.symm

/-- In a queue of distinct ids what stands after a notice is what stands after it. -/
theorem noticesAfter_of_split (distinct : ((before ++ n :: after).map Notice.id).Nodup) :
    noticesAfter (before ++ n :: after) n.id = after := by
  rw [noticesAfter, List.dropWhile_append_of_pos fun m hm => by simpa using (ids_apart distinct).1 m hm]
  simp

/-- Of a choice of a queue of distinct ids, the first that stands after a notice is the first of the choice after it. -/
theorem find?_standsAfter (distinct : ((before ++ n :: after).map Notice.id).Nodup) (p : Notice → Bool) :
    (before.filter p ++ n :: after.filter p).find? (fun m => after.any fun b => b.id == m.id) =
      (after.filter p).head? := by
  obtain ⟨-, outAfter, apart⟩ := ids_apart distinct
  have missed : ∀ m : Notice, (∀ b ∈ after, b.id ≠ m.id) → ¬ (after.any fun b => b.id == m.id) = true := fun m out any => by
    obtain ⟨b, hb, same⟩ := List.any_eq_true.mp any
    exact out b hb (eq_of_beq same)
  have first : (before.filter p).find? (fun m => after.any fun b => b.id == m.id) = none :=
    List.find?_eq_none.mpr fun a ha => missed a (apart a (List.mem_filter.mp ha).1)
  rw [List.find?_append, first, Option.none_or]
  refine (List.find?_cons_of_neg (p := fun m : Notice => after.any fun b => b.id == m.id) (missed n outAfter)).trans ?_
  cases rest : after.filter p with
  | nil => rfl
  | cons b _ =>
    have live : b ∈ after := (List.mem_filter.mp (rest ▸ List.mem_cons_self)).1
    exact List.find?_cons_of_pos (p := fun m : Notice => after.any fun b => b.id == m.id)
      (List.any_eq_true.mpr ⟨b, live, beq_self_eq_true _⟩)

end

/-- A ticker goes round the eligible list of a queue of distinct ids (R163). -/
theorem nextEligible_of_getElem {q : List Notice} (distinct : (q.map Notice.id).Nodup) {d : DisplayNo} {cs : ClassSet} {i : Nat}
    {n m : Notice} (here : (eligibleNotices q d cs)[i]? = some n)
    (next : (eligibleNotices q d cs)[(i + 1) % (eligibleNotices q d cs).length]? = some m) :
    nextEligible q d cs n.id = some m.id := by
  unfold nextEligible
  obtain ⟨p, list⟩ := eligibleNotices_filter q d cs
  rw [list] at here next ⊢
  have shown : n ∈ q.filter p := List.mem_of_getElem? here
  obtain ⟨before, after, rfl⟩ := List.append_of_mem (List.mem_filter.mp shown).1
  have parts : (before ++ n :: after).filter p = before.filter p ++ n :: after.filter p := by
    rw [List.filter_append, List.filter_cons_of_pos (List.mem_filter.mp shown).2]
  have place : i = (before.filter p).length := by
    refine (List.getElem?_inj (List.getElem?_eq_some_iff.mp here).1 (distinct.of_map.filter p)).mp ?_
    rw [here, parts]
    simp
  rw [noticesAfter_of_split distinct, parts, find?_standsAfter distinct]
  rw [parts, List.length_append, List.length_cons, place] at next
  cases rest : after.filter p with
  | nil =>
    rw [rest, List.length_nil, Nat.zero_add, Nat.mod_self] at next
    exact congrArg (Option.map Notice.id) (List.head?_eq_getElem?.trans next)
  | cons b others =>
    rw [rest, Nat.mod_eq_of_lt (by simp), List.getElem?_append_right (Nat.le_succ _),
      Nat.succ_sub (Nat.le_refl _), Nat.sub_self] at next
    exact congrArg (Option.map Notice.id) next

/-- A ticker after a step, by the queue and the dwell (R163). -/
def Ticker.stepped (k : Ticker) (q : List Notice) (d : DisplayNo) (dwell : Nat) : Ticker :=
  match k.current with
  | some id => { k with current := nextEligible q d k.classes id, countdown := dwell }
  | none => k

/-- A ticker after a second tick, by the queue and the dwell (R163). -/
def Ticker.ticked (k : Ticker) (q : List Notice) (d : DisplayNo) (dwell : Nat) : Ticker :=
  if k.running && k.current.isSome then
    if k.countdown ≤ 1 then k.stepped q d dwell else { k with countdown := k.countdown - 1 }
  else k

/-- The notices that age without leaving do not turn a ticker (R117, R163). -/
theorem Ticker.ticked_aged (k : Ticker) (q : List Notice) (d : DisplayNo) (dwell : Nat) :
    k.ticked (q.map Notice.aged) d dwell = k.ticked q d dwell := by
  have stepped : k.stepped (q.map Notice.aged) d dwell = k.stepped q d dwell := by
    unfold Ticker.stepped
    split
    · rw [nextEligible_aged]
    · rfl
  rw [Ticker.ticked, stepped]
  rfl

/-- Of the state's records a step changes one ticker, and marks. -/
structure State.TakesTicker (s : State) (d : DisplayNo) (k : Ticker) (t : State) : Prop where
  leaves : s.Leaves [.rep, .fmt, .comp] t
  comp   : t.comp = { s.comp with tickers := s.comp.tickers.write d k }

section
variable (s : State) (d : DisplayNo)

theorem State.setTicker_takes (k : Ticker) : s.TakesTicker d k (s.setTicker d k) := ⟨(s.setTicker_leaves d k).leaves, rfl⟩

theorem State.TakesTicker.same : s.TakesTicker d (s.comp.tickers.read d) s := ⟨.refl _ s, by rw [Table.write_read_self]⟩

theorem State.stepTicker_takes : s.TakesTicker d
    ((s.comp.tickers.read d).stepped s.notice.queue d s.settings.dwell) (s.stepTicker d) := by
  unfold State.stepTicker Ticker.stepped
  dsimp only
  cases s.comp.tickers.read d |>.current with
  | none => exact .same s d
  | some id =>
    dsimp only
    rw [s.nextTickerNotice_eq]
    split
    · exact s.setTicker_takes d _
    · have marks := State.markTile_leaves (s.setTicker d { s.comp.tickers.read d with
        current := nextEligible s.notice.queue d (s.comp.tickers.read d).classes id, countdown := s.settings.dwell })
        (noticeTile d)
      exact ⟨(s.setTicker_leaves d _).leaves.trans (marks.mono (by simp)), marks.blocks.comp (by simp)⟩

theorem State.tickTicker_takes : s.TakesTicker d
    ((s.comp.tickers.read d).ticked s.notice.queue d s.settings.dwell) (s.tickTicker d) := by
  unfold State.tickTicker Ticker.ticked State.tickerCounts
  dsimp only
  split
  · split
    · exact s.stepTicker_takes d
    · exact s.setTicker_takes d _
  · exact .same s d

end

/-- What a second tick reads and writes of a state at a ticker: its record, the queue and the dwell. -/
def State.tickerView (s : State) (d : DisplayNo) : Ticker × List Notice × Nat :=
  (s.comp.tickers.read d, s.notice.queue, s.settings.dwell)

/-- A second tick at the notice unit, by what is read of a state at a ticker (R117, R164). -/
def agedView (d : DisplayNo) (v : Ticker × List Notice × Nat) : Ticker × List Notice × Nat :=
  let q := (v.2.1.filter fun n => !n.expires).map Notice.aged
  (if (v.2.1.any fun n => n.expires && n.targets d) = true then v.1.judged (eligibleNotices q d v.1.classes) v.2.2 else v.1,
    q, v.2.2)

/-- A second tick at the compositor, by what is read of a state at a ticker (R163). -/
def tickedView (d : DisplayNo) (v : Ticker × List Notice × Nat) : Ticker × List Notice × Nat :=
  (v.1.ticked v.2.1 d v.2.2, v.2)

theorem State.TakesTicker.tickerView {s t : State} {d : DisplayNo} {k : Ticker} (h : s.TakesTicker d k t) (e : DisplayNo) :
    t.tickerView e = if e = d then (k, (s.tickerView e).2) else s.tickerView e := by
  simp only [State.tickerView, h.comp, h.leaves.blocks.notice (by simp), h.leaves.blocks.settings (by simp), Table.read_write]
  split <;> rfl

section
variable (s : State) (d : DisplayNo)

/-- A second tick at the compositor ticks every ticker (R163). -/
theorem State.tickCompositor_tickerView : s.tickCompositor.tickerView d = tickedView d (s.tickerView d) := by
  have turn : ∀ (u : State) (e c : DisplayNo), (u.tickTicker e).tickerView c =
      if c = e then tickedView e (u.tickerView e) else u.tickerView c := fun u e c => by
    rw [(u.tickTicker_takes e).tickerView]
    split <;> rfl
  have all : d ∈ (List.finRange 12).filter fun d => (BitVec.allOnes 12).getLsbD d.val :=
    List.mem_filter.mpr ⟨List.mem_finRange d, by rw [BitVec.getLsbD_allOnes]; exact decide_eq_true d.isLt⟩
  obtain ⟨leaves, comp⟩ := s.tickPages_leaves
  have pages : (s.forRegions State.tickPage).tickerView d = s.tickerView d := by
    rw [State.tickerView, leaves.blocks.notice (by simp), leaves.blocks.settings (by simp), comp]
    rfl
  have run := foldl_read_at turn d _ ((List.nodup_finRange 12).filter fun d => (BitVec.allOnes 12).getLsbD d.val)
    (s.forRegions State.tickPage)
  rw [if_pos all, pages] at run
  exact run

/-- A second tick within a minute at which no notice ends ticks every ticker (R41, R117, R163). -/
theorem State.tickReceivers_ticker {s : State} (still : s.clock.Still) (lasting : ∀ a ∈ s.notice.queue, a.lifetime ≠ 1)
    (order : TickOrder) : (order.receivers.foldl State.tickReceiver s).comp.tickers.read d =
      (s.comp.tickers.read d).ticked s.notice.queue d s.settings.dwell := by
  have notices : ∀ u : State, u.ageNotices.tickerView d = agedView d (u.tickerView d) := fun u => by
    obtain ⟨leaves, notice, -⟩ := u.ageNotices_spec
    rw [State.tickerView, u.ageNotices_tickers, notice, leaves.blocks.settings (by simp)]
    rfl
  have none : ∀ a ∈ s.notice.queue, a.expires = false := fun a ha => by simpa [Notice.expires] using lasting a ha
  have kept : (s.notice.queue.filter fun n => !n.expires) = s.notice.queue :=
    List.filter_eq_self.mpr fun a ha => by rw [none a ha]; rfl
  have nobody : (s.notice.queue.any fun n => n.expires && n.targets d) = false :=
    List.any_eq_false.mpr fun a ha => by simp [none a ha]
  have ages : ∀ k w, agedView d (k, s.notice.queue, w) = (k, s.notice.queue.map Notice.aged, w) := fun k w => by
    simp only [agedView, kept, nobody, Bool.false_eq_true, if_false]
  have commute : agedView d (tickedView d (s.tickerView d)) = tickedView d (agedView d (s.tickerView d)) := by
    simp only [tickedView, State.tickerView, ages, Ticker.ticked_aged]
  have run := congrArg Prod.fst (State.tickReceivers_read (read := fun u => u.tickerView d) (f := agedView d)
    (g := tickedView d) (fun _ _ => rfl) notices (fun u => u.tickCompositor_tickerView d) still order commute)
  simpa only [tickedView, State.tickerView, ages, Ticker.ticked_aged] using run

end

/-! ### The commands (R159, R160, R163) -/

section
variable {s : State}

theorem PageState.ticked_idle {p : PageState} {period : Nat} (h : p.active = false ∨ period = 0) : p.ticked period = p := by
  refine if_neg fun turns => ?_
  rw [Bool.and_eq_true, bne_iff_ne] at turns
  obtain inactive | zero := h
  · exact absurd turns.1 (by simp [inactive])
  · exact turns.2 zero

theorem PageState.ticked_eq (p : PageState) (period : Nat) : p.ticked period =
    if p.active = false ∨ period = 0 then p
    else if 2 ≤ p.countdown then { p with countdown := p.countdown - 1 }
    else { p with index := if p.index + 1 < p.count then p.index + 1 else 0, countdown := period } := by
  split
  · next idle => exact PageState.ticked_idle idle
  · next turns =>
    obtain ⟨active, turning⟩ := not_or.mp turns
    have counts : (p.active && period != 0) = true := by simp [turning, Bool.eq_true_of_not_eq_false active]
    rw [PageState.ticked, if_pos counts]
    by_cases last : p.countdown ≤ 1
    · rw [if_pos last, if_neg (by omega)]
      rfl
    · rw [if_neg last, if_pos (by omega)]

theorem exec_pageTurn_turns {l : LayoutNo} {r : RegionNo} (active : (s.page l r).active = true)
    (period : (s.comp.region l r).effectivePeriod ≠ 0) : exec (.pageTurn l r) s = .next (s.turnPage l r) := by
  have turns : s.pageTurns l r = true := by simp [State.pageTurns, active, period]
  exact congrArg Host.Outcome.next (if_pos turns)

theorem exec_pageTurn_idle {l : LayoutNo} {r : RegionNo}
    (idle : (s.page l r).active = false ∨ (s.comp.region l r).effectivePeriod = 0) : exec (.pageTurn l r) s = .next s := by
  have still : ¬ s.pageTurns l r = true := by
    obtain inactive | zero := idle
    · simp [State.pageTurns, inactive]
    · simp [State.pageTurns, zero]
  exact congrArg Host.Outcome.next (if_neg still)

/-- The page states after the clear of a slot through its SHOW entry (R62, R76, R160). -/
theorem exec_writeEntryShow_cleared_page {tag : Byte} {img : List Byte} {x : Slot} (l : LayoutNo) (r : RegionNo)
    (cursor : s.dir.cursor = { table := .show, index := some x.val }) (length : img.length = 19) (head : img.head? = some 0)
    (occupied : (s.showOf x).state ≠ .vacant) : ∃ t, exec (.writeEntryShow tag img) s = .next t ∧
      t.page l r =
        if x ∈ s.board.order then
          (s.page l r).recounted
            (pageCountOf (t.board.eligible (s.comp.region l r)).length (s.comp.region l r).height)
            (s.comp.region l r).effectivePeriod
        else s.page l r := by
  have image : showOfImage img = some .clear := by
    obtain ⟨b, rest, rfl⟩ := List.exists_cons_of_length_eq_add_one length
    obtain rfl : b = 0 := Option.some.inj head
    rfl
  exact ⟨_, (exec_writeEntryShow_cleared cursor length image occupied).1, s.consumeSpan.clearOccupied_page l r x⟩

theorem PageState.recounted_listed (p : PageState) (count period : Nat) (listed : Prop) [Decidable listed] :
    (if listed then p.recounted count period else p) =
      if p.active = false ∨ ¬ listed then p
      else if p.index < count then { p with count := count }
      else { p with index := 0, count := count, countdown := period } := by
  by_cases h : listed
  · cases active : p.active <;> simp [h, PageState.recounted, active]
  · simp [h]

theorem State.tickerCounts_iff (d : DisplayNo) : s.tickerCounts d = true ↔
    (s.comp.tickers.read d).running = true ∧ (s.comp.tickers.read d).current ≠ none := by
  rw [State.tickerCounts, Bool.and_eq_true, Option.isSome_iff_ne_none]

theorem exec_tickerStep_steps {d : DisplayNo} (running : (s.comp.tickers.read d).running = true)
    (current : (s.comp.tickers.read d).current ≠ none) : exec (.tickerStep d) s = .next (s.stepTicker d) :=
  congrArg Host.Outcome.next (if_pos ((s.tickerCounts_iff d).mpr ⟨running, current⟩))

theorem exec_tickerStep_idle {d : DisplayNo}
    (idle : (s.comp.tickers.read d).running = false ∨ (s.comp.tickers.read d).current = none) :
    exec (.tickerStep d) s = .next s := by
  refine congrArg Host.Outcome.next (if_neg fun counts => ?_)
  obtain ⟨running, current⟩ := (s.tickerCounts_iff d).mp counts
  obtain stopped | empty := idle
  · exact absurd running (by simp [stopped])
  · exact current empty

theorem Ticker.ticked_idle {k : Ticker} (idle : k.running = false ∨ k.current = none) (q : List Notice) (d : DisplayNo)
    (dwell : Nat) : k.ticked q d dwell = k := by
  refine if_neg fun counts => ?_
  obtain stopped | empty := idle
  · simp [stopped] at counts
  · simp [empty] at counts

end

/-- Settles O57: the eligible lists as filters, the page states and the tickers each by their own tick, step and recount. -/
theorem pagesAndTickers : Obligations.PagesAndTickers := by
  unfold Obligations.PagesAndTickers
  refine ⟨fun b g => ?_, fun q d cs => ⟨eligibleNotices_of_urgent, eligibleNotices_of_not_urgent⟩, fun s l r => ?_,
    fun s d queue => ?_⟩
  · exact List.filter_congr fun x _ => Bool.eq_iff_iff.mpr ((g.admits_iff _).trans decide_eq_true_iff.symm)
  · dsimp only
    rw [← Region.effectivePeriod_eq]
    refine ⟨fun active period more => ?_, exec_pageTurn_idle, fun still order => ?_,
      fun tag img x cursor length head occupied => ?_⟩
    · obtain ⟨leaves, comp⟩ := s.turnPage_takes l r
      rw [PageState.turned_eq more] at comp
      exact ⟨_, exec_pageTurn_turns active period, comp, leaves⟩
    · refine ⟨_, exec_secondTick s order, ?_⟩
      rw [State.tickReceivers_page l r (s := { s with divider := { s.divider with secondDue := false } }) still order]
      exact PageState.ticked_eq _ _
    · obtain ⟨t, run, page⟩ := exec_writeEntryShow_cleared_page l r cursor length head occupied
      exact ⟨t, run, page.trans (PageState.recounted_listed _ _ _ _)⟩
  · dsimp only
    refine ⟨fun running i n m here current next => ?_, fun idle => ⟨exec_tickerStep_idle idle, fun still lasting order => ?_⟩⟩
    · have shown : (s.comp.tickers.read d).current ≠ none := by simp [current]
      have stepped : (s.comp.tickers.read d).stepped s.notice.queue d s.settings.dwell =
          { s.comp.tickers.read d with current := some m.id, countdown := s.settings.dwell } := by
        rw [Ticker.stepped, current]
        dsimp only
        rw [nextEligible_of_getElem queue.distinct here next]
      refine ⟨?_, fun still lasting order => ⟨_, exec_secondTick s order, ?_⟩⟩
      · obtain ⟨leaves, comp⟩ := s.stepTicker_takes d
        rw [stepped] at comp
        exact ⟨_, exec_tickerStep_steps running shown, comp, leaves⟩
      · rw [State.tickReceivers_ticker d (s := { s with divider := { s.divider with secondDue := false } }) still lasting order]
        have counts : ((s.comp.tickers.read d).running && (s.comp.tickers.read d).current.isSome) = true := by
          simp [running, current]
        refine (if_pos counts).trans ?_
        rw [stepped]
        by_cases last : (s.comp.tickers.read d).countdown ≤ 1
        · rw [if_pos last, if_neg (by omega)]
        · rw [if_neg last, if_pos (by omega)]
    · refine ⟨_, exec_secondTick s order, ?_⟩
      rw [State.tickReceivers_ticker d (s := { s with divider := { s.divider with secondDue := false } }) still lasting order]
      exact Ticker.ticked_idle idle _ _ _

end Sys2Proof.Machine
end

section
/-! SUPPORT. What a desk post does: its requests, its placement and the decoding of its fragments
(R108 to R114, R119, R123, R125, R164; logs 9 and 35). -/

namespace Sys2Proof.Machine

/-! ### Wake and chime requests (R114, R123, R125) -/

theorem displaySet_getLsbD (ds : List DisplayNo) (d : DisplayNo) : (displaySet ds).getLsbD d.val = decide (d ∈ ds) := by
  have join : ∀ (ds : List DisplayNo) (w : DisplaySet),
      (ds.foldl (fun w e => w ||| BitVec.twoPow 12 e.val) w).getLsbD d.val = (w.getLsbD d.val || decide (d ∈ ds)) := by
    intro ds
    induction ds with
    | nil => simp
    | cons e ds ih =>
      intro w
      rw [List.foldl_cons, ih, BitVec.getLsbD_or, BitVec.getLsbD_twoPow, Bool.or_assoc]
      congr 1
      simp [Fin.ext_iff, eq_comm]
  rw [displaySet, join, BitVec.ofNat_eq_ofNat, BitVec.getLsbD_zero, Bool.false_or]

section
variable (s : State) (n : Notice)

theorem State.wakesOf_getLsbD (d : DisplayNo) :
    (s.wakesOf n).getLsbD d.val = (n.targets d && n.cls.isIn (s.display d).darkWake) := by
  rw [State.wakesOf, displaySet_getLsbD, Bool.eq_iff_iff, decide_eq_true_iff, List.mem_filter]
  exact and_iff_right (List.mem_finRange d)

/-- A chime line takes a request at TONE with room for it (R125). -/
theorem ChimeLine.request_eq (l : ChimeLine) (strikes : Nat) : l.request strikes =
    if l.mode = .tone ∧ l.requests.length < 4 then { l with requests := l.requests ++ [strikes] } else l := by
  unfold ChimeLine.request
  cases l.mode <;> simp [Config.chimeSize]

theorem NoticeClass.chimeLine_eq_some (c : NoticeClass) (i : Fin 2) :
    c.chimeLine = some i ↔ (c = .urgent ∧ i = 0) ∨ ((c = .show ∨ c = .desk) ∧ i = 1) := by
  cases c <;> simp [NoticeClass.chimeLine, eq_comm]

/-- The chime lines after a placement: the line of the notice's class takes a request of at least one strike (R114, R125). -/
theorem State.chimeFor_read (i : Fin 2) : (s.chimeFor n).notice.chimes.read i =
    if n.cls.chimeLine = some i ∧ 1 ≤ n.strikes then (s.notice.chimes.read i).request n.strikes
    else s.notice.chimes.read i := by
  unfold State.chimeFor
  split
  · next j line =>
    simp only [line, Option.some.injEq]
    by_cases strikes : 1 ≤ n.strikes
    · rw [if_pos strikes, show (s.setChime j ((s.notice.chimes.read j).request n.strikes)).notice.chimes.read i = _ from
        Table.read_write _ j i _]
      by_cases same : i = j
      · subst same
        simp [strikes]
      · rw [if_neg same, if_neg fun h => same h.1.symm]
    · rw [if_neg strikes, if_neg fun h => strikes h.2]
  · next none => simp [none]

/-- A placement calls for its notice's wakes and chimes (R114). -/
theorem State.placed_callsFor (ds : DisplaySet) : s.CallsFor (s.placed n ds) n := by
  obtain ⟨-, -, -, wake, chimes, -⟩ := s.placed_spec n ds
  constructor
  · intro d
    rw [wake, BitVec.getLsbD_or, s.wakesOf_getLsbD]
    rfl
  · intro i
    dsimp only
    rw [chimes, s.chimeFor_read, ChimeLine.request_eq]
    simp only [← NoticeClass.chimeLine_eq_some]
    by_cases asked : n.cls.chimeLine = some i ∧ 1 ≤ n.strikes
    · rw [if_pos asked]
      simp only [asked, true_and]
    · rw [if_neg asked, if_neg fun h => asked ⟨h.1, h.2.1⟩]

/-- The tickers after a placement (R114, R164). -/
theorem State.placed_tickers (ds : DisplaySet) (d : DisplayNo) : (s.placed n ds).comp.tickers.read d =
    if ds.getLsbD d.val = true then
      (s.comp.tickers.read d).judged (eligibleNotices s.notice.queue d (s.comp.tickers.read d).classes) s.settings.dwell
    else s.comp.tickers.read d := by
  obtain ⟨blocks, queue, -, -⟩ := s.chimeFor_leaves n
  have comp : ((s.chimeFor n).wakeFor n).comp = s.comp := blocks.comp (by simp)
  have settings : ((s.chimeFor n).wakeFor n).settings = s.settings := blocks.settings (by simp)
  have same : ((s.chimeFor n).wakeFor n).notice.queue = s.notice.queue := queue
  rw [State.placed, State.noticeChange_tickers, comp, settings, same]

end

/-! ### A desk post's placement (R111 to R114) -/

/-- Does the placement of a notice fail? Its id is new, the queue is full, and the tail is not of a lower class (R112). -/
def FailsIn (q : List Notice) (n : Notice) : Prop :=
  ¬ (∃ m ∈ q, m.id = n.id) ∧ 32 ≤ q.length ∧ ∀ m, q.getLast? = some m → m.cls.code ≤ n.cls.code

/-- The displays that a placement's notice change concerns: those of the notice, of the one that it replaces and of the one
that it evicts (R119). -/
def PlacementConcerns (q : List Notice) (n : Notice) (d : DisplayNo) : Prop :=
  n.targets d = true ∨ (∃ m ∈ q, m.id = n.id ∧ m.targets d = true) ∨
    ((¬ ∃ m ∈ q, m.id = n.id) ∧ 32 ≤ q.length ∧ ∃ m, q.getLast? = some m ∧ m.targets d = true)

/-- What a placed desk post makes of a state (R108 to R114, R119, R123, R125, R164). -/
structure State.Posted (s : State) (n : Notice) (t : State) : Prop where
  replaced : (∃ m ∈ s.notice.queue, m.id = n.id) → t.notice.queue =
    if ∃ m ∈ s.notice.queue, m.id = n.id ∧ m.cls = n.cls then s.notice.queue.map fun m => if m.id = n.id then n else m
    else (s.notice.queue.filter fun m => m.id ≠ n.id ∧ m.cls.code ≤ n.cls.code) ++ [n] ++
      s.notice.queue.filter fun m => m.id ≠ n.id ∧ n.cls.code < m.cls.code
  joined : ¬ (∃ m ∈ s.notice.queue, m.id = n.id) →
    let kept := if s.notice.queue.length < 32 then s.notice.queue else s.notice.queue.dropLast
    t.notice.queue =
      (kept.filter fun m => m.cls.code ≤ n.cls.code) ++ [n] ++ kept.filter fun m => n.cls.code < m.cls.code
  evicted : ¬ (∃ m ∈ s.notice.queue, m.id = n.id) → 32 ≤ s.notice.queue.length → s.rep.Quiet →
    AttentionFlag.noticeEvicted.isIn t.rep.flags = true ∧
    ∀ m, s.notice.queue.getLast? = some m → s.rep.queue.length < 16 → Report.noticeEvicted m.id m.cls ∈ t.rep.queue
  post     : t.notice.post = none
  calls    : s.CallsFor t n
  tickers  : ∀ concerned : DisplayNo → Bool, (∀ d, concerned d = true ↔ PlacementConcerns s.notice.queue n d) →
    s.TickersJudged t concerned
  comp     : t.comp = { s.comp with tickers := t.comp.tickers }
  dir      : t.dir = { s.dir with span := none }
  leaves   : s.Leaves [.dir, .rep, .notice, .fmt, .comp] t

/-- The state at which a desk post's requests and notice change begin: the span consumed, the post buffer empty and the
queue as the placement leaves it (R109 to R113). -/
structure State.Enqueues (s : State) (r : List Notice) (v : State) : Prop where
  notice : v.notice = { s.notice with queue := r, post := none }
  comp   : v.comp = s.comp
  dir    : v.dir = { s.dir with span := none }
  leaves : s.Leaves [.dir, .rep, .notice, .fmt, .comp] v

section
variable {s v : State} {r : List Notice} {n : Notice}

/-- What the requests and the notice change of a desk post leave, and what they do (R114, R119). -/
theorem State.Enqueues.placed (h : s.Enqueues r v) (ds : DisplaySet)
    (concerns : ∀ d, ds.getLsbD d.val = true ↔ PlacementConcerns s.notice.queue n d) :
    (v.placed n ds).notice.queue = r ∧ (v.placed n ds).notice.post = none ∧ s.CallsFor (v.placed n ds) n ∧
    (∀ concerned : DisplayNo → Bool, (∀ d, concerned d = true ↔ PlacementConcerns s.notice.queue n d) →
      s.TickersJudged (v.placed n ds) concerned) ∧
    (v.placed n ds).comp = { s.comp with tickers := (v.placed n ds).comp.tickers } ∧
    (v.placed n ds).dir = { s.dir with span := none } ∧ s.Leaves [.dir, .rep, .notice, .fmt, .comp] (v.placed n ds) := by
  obtain ⟨leaves, queue, post, -, -, comp⟩ := v.placed_spec n ds
  have calls := v.placed_callsFor n ds
  have wake : v.notice.wake = s.notice.wake := by rw [h.notice]
  have chimes : v.notice.chimes = s.notice.chimes := by rw [h.notice]
  rw [h.notice] at queue post
  refine ⟨queue, post, ⟨fun d => ?_, fun i => ?_⟩, fun concerned same d => ?_, ?_, ?_, h.leaves.trans (leaves.mono (by simp))⟩
  · rw [calls.wake d, wake, State.display, h.comp]
    rfl
  · rw [calls.chimes i, chimes]
  · have iff : concerned d = true ↔ ds.getLsbD d.val = true := (same d).trans (concerns d).symm
    have now : v.notice.queue = r := by rw [h.notice]
    rw [v.placed_tickers, queue, now, h.comp, h.leaves.blocks.settings (by simp)]
    simp only [iff]
  · rw [comp, h.comp]
  · rw [leaves.blocks.dir (by simp), h.dir]

/-- The span consumed, the post buffer emptied and the queue replaced. -/
theorem State.enqueues_setNotices (s : State) (r : List Notice) : s.Enqueues r ((s.consumeSpan.setPost none).setNotices r) :=
  ⟨rfl, rfl, rfl, .of_same (by constructor <;> simp) rfl rfl⟩

/-- The eviction of the tail, before the new notice joins (R113). -/
theorem State.enqueues_evictTail (s : State) (tail : Notice) (r : List Notice) :
    s.Enqueues r (((s.consumeSpan.setPost none).evictTail tail).setNotices r) := by
  obtain ⟨leaves, notice, comp⟩ := (s.consumeSpan.setPost none).evictTail_spec tail
  have start : s.Leaves [.dir, .rep, .notice, .fmt, .comp] (s.consumeSpan.setPost none) :=
    .of_same (by constructor <;> simp) rfl rfl
  refine ⟨?_, comp, leaves.blocks.dir (by simp), ?_⟩
  · rw [State.setNotices, notice]
    rfl
  · exact (start.trans (leaves.mono (by simp))).trans (.of_same (by constructor <;> simp) rfl rfl)

/-- An eviction while no grant can be made sets its flag, and reports the tail where there is room (R113). -/
theorem State.evictTail_reports (tail : Notice) (quiet : s.rep.Quiet) :
    AttentionFlag.noticeEvicted.isIn (s.evictTail tail).rep.flags = true ∧
    (s.rep.queue.length < 16 → Report.noticeEvicted tail.id tail.cls ∈ (s.evictTail tail).rep.queue) := by
  have grown := (State.queueReport_leaves (.noticeEvicted tail.id tail.cls) (s.setNotices s.notice.queue.dropLast)).quiet quiet
  refine ⟨ReportUnit.setFlag_isIn _ _ grown, fun room => ?_⟩
  have queued : Report.noticeEvicted tail.id tail.cls ∈
      (State.queueReport (.noticeEvicted tail.id tail.cls) (s.setNotices s.notice.queue.dropLast)).rep.queue := by
    rw [State.queueReport_rep, ReportUnit.queueReport_of_room (r := (s.setNotices s.notice.queue.dropLast).rep) _ _ quiet room]
    exact List.mem_append_right _ List.mem_cons_self
  exact (ReportUnit.setFlag_grown _ _ grown).queue.mem queued

/-! ### The three ways of a desk post (R111 to R113) -/

/-- A placement that replaces the live notice of its id (R111). -/
theorem State.posted_replaces (order : NoticesOrdered s.notice.queue) {old : Notice} (live : old ∈ s.notice.queue)
    (same : old.id = n.id) : s.Posted n
      (((s.consumeSpan.setPost none).setNotices (replaceNotice s.notice.queue old n)).placed n (old.target ||| n.target)) := by
  have held : ∃ m ∈ s.notice.queue, m.id = n.id := ⟨old, live, same⟩
  have only : ∀ m ∈ s.notice.queue, m.id = n.id → m = old := fun m hm h => order.eq_of_id hm live (h.trans same.symm)
  have others : ∀ (p : Notice → Prop) [DecidablePred p],
      (fun m : Notice => decide (p m) && m.id != n.id) = fun m => decide (m.id ≠ n.id ∧ p m) := fun p _ => funext fun m => by
    rw [Bool.decide_and, Bool.and_comm, decide_not, bne, beq_eq_decide]
  obtain ⟨queue, post, calls, tickers, comp, dir, leaves⟩ :=
    (s.enqueues_setNotices (replaceNotice s.notice.queue old n)).placed (n := n) (old.target ||| n.target) fun d => by
      rw [BitVec.getLsbD_or, Bool.or_eq_true, PlacementConcerns]
      constructor
      · rintro (h | h)
        · exact .inr (.inl ⟨old, live, same, h⟩)
        · exact .inl h
      · rintro (h | ⟨m, hm, hid, h⟩ | ⟨new, -⟩)
        · exact .inr h
        · exact .inl (only m hm hid ▸ h)
        · exact absurd held new
  refine ⟨fun _ => ?_, fun new => absurd held new, fun new => absurd held new, post, calls, tickers, comp, dir, leaves⟩
  rw [queue, replaceNotice]
  by_cases cls : old.cls = n.cls
  · rw [if_pos cls, if_pos ⟨old, live, same, cls⟩]
  · rw [if_neg cls, if_neg fun ⟨m, hm, hid, h⟩ => cls (only m hm hid ▸ h),
      joinClass_of_sorted n (order.classes.sublist List.filter_sublist), List.filter_filter, List.filter_filter]
    congr 2
    · congr 1
      exact others _
    · exact others _

/-- A placement of a new notice at a queue with room (R112). -/
theorem State.posted_joins (order : NoticesOrdered s.notice.queue) (new : NewTo s.notice.queue n)
    (room : s.notice.queue.length < 32) :
    s.Posted n (((s.consumeSpan.setPost none).setNotices (joinClass s.notice.queue n)).placed n n.target) := by
  have fresh : ¬ ∃ m ∈ s.notice.queue, m.id = n.id := fun ⟨m, hm, same⟩ => new m hm same
  have notFull : ¬ 32 ≤ s.notice.queue.length := Nat.not_le.mpr room
  obtain ⟨queue, post, calls, tickers, comp, dir, leaves⟩ :=
    (s.enqueues_setNotices (joinClass s.notice.queue n)).placed (n := n) n.target fun d => by
      refine ⟨.inl, ?_⟩
      rintro (h | ⟨m, hm, same, -⟩ | ⟨-, full, -⟩)
      · exact h
      · exact absurd same (new m hm)
      · exact absurd full notFull
  refine ⟨fun held => absurd held fresh, fun _ => ?_, fun _ full => absurd full notFull, post, calls, tickers, comp, dir,
    leaves⟩
  dsimp only
  rw [queue, if_pos room, joinClass_of_sorted n order.classes]

/-- A placement of a new notice at a full queue, in place of a tail of a lower class (R112, R113). -/
theorem State.posted_evicts (order : NoticesOrdered s.notice.queue) {tail : Notice} (new : NewTo s.notice.queue n)
    (full : 32 ≤ s.notice.queue.length) (last : s.notice.queue.getLast? = some tail) :
    s.Posted n ((((s.consumeSpan.setPost none).evictTail tail).setNotices
      (joinClass s.notice.queue.dropLast n)).placed n (tail.target ||| n.target)) := by
  have fresh : ¬ ∃ m ∈ s.notice.queue, m.id = n.id := fun ⟨m, hm, same⟩ => new m hm same
  obtain ⟨queue, post, calls, tickers, comp, dir, leaves⟩ :=
    (s.enqueues_evictTail tail (joinClass s.notice.queue.dropLast n)).placed (n := n) (tail.target ||| n.target) fun d => by
      rw [BitVec.getLsbD_or, Bool.or_eq_true, PlacementConcerns]
      constructor
      · rintro (h | h)
        · exact .inr (.inr ⟨fresh, full, tail, last, h⟩)
        · exact .inl h
      · rintro (h | ⟨m, hm, same, -⟩ | ⟨-, -, m, hm, h⟩)
        · exact .inr h
        · exact absurd same (new m hm)
        · obtain rfl := Option.some.inj (last.symm.trans hm)
          exact .inl h
  refine ⟨fun held => absurd held fresh, fun _ => ?_, fun _ _ quiet => ?_, post, calls, tickers, comp, dir, leaves⟩
  · dsimp only
    rw [queue, if_neg (Nat.not_lt.mpr full), joinClass_of_sorted n (order.classes.sublist (List.dropLast_sublist _))]
  · obtain ⟨flag, report⟩ := State.evictTail_reports (s := s.consumeSpan.setPost none) tail quiet
    have after := (State.placed_spec (((s.consumeSpan.setPost none).evictTail tail).setNotices
      (joinClass s.notice.queue.dropLast n)) n (tail.target ||| n.target)).1
    have still : ((s.consumeSpan.setPost none).evictTail tail).rep.Quiet :=
      ((s.consumeSpan.setPost none).evictTail_spec tail).1.quiet quiet
    refine ⟨after.flag still flag, fun m hm room => ?_⟩
    obtain rfl := Option.some.inj (last.symm.trans hm)
    exact (after.reports still).queue.mem (report room)

/-- A desk post whose placement does not fail is placed (R109 to R113). -/
theorem State.placePost_posted (order : NoticesOrdered s.notice.queue) (tag : Byte) (fits : ¬ FailsIn s.notice.queue n) :
    s.Posted n ((s.consumeSpan.setPost none).placePost tag n) := by
  rw [State.placePost]
  cases (s.consumeSpan.setPost none).placing n with
  | replaces old live same run =>
    rw [run]
    exact State.posted_replaces order live same
  | joins new room run =>
    rw [run]
    exact State.posted_joins order new room
  | evicts tail new full last lower run =>
    rw [run]
    exact State.posted_evicts order new full last
  | fails new full last run => exact absurd ⟨fun ⟨m, hm, same⟩ => new m hm same, full, last⟩ fits

/-- The state with the post buffer emptied (R109, R110). -/
def State.emptyPost (s : State) : State := { s with notice := { s.notice with post := none } }

theorem State.emptyPost_refused (s : State) (tag : Byte) (reason : Reason) :
    s.emptyPost.Refused ((s.consumeSpan.setPost none).refuseKind .postNotice tag reason) 0x20 tag reason :=
  s.emptyPost.refuseKind_refused .postNotice tag reason

/-- A desk post whose placement fails is refused QUEUE_FULL (R112). -/
theorem State.placePost_refused (tag : Byte) (fails : FailsIn s.notice.queue n) :
    s.emptyPost.Refused ((s.consumeSpan.setPost none).placePost tag n) 0x20 tag .queueFull := by
  obtain ⟨fresh, full, last⟩ := fails
  have none : (s.consumeSpan.setPost none).placeNotice n = none := by
    cases (s.consumeSpan.setPost none).placing n with
    | replaces old live same run => exact absurd ⟨old, live, same⟩ fresh
    | joins new room run => exact absurd full (Nat.not_le.mpr room)
    | evicts tail new full' last' lower run => exact absurd (last tail last') (Nat.not_le.mpr lower)
    | fails new full' last' run => exact run
  rw [State.placePost, none]
  exact s.emptyPost_refused tag .queueFull

end

/-! ### The decoding of a fragment 0 (R108, R109, R181) -/

/-- A fragment 0 is its fields in turn (R181). -/
theorem fragmentZero_eq (held : Option (Fin 12)) (tag index id packed l1 l0 range link declared : Byte)
    (positions : List Byte) :
    fragmentZero held tag ([index, id, packed, l1, l0, range, link, declared] ++ positions) =
      (NoticeClass.ofCode (packed.toNat % 8)).bind fun cls => (rangeField held range).bind fun ds =>
        (optionalSlot link).bind fun slot =>
          if packed.toNat < 128 ∧ packed.toNat / 16 ≤ 3 ∧ half l1 l0 ≤ 3600 ∧
              (1 ≤ declared.toNat ∧ declared.toNat ≤ 80) ∧ (0 : Byte) ∉ positions.take declared.toNat then
            some
              { notice :=
                  { id := id, cls := cls, takeover := decide (packed.toNat / 8 % 2 = 1 ∧ cls = .urgent),
                    strikes := packed.toNat / 16, lifetime := half l1 l0, target := displaySet ds, linked := slot,
                    text := positions.take declared.toNat },
                declared := declared.toNat, expected := 1, tag := tag }
          else none := rfl

theorem NoticeClass.ofCode_eq_none {k : Nat} (h : 3 < k) : NoticeClass.ofCode k = none := by
  obtain ⟨j, rfl⟩ := Nat.exists_eq_add_of_le' h
  rfl

/-- A fragment 0 with a field out of range is no partial post (R108, R109). -/
theorem fragmentZero_of_bad {held : Option (Fin 12)} {tag index id packed l1 l0 range link declared : Byte}
    {positions : List Byte}
    (bad : 3 < packed.toNat % 8 ∨ 63 < packed.toNat ∨ 3600 < half l1 l0 ∨ 11 < range.toNat % 16 ∨ 3 < range.toNat / 16 ∨
      (95 < link.toNat ∧ link ≠ 0xFF) ∨ declared.toNat = 0 ∨ 80 < declared.toNat ∨
      (0 : Byte) ∈ positions.take declared.toNat) :
    fragmentZero held tag ([index, id, packed, l1, l0, range, link, declared] ++ positions) = none := by
  rw [fragmentZero_eq]
  by_cases code : 3 < packed.toNat % 8
  · rw [NoticeClass.ofCode_eq_none code]
    rfl
  by_cases displays : 3 < range.toNat / 16 ∨ 11 < range.toNat % 16
  · rw [show rangeField held range = none from if_pos displays]
    simp
  by_cases slot : 95 < link.toNat ∧ link ≠ 0xFF
  · have linked : optionalSlot link = none := (if_neg slot.2).trans (by rw [fin?_eq_none slot.1]; rfl)
    simp [linked]
  have test : ¬ (packed.toNat < 128 ∧ packed.toNat / 16 ≤ 3 ∧ half l1 l0 ≤ 3600 ∧
      (1 ≤ declared.toNat ∧ declared.toNat ≤ 80) ∧ (0 : Byte) ∉ positions.take declared.toNat) := by
    rintro ⟨-, strikes, lifetime, ⟨written, room⟩, text⟩
    obtain h | h | h | h | h | h | h | h | h := bad
    · exact code h
    · omega
    · omega
    · exact displays (.inr h)
    · exact displays (.inl h)
    · exact slot h
    · omega
    · omega
    · exact text h
  simp only [if_neg test, Option.bind_fun_none]

/-- A fragment 0 whose fields are in range opens the partial post that they spell (R108, R109). -/
theorem fragmentZero_of_good {held : Option (Fin 12)} {id packed l1 l0 range link declared : Byte} {positions : List Byte}
    {cls : NoticeClass} {ds : List DisplayNo} {slot : Option Slot} (tag index : Byte) (strikes : packed.toNat < 64)
    (code : NoticeClass.ofCode (packed.toNat % 8) = some cls) (lifetime : half l1 l0 ≤ 3600)
    (displays : rangeField held range = some ds) (linked : optionalSlot link = some slot) (written : 1 ≤ declared.toNat)
    (room : declared.toNat ≤ 80) (text : (0 : Byte) ∉ positions.take declared.toNat) :
    fragmentZero held tag ([index, id, packed, l1, l0, range, link, declared] ++ positions) = some
      { notice :=
          { id := id, cls := cls, takeover := decide (8 ≤ packed.toNat % 16 ∧ cls = .urgent),
            strikes := packed.toNat / 16, lifetime := half l1 l0, target := displaySet ds, linked := slot,
            text := positions.take declared.toNat },
        declared := declared.toNat, expected := 1, tag := tag } := by
  have test : packed.toNat < 128 ∧ packed.toNat / 16 ≤ 3 ∧ half l1 l0 ≤ 3600 ∧
      (1 ≤ declared.toNat ∧ declared.toNat ≤ 80) ∧ (0 : Byte) ∉ positions.take declared.toNat :=
    ⟨by omega, by omega, lifetime, ⟨written, room⟩, text⟩
  have flag : (packed.toNat / 8 % 2 = 1 ∧ cls = .urgent) ↔ (8 ≤ packed.toNat % 16 ∧ cls = .urgent) :=
    and_congr_left fun _ => by omega
  rw [fragmentZero_eq, code, displays, linked]
  simp only [Option.bind_some, if_pos test, decide_eq_decide.mpr flag]

/-! ### The directive by its fragment index (R108 to R110, R181; logs 9 and 35) -/

section
variable {s : State} {held : Option (Fin 12)} {tag : Byte}

theorem exec_postNotice {c : Instr} {p : List Byte} (row : c = .postNoticeFragment0 tag p ∨ c = .postNoticeFragment12 tag p) :
    exec c s = .next (s.consumeSpan.postNotice s.dir.span tag p) := by
  obtain rfl | rfl := row <;> rfl

/-- An index above 2 is a BAD_FIELD at either length (log 35). -/
theorem State.postNotice_of_index_large {index : Byte} {rest : List Byte} (large : 2 < index.toNat)
    (length : (index :: rest).length = 40 ∨ (index :: rest).length = 26) :
    s.postNotice held tag (index :: rest) = s.refuseKind .postNotice tag .badField := by
  have zero : ¬ index.toNat = 0 := by omega
  have small : ¬ index.toNat ≤ 2 := Nat.not_le.mpr large
  have ok : postLengthOk (index :: rest) = true := (if_neg zero).trans ((if_neg small).trans (by simpa using length))
  exact (if_pos ok).trans ((if_neg zero).trans (if_neg small))

/-- A fragment 0 of its length that does not decode is a BAD_FIELD (R108, R109). -/
theorem State.postNotice_of_none {rest : List Byte} (length : (0 :: rest : List Byte).length = 40)
    (bad : fragmentZero held tag (0 :: rest) = none) :
    s.postNotice held tag (0 :: rest) = s.refuseKind .postNotice tag .badField := by
  have ok : postLengthOk (0 :: rest) = true := by simpa [postLengthOk] using length
  refine (if_pos ok).trans ((if_pos rfl).trans ?_)
  rw [bad]

/-- A fragment 0 of its length is the post that it decodes to (R108, R109). -/
theorem State.postNotice_of_some {rest : List Byte} (length : (0 :: rest : List Byte).length = 40) {post : PartialPost}
    (good : fragmentZero held tag (0 :: rest) = some post) :
    s.postNotice held tag (0 :: rest) = s.takeFragmentZero tag post := by
  have ok : postLengthOk (0 :: rest) = true := by simpa [postLengthOk] using length
  refine (if_pos ok).trans ((if_pos rfl).trans ?_)
  rw [good]

/-- A fragment 1 or 2 of its length continues a post (R108, R110). -/
theorem State.postNotice_more {index id : Byte} {positions : List Byte} (length : positions.length = 24)
    (more : index = 1 ∨ index = 2) :
    s.postNotice held tag (index :: id :: positions) = s.takeFragmentMore tag index.toNat id positions := by
  have zero : ¬ index.toNat = 0 := by obtain rfl | rfl := more <;> decide
  have small : index.toNat ≤ 2 := by obtain rfl | rfl := more <;> decide
  have ok : postLengthOk (index :: id :: positions) = true :=
    (if_neg zero).trans ((if_pos small).trans (by simp [length]))
  exact (if_pos ok).trans ((if_neg zero).trans (if_pos small))

/-- The codes that the text of a held post takes of a fragment 1 or 2 (R108). -/
def moreCodes (index : Byte) (declared : Nat) (positions : List Byte) : List Byte :=
  positions.take (declared - if index = 1 then 32 else 56)

theorem fragmentCodes_more {index : Byte} (more : index = 1 ∨ index = 2) (declared : Nat) (positions : List Byte) :
    fragmentCodes positions (codesBefore index.toNat) declared = moreCodes index declared positions := by
  obtain rfl | rfl := more <;> rfl

/-- A held post takes a fragment 1 or 2: a misfit empties the buffer, a completing one is placed, another waits
(R108, R110). -/
theorem State.takeFragmentMore_of_held {post : PartialPost} (held : s.notice.post = some post) {index id : Byte}
    {positions : List Byte} (more : index = 1 ∨ index = 2) :
    let codes := moreCodes index post.declared positions
    let n : Notice := { post.notice with text := post.notice.text ++ codes }
    s.takeFragmentMore tag index.toNat id positions =
      if id ≠ post.notice.id ∨ index.toNat ≠ post.expected ∨ (0 : Byte) ∈ codes then
        (s.setPost none).refuseKind .postNotice tag .badField
      else if n.text.length = post.declared then (s.setPost none).placePost tag n
      else s.setPost (some { post with notice := n, expected := 2 }) := by
  rw [State.takeFragmentMore, held, ← fragmentCodes_more more]

end

/-- Settles O51: each fragment by its index, and what is placed by the three ways of a placement. -/
theorem postPlaced : Obligations.PostPlaced := by
  unfold Obligations.PostPlaced
  intro s order q live fails emptied placed tag p c row
  have run := exec_postNotice (s := s) row
  have refused : ∀ reason, s.Refused (s.consumeSpan.refuseKind .postNotice tag reason) 0x20 tag reason :=
    s.refuseKind_refused .postNotice tag
  have posted : ∀ n, ¬ fails n → placed n ((s.consumeSpan.setPost none).placePost tag n) := fun n fits => by
    have done := State.placePost_posted order tag fits
    refine ⟨done.replaced, done.joined, done.evicted, done.post, done.calls, done.tickers _ fun d => ?_, done.comp, done.dir,
      done.leaves⟩
    simp only [Bool.or_eq_true, Bool.and_eq_true, decide_eq_true_eq, List.any_eq_true, beq_iff_eq, Option.any_eq_true,
      or_assoc, and_assoc]
    rfl
  refine ⟨?_, ?_, ?_, ?_⟩
  · rintro index id packed l1 l0 range link declared positions rfl length bad
    obtain large | ⟨rfl, bad⟩ := bad
    · exact ⟨_, run.trans (congrArg _ (State.postNotice_of_index_large large (.inl (by simp [length])))), refused _⟩
    · exact ⟨_, run.trans (congrArg _ (State.postNotice_of_none (by simp [length]) (fragmentZero_of_bad bad))),
        refused .badField⟩
  · intro index length head large
    obtain ⟨first, rest, rfl⟩ := List.exists_cons_of_length_eq_add_one length
    obtain rfl : first = index := Option.some.inj head
    exact ⟨_, run.trans (congrArg _ (State.postNotice_of_index_large large (.inr length))), refused _⟩
  · rintro id packed l1 l0 range link declared positions cls ds slot rfl length strikes code lifetime displays linked written
      room text n
    have opened : s.consumeSpan.postNotice s.dir.span tag ([0, id, packed, l1, l0, range, link, declared] ++ positions) =
        s.consumeSpan.takeFragmentZero tag { notice := n, declared := declared.toNat, expected := 1, tag := tag } :=
      State.postNotice_of_some (by simp [length])
        (fragmentZero_of_good tag 0 strikes code lifetime displays linked written room text)
    rw [opened] at run
    have free : id.toNat < 160 → ¬ 160 ≤ id.toNat := Nat.not_le.mpr
    refine ⟨fun reserved => ?_, fun desk short fits => ?_, fun desk short full => ?_, fun desk long => ?_⟩
    · exact ⟨_, run.trans (congrArg _ (if_pos reserved)), refused _⟩
    · exact ⟨_, run.trans (congrArg _ ((if_neg (free desk)).trans (if_pos short))), posted n fits⟩
    · exact ⟨_, run.trans (congrArg _ ((if_neg (free desk)).trans (if_pos short))), State.placePost_refused tag full⟩
    · exact run.trans (congrArg _ ((if_neg (free desk)).trans (if_neg (Nat.not_le.mpr long))))
  · rintro index id positions rfl length more
    have taken := State.postNotice_more (s := s.consumeSpan) (held := s.dir.span) (tag := tag) (id := id) length more
    refine ⟨fun empty => ?_, fun held holds => ?_⟩
    · refine ⟨_, run.trans (congrArg _ (taken.trans ?_)), refused .badField⟩
      rw [State.takeFragmentMore, State.consumeSpan_notice, empty]
    · intro codes n misfit
      have steps := run.trans (congrArg _ (taken.trans (State.takeFragmentMore_of_held (s := s.consumeSpan) holds more)))
      refine ⟨fun bad => ?_, fun good full fits => ?_, fun good full none => ?_, fun good open' => ?_⟩
      · exact ⟨_, steps.trans (congrArg _ (if_pos bad)), s.emptyPost_refused tag .badField⟩
      · exact ⟨_, steps.trans (congrArg _ ((if_neg good).trans (if_pos full))), posted n fits⟩
      · exact ⟨_, steps.trans (congrArg _ ((if_neg good).trans (if_pos full))), State.placePost_refused tag none⟩
      · exact steps.trans (congrArg _ ((if_neg good).trans (if_neg open')))

end Sys2Proof.Machine
end

section
/-! SUPPORT. The render queue, the engine and the tile states under one operation at one tile: a dirty mark, a binding, a
release (R128 to R131, R135, R137). -/

namespace Sys2Proof.Machine

/-! ### Coherence under a change of one tile (R128, R135, R137) -/

section
variable {f : Formatter} {u : TileNo} {x : Tile}

/-- Coherence reads the states of the tiles, the queue and the engine alone. -/
theorem Formatter.Coherent.congr {g : Formatter} (h : f.Coherent)
    (states : ∀ v, (g.tiles.read v).state = (f.tiles.read v).state) (queue : g.queue = f.queue)
    (engine : g.engine = f.engine) : g.Coherent where
  room := queue ▸ h.room
  once := queue ▸ h.once
  queued v := by rw [queue, states]; exact h.queued v
  rendering v := by rw [engine, states]; exact h.rendering v
  busy := by rw [queue, engine]; exact h.busy

/-- A tile record replaced by one of the same state. -/
theorem Formatter.Coherent.write (h : f.Coherent) (state : x.state = (f.tiles.read u).state) :
    Formatter.Coherent { f with tiles := f.tiles.write u x } :=
  h.congr (fun v => by
    dsimp only
    rw [Table.read_write]
    split
    · next here => rw [here, state]
    · rfl) rfl rfl

/-- A tile that neither waits nor renders. -/
def TileState.Apart (k : TileState) : Prop := k ≠ .queued ∧ k ≠ .rendering

/-- A tile that neither waits nor renders, replaced by one that does neither. -/
theorem Formatter.Coherent.writeApart (h : f.Coherent) (before : (f.tiles.read u).state.Apart) (after : x.state.Apart) :
    Formatter.Coherent { f with tiles := f.tiles.write u x } where
  room := h.room
  once := h.once
  queued v := by
    dsimp only
    rw [Table.read_write, h.queued]
    split
    · next here => simp [here, before.1, after.1]
    · rfl
  rendering v := by
    dsimp only
    rw [Table.read_write, ← h.rendering]
    split
    · next here => simp [here, before.2, after.2]
    · rfl
  busy := h.busy

/-- A tile that joins the queue of a busy engine (R135). -/
theorem Formatter.Coherent.join (h : f.Coherent) (before : (f.tiles.read u).state.Apart) (busy : f.engine ≠ none)
    (room : f.queue.length < 16) (state : x.state = .queued) :
    Formatter.Coherent { f with tiles := f.tiles.write u x, queue := f.queue ++ [u] } where
  room := by simp; omega
  once := List.nodup_append.mpr ⟨h.once, List.nodup_singleton u, fun v waits w here same => by
    rw [List.mem_singleton] at here
    subst here
    subst same
    exact before.1 ((h.queued v).mp waits)⟩
  queued v := by
    dsimp only
    rw [Table.read_write, List.mem_append, h.queued, List.mem_singleton]
    split
    · next here => simp [here, state]
    · next other => simp [other]
  rendering v := by
    dsimp only
    rw [Table.read_write, ← h.rendering]
    split
    · next here => simp [here, before.2, state]
    · rfl
  busy idle := absurd idle busy

/-- A tile whose render starts at an idle engine (R137). -/
theorem Formatter.Coherent.start (h : f.Coherent) (before : (f.tiles.read u).state.Apart) (idle : f.engine = none)
    (state : x.state = .rendering) (text : List Byte) :
    Formatter.Coherent { f with tiles := f.tiles.write u x, engine := some { tile := u, text := text } } where
  room := h.room
  once := h.once
  queued v := by
    dsimp only
    rw [Table.read_write, h.queued]
    split
    · next here => simp [here, before.1, state]
    · rfl
  rendering v := by
    have none : (f.tiles.read v).state ≠ .rendering := fun renders => by
      obtain ⟨r, some, _⟩ := (h.rendering v).mp renders
      rw [idle] at some
      cases some
    dsimp only
    rw [Table.read_write]
    split
    · next here => simp [here, state]
    · next other => simp [none, Ne.symm other]
  busy := fun engine => nomatch engine

/-- A tile that is not rendering, replaced by one that neither waits nor renders, which leaves the queue (R130). -/
theorem Formatter.Coherent.leave (h : f.Coherent) (before : (f.tiles.read u).state ≠ .rendering) (after : x.state.Apart) :
    Formatter.Coherent { f with tiles := f.tiles.write u x, queue := f.queue.filter fun v => v != u } where
  room := (List.length_filter_le _ _).trans h.room
  once := h.once.filter _
  queued v := by
    dsimp only
    rw [Table.read_write, List.mem_filter, h.queued]
    split
    · next here => simp [here, after.1]
    · next other => simp [other]
  rendering v := by
    dsimp only
    rw [Table.read_write, ← h.rendering]
    split
    · next here => simp [here, before, after.2]
    · rfl
  busy idle := by simp [h.busy idle]

end

/-! ### A DIRTY tile tries to join (R135, R137) -/

/-- A tile record at its render start (R137). -/
def State.begun (s : State) (u : TileNo) : Tile :=
  { s.fmt.tiles.read u with
    state := .rendering, stale := false, released := false, bound := (s.renderRow u).bound
    minutes := (s.renderRow u).minutes }

/-- What becomes of the formatter where a DIRTY tile tries to join the queue: its render starts, it waits, or it stays as it
is (R135, R137). -/
inductive State.Joins (s : State) (u : TileNo) : Formatter → Prop
  | starts (idle : s.fmt.engine = none) : s.Joins u { s.fmt with
      tiles := s.fmt.tiles.write u (s.begun u), engine := some { tile := u, text := (s.renderRow u).text } }
  | waits (busy : s.fmt.engine ≠ none) (room : s.fmt.queue.length < 16) : s.Joins u { s.fmt with
      tiles := s.fmt.tiles.write u { s.fmt.tiles.read u with state := .queued }, queue := s.fmt.queue ++ [u] }
  | stays (busy : s.fmt.engine ≠ none) (full : 16 ≤ s.fmt.queue.length) : s.Joins u s.fmt

theorem State.startRender_of_busy {s : State} (busy : s.fmt.engine ≠ none) : s.startRender = s := by
  unfold State.startRender
  split
  · next idle _ => exact absurd idle busy
  · rfl
  · rfl

theorem State.startRender_of_empty {s : State} (empty : s.fmt.queue = []) : s.startRender = s := by
  unfold State.startRender
  split
  · next waits => rw [empty] at waits; cases waits
  · rfl
  · rfl

theorem State.startRender_of_waiting {s : State} {u : TileNo} {rest : List TileNo} (idle : s.fmt.engine = none)
    (waits : s.fmt.queue = u :: rest) : s.startRender = s.beginRender u rest := by
  unfold State.startRender
  rw [idle, waits]

/-- A coherent formatter has no render to start (R137). -/
theorem State.startRender_of_coherent {s : State} (h : s.fmt.Coherent) : s.startRender = s := by
  by_cases idle : s.fmt.engine = none
  · exact State.startRender_of_empty (h.busy idle)
  · exact State.startRender_of_busy idle

theorem State.renderRow_enqueue (s : State) (u : TileNo) : (s.enqueue u).renderRow u = s.renderRow u :=
  State.renderRow_congr (s.enqueue_leaves u).blocks rfl (by simp)

theorem State.tryJoin_of_room {s : State} (u : TileNo) (room : s.fmt.queue.length < 16) :
    s.tryJoin u = (s.enqueue u).startRender := if_pos room

theorem State.tryJoin_of_full {s : State} (u : TileNo) (full : 16 ≤ s.fmt.queue.length) :
    s.tryJoin u = s.setFlag .renderBacklog := if_neg (Nat.not_lt.mpr full)

theorem State.tryJoin_joins {s : State} (h : s.fmt.Coherent) (u : TileNo) : s.Joins u (s.tryJoin u).fmt := by
  by_cases idle : s.fmt.engine = none
  · have empty := h.busy idle
    have queue : (s.enqueue u).fmt.queue = [u] := by rw [State.enqueue_queue, empty]; rfl
    rw [State.tryJoin_of_room u (by simp [empty]), State.startRender_of_waiting (s := s.enqueue u) idle queue]
    have started : ((s.enqueue u).beginRender u []).fmt = { s.fmt with
        tiles := s.fmt.tiles.write u (s.begun u), engine := some { tile := u, text := (s.renderRow u).text } } := by
      simp only [State.beginRender, State.renderRow_enqueue, State.enqueue_tiles, Table.read_write_same, Table.write_write,
        State.enqueue_templates, State.enqueue_sweep, empty]
      rfl
    rw [started]
    exact .starts idle
  · by_cases room : s.fmt.queue.length < 16
    · rw [State.tryJoin_of_room u room, State.startRender_of_busy (s := s.enqueue u) idle]
      exact .waits idle room
    · rw [State.tryJoin_of_full u (Nat.le_of_not_lt room), State.setFlag_fmt]
      exact .stays idle (Nat.le_of_not_lt room)

/-- A coherent formatter in which nothing but one tile's record has changed, which is now one of a kind. -/
structure Formatter.ChangesAt (f : Formatter) (u : TileNo) (own : Tile → Prop) (g : Formatter) : Prop where
  coherent : g.Coherent
  others   : ∀ v, v ≠ u → g.tiles.read v = f.tiles.read v
  own      : own (g.tiles.read u)

section
variable {f g : Formatter} {u : TileNo}

theorem Formatter.ChangesAt.of_write {x : Tile} {own : Tile → Prop} (coherent : g.Coherent)
    (tiles : g.tiles = f.tiles.write u x) (is : own x) : f.ChangesAt u own g where
  coherent := coherent
  others v other := by rw [tiles, Table.read_write_other _ _ other]
  own := by rw [tiles, Table.read_write_same]; exact is

theorem Formatter.ChangesAt.same {own : Tile → Prop} (h : f.Coherent) (is : own (f.tiles.read u)) : f.ChangesAt u own f :=
  ⟨h, fun _ _ => rfl, is⟩

theorem Formatter.ChangesAt.mono {own own' : Tile → Prop} (h : f.ChangesAt u own g)
    (sub : ∀ y, own y → own' y) : f.ChangesAt u own' g := ⟨h.coherent, h.others, sub _ h.own⟩

end

/-- The records that a DIRTY tile's attempt to join may leave: DIRTY as it was, QUEUED, or RENDERING and not stale. -/
def Tile.Waits (x y : Tile) : Prop :=
  y = { x with state := .dirty } ∨ y = { x with state := .queued } ∨
  ∃ b m, y = { x with state := .rendering, stale := false, released := false, bound := b, minutes := m }

theorem State.tryJoin_changes {s : State} (h : s.fmt.Coherent) {u : TileNo} (dirty : (s.fmt.tiles.read u).state = .dirty) :
    s.fmt.ChangesAt u (s.fmt.tiles.read u).Waits (s.tryJoin u).fmt := by
  have before : (s.fmt.tiles.read u).state.Apart := by rw [dirty]; exact ⟨nofun, nofun⟩
  generalize join : (s.tryJoin u).fmt = g
  have joins := State.tryJoin_joins h u
  rw [join] at joins
  cases joins with
  | starts idle => exact .of_write (h.start before idle rfl _) rfl (.inr (.inr ⟨_, _, rfl⟩))
  | waits busy room => exact .of_write (h.join before busy room rfl) rfl (.inr (.inl rfl))
  | stays busy full => exact .same h (.inl (by rw [← dirty]))

theorem State.makeDirty_changes {s : State} (h : s.fmt.Coherent) {u : TileNo} (before : (s.fmt.tiles.read u).state.Apart) :
    s.fmt.ChangesAt u (s.fmt.tiles.read u).Waits (s.makeDirty u).fmt := by
  have apart : TileState.dirty.Apart := ⟨nofun, nofun⟩
  have joined := State.tryJoin_changes (s := s.setTile u { s.fmt.tiles.read u with state := .dirty })
    (h.writeApart before apart) (u := u) (by simp)
  refine ⟨joined.coherent, fun v other => ?_, ?_⟩
  · rw [State.makeDirty, joined.others v other, State.setTile_tiles, Table.read_write_other _ _ other]
  · have own := joined.own
    rwa [State.setTile_tiles, Table.read_write_same] at own

/-! ### Dirty marks at one tile (R131) -/

/-- A tile that a mark has reached: in use, to be rendered, and stale where its render is in flight; an unused tile stays
(R131). -/
structure Tile.Marked (x y : Tile) : Prop where
  idle   : x.state = .idle → y = x
  waits  : x.state ≠ .idle → y.state ≠ .idle ∧ y.state ≠ .clean
  flight : x.state = .rendering → y.state = .rendering ∧ y.stale = true ∧ y.released = x.released

/-- A tile that a mark leaves as it is: one that is unused, or waits already (R131). -/
theorem Tile.Marked.kept {x : Tile} (clean : x.state ≠ .clean) (flight : x.state ≠ .rendering) : x.Marked x :=
  ⟨fun _ => rfl, fun used => ⟨used, clean⟩, fun renders => absurd renders flight⟩

/-- What one mark does: the marked tile alone, and the formatter stays coherent (R131). -/
theorem State.markTile_changes {s : State} (h : s.fmt.Coherent) (u : TileNo) :
    s.fmt.ChangesAt u (s.fmt.tiles.read u).Marked (s.markTile u).fmt := by
  unfold State.markTile
  split
  · next idle => exact .same h (.kept (by simp [idle]) (by simp [idle]))
  · next clean =>
    refine (State.makeDirty_changes h (by rw [clean]; exact ⟨nofun, nofun⟩)).mono fun y waits => ?_
    refine ⟨fun idle => by simp [clean] at idle, fun _ => ?_, fun flight => by simp [clean] at flight⟩
    obtain rfl | rfl | ⟨b, m, rfl⟩ := waits <;> exact ⟨nofun, nofun⟩
  · next dirty => exact .same h (.kept (by simp [dirty]) (by simp [dirty]))
  · next queued => exact .same h (.kept (by simp [queued]) (by simp [queued]))
  · next flight =>
    exact .of_write (h.write (x := { s.fmt.tiles.read u with stale := true }) rfl) rfl
      ⟨fun idle => by simp [flight] at idle, fun _ => by simp [flight], fun _ => ⟨flight, rfl, rfl⟩⟩

/-! ### Bindings and releases (R129, R130) -/

/-- A tile record after a release (R130). -/
def Tile.free (x : Tile) : Tile :=
  { x with
    ready := false
    pendingText := []
    state := if x.state = .rendering then .rendering else .idle
    released := x.released || decide (x.state = .rendering) }

/-- A release as one change of the tile and of the queue (R130). -/
theorem State.releaseTile_eq {s : State} (h : s.fmt.Coherent) (u : TileNo) :
    s.releaseTile u = { s with fmt := { s.fmt with
      tiles := s.fmt.tiles.write u (s.fmt.tiles.read u).free, queue := s.fmt.queue.filter fun v => v != u } } := by
  have stays : (s.fmt.tiles.read u).state ≠ .queued → (s.fmt.queue.filter fun v => v != u) = s.fmt.queue := fun other =>
    List.filter_eq_self.mpr fun v waits => by
      rw [bne_iff_ne]
      rintro rfl
      exact other ((h.queued v).mp waits)
  have record : ∀ k, (s.fmt.tiles.read u).state = k → (s.fmt.tiles.read u).free = { s.fmt.tiles.read u with
      ready := false, pendingText := [], state := if k = .rendering then .rendering else .idle
      released := (s.fmt.tiles.read u).released || decide (k = .rendering) } := by rintro _ rfl; rfl
  unfold State.releaseTile
  dsimp only
  split
  · next idle => rw [stays (by simp [idle]), record _ idle]; simp [State.setTile, idle]
  · next dirty => rw [stays (by simp [dirty]), record _ dirty]; simp [State.setTile]
  · next clean => rw [stays (by simp [clean]), record _ clean]; simp [State.setTile]
  · next queued => rw [record _ queued]; simp
  · next flight => rw [stays (by simp [flight]), record _ flight]; simp [State.setTile, flight]

theorem State.releaseTile_changes {s : State} (h : s.fmt.Coherent) (u : TileNo) :
    s.fmt.ChangesAt u (· = (s.fmt.tiles.read u).free) (s.releaseTile u).fmt := by
  rw [State.releaseTile_eq h]
  refine .of_write ?_ rfl rfl
  by_cases flight : (s.fmt.tiles.read u).state = .rendering
  · have stays : (s.fmt.queue.filter fun v => v != u) = s.fmt.queue := List.filter_eq_self.mpr fun v waits => by
      rw [bne_iff_ne]
      rintro rfl
      rw [(h.queued v).mp waits] at flight
      cases flight
    rw [stays]
    exact h.write (by simp [Tile.free, flight])
  · exact h.leave flight (by simp [Tile.free, flight, TileState.Apart])

/-- The records that a binding may leave: to be rendered, and stale and not released where the render is in flight, with
the binding where it gives one (R129). -/
structure Tile.Bound (x : Tile) (b : Option Binding) (y : Tile) : Prop where
  entered : x.Entered y
  binding : y.binding = if b.isSome then b else x.binding

theorem State.bindTile_changes {s : State} (h : s.fmt.Coherent) (u : TileNo) (b : Option Binding) :
    s.fmt.ChangesAt u ((s.fmt.tiles.read u).Bound b) (s.bindTile u b).fmt := by
  have dirtied : ∀ x : Tile, (s.fmt.tiles.read u).state.Apart → x.state = (s.fmt.tiles.read u).state →
      x.binding = (if b.isSome then b else (s.fmt.tiles.read u).binding) →
      s.fmt.ChangesAt u ((s.fmt.tiles.read u).Bound b) ((s.setTile u x).makeDirty u).fmt := fun x apart state binding => by
    have made := State.makeDirty_changes (s := s.setTile u x) (u := u) (h.write state) (by simpa [state] using apart)
    refine ⟨made.coherent, fun v other => ?_, ?_⟩
    · rw [made.others v other, State.setTile_tiles, Table.read_write_other _ _ other]
    · have own := made.own
      rw [State.setTile_tiles, Table.read_write_same] at own
      generalize ((s.setTile u x).makeDirty u).fmt.tiles.read u = y at own ⊢
      have flight : (s.fmt.tiles.read u).state = .rendering → y.state = .rendering ∧ y.stale = true ∧ y.released = false :=
        fun flight => absurd flight apart.2
      obtain rfl | rfl | ⟨_, _, rfl⟩ := own
      · exact ⟨⟨nofun, nofun, flight⟩, binding⟩
      · exact ⟨⟨nofun, nofun, flight⟩, binding⟩
      · exact ⟨⟨nofun, nofun, flight⟩, binding⟩
  unfold State.bindTile
  dsimp only
  split
  · next idle => exact dirtied _ (by rw [show (s.fmt.tiles.read u).state = .idle from idle]; exact ⟨nofun, nofun⟩) rfl rfl
  · next clean => exact dirtied _ (by rw [show (s.fmt.tiles.read u).state = .clean from clean]; exact ⟨nofun, nofun⟩) rfl rfl
  · next dirty =>
    replace dirty : (s.fmt.tiles.read u).state = .dirty := dirty
    exact .of_write (h.write rfl) rfl ⟨⟨by simp [dirty], by simp [dirty], fun flight => by simp [dirty] at flight⟩, rfl⟩
  · next queued =>
    replace queued : (s.fmt.tiles.read u).state = .queued := queued
    exact .of_write (h.write rfl) rfl ⟨⟨by simp [queued], by simp [queued], fun flight => by simp [queued] at flight⟩, rfl⟩
  · next flight =>
    replace flight : (s.fmt.tiles.read u).state = .rendering := flight
    exact .of_write (h.write rfl) rfl ⟨⟨by simp [flight], by simp [flight], fun _ => ⟨flight, rfl, rfl⟩⟩, rfl⟩

end Sys2Proof.Machine
end

section
/-! SUPPORT. Operations that reach the tiles by dirty marks alone: the marks themselves, the pages and the tickers, the notice
unit, the tally unit, the show board and the lobby clock (R131 to R135). -/

namespace Sys2Proof.Machine

/-! ### What dirty marks keep (R131, R135, R139) -/

/-- The formatter stays coherent, no committed text changes, and a tile that is ready was ready with the same pending text. -/
structure State.KeepsRenders (s t : State) : Prop where
  coherent  : s.fmt.Coherent → t.fmt.Coherent
  committed : ∀ u : TileNo, (t.fmt.tiles.read u).committed = (s.fmt.tiles.read u).committed
  ready     : ∀ u : TileNo, (t.fmt.tiles.read u).ready = true →
    (s.fmt.tiles.read u).ready = true ∧ (t.fmt.tiles.read u).pendingText = (s.fmt.tiles.read u).pendingText

/-- The tiles are reached by dirty marks alone: each is as it was, or a mark has reached it. -/
structure State.MarksOnly (s t : State) : Prop extends s.KeepsRenders t where
  tiles : s.fmt.Coherent → ∀ u : TileNo,
    t.fmt.tiles.read u = s.fmt.tiles.read u ∨ (s.fmt.tiles.read u).Marked (t.fmt.tiles.read u)

theorem Tile.Marked.trans {x y z : Tile} (h : x.Marked y) (k : y.Marked z) : x.Marked z where
  idle idle := by
    obtain rfl := h.idle idle
    exact k.idle idle
  waits used := k.waits (h.waits used).1
  flight flight := by
    obtain ⟨renders, _, released⟩ := h.flight flight
    obtain ⟨renders', stale, released'⟩ := k.flight renders
    exact ⟨renders', stale, released'.trans released⟩

namespace State.KeepsRenders

variable {s t u : State}

theorem of_fmt (h : t.fmt = s.fmt) : s.KeepsRenders t := by
  constructor <;> rw [h]
  · exact id
  · exact fun _ => rfl
  · exact fun _ ready => ⟨ready, rfl⟩

theorem refl (s : State) : s.KeepsRenders s := of_fmt rfl

theorem trans (h : s.KeepsRenders t) (k : t.KeepsRenders u) : s.KeepsRenders u where
  coherent := k.coherent ∘ h.coherent
  committed v := (k.committed v).trans (h.committed v)
  ready v ready :=
    let ⟨before, text⟩ := k.ready v ready
    let ⟨first, text'⟩ := h.ready v before
    ⟨first, text.trans text'⟩

theorem ite {p : Prop} [Decidable p] (h : s.KeepsRenders t) (k : s.KeepsRenders u) :
    s.KeepsRenders (if p then t else u) := by split <;> assumption

theorem foldl {α : Type} {f : State → α → State} (h : ∀ s a, State.KeepsRenders s (f s a)) (as : List α) (s : State) :
    s.KeepsRenders (as.foldl f s) :=
  List.foldlRecOn as f (refl s) fun t k a _ => k.trans (h t a)

end State.KeepsRenders

theorem State.fmt_ite {s t u : State} {p : Prop} [Decidable p] (h : t.fmt = s.fmt) (k : u.fmt = s.fmt) :
    (if p then t else u).fmt = s.fmt := by split <;> assumption

namespace State.MarksOnly

variable {s t u : State}

/-- A change that reaches neither the tiles nor the queue nor the engine. -/
theorem of_tiles (tiles : t.fmt.tiles = s.fmt.tiles) (queue : t.fmt.queue = s.fmt.queue)
    (engine : t.fmt.engine = s.fmt.engine) : s.MarksOnly t where
  coherent h := h.congr (fun v => by rw [tiles]) queue engine
  committed v := by rw [tiles]
  ready v ready := by rw [tiles] at ready ⊢; exact ⟨ready, rfl⟩
  tiles _ v := .inl (by rw [tiles])

theorem of_fmt (h : t.fmt = s.fmt := by rfl) : s.MarksOnly t := of_tiles (by rw [h]) (by rw [h]) (by rw [h])

theorem refl (s : State) : s.MarksOnly s := of_fmt

theorem trans (h : s.MarksOnly t) (k : t.MarksOnly u) : s.MarksOnly u where
  toKeepsRenders := h.toKeepsRenders.trans k.toKeepsRenders
  tiles coherent v := by
    obtain first | first := h.tiles coherent v
    · rw [← first]
      exact k.tiles (h.coherent coherent) v
    · obtain second | second := k.tiles (h.coherent coherent) v
      · exact .inr (second ▸ first)
      · exact .inr (first.trans second)

theorem then_fmt (h : s.MarksOnly t) (k : u.fmt = t.fmt := by rfl) : s.MarksOnly u := h.trans (of_fmt k)

theorem after_fmt (k : t.MarksOnly u) (h : t.fmt = s.fmt := by rfl) : s.MarksOnly u := trans (of_fmt h) k

theorem ite {p : Prop} [Decidable p] (h : s.MarksOnly t) (k : s.MarksOnly u) : s.MarksOnly (if p then t else u) := by
  split <;> assumption

theorem foldl {α : Type} {f : State → α → State} (h : ∀ s a, State.MarksOnly s (f s a)) (as : List α) (s : State) :
    s.MarksOnly (as.foldl f s) :=
  List.foldlRecOn as f (refl s) fun t k a _ => k.trans (h t a)

end State.MarksOnly

section
variable (s : State)

theorem State.markTile_marksOnly (u : TileNo) : s.MarksOnly (s.markTile u) where
  coherent h := (State.markTile_changes h u).coherent
  committed v := ((s.markTile_leaves u).tiles.tiles v).1
  ready v ready := by
    obtain ⟨_, text, same, _⟩ := (s.markTile_leaves u).tiles.tiles v
    exact ⟨same ▸ ready, text⟩
  tiles h v := by
    obtain ⟨_, others, own⟩ := State.markTile_changes h u
    by_cases here : v = u
    · exact .inr (here ▸ own)
    · exact .inl (others v here)

theorem State.markTiles_marksOnly (p : TileNo → Bool) : s.MarksOnly (s.markTiles p) := .foldl State.markTile_marksOnly _ s

/-! ### Pages and tickers (R158 to R164) -/

theorem State.turnPage_marksOnly (l : LayoutNo) (r : RegionNo) : s.MarksOnly (s.turnPage l r) :=
  .ite (.of_fmt) (.after_fmt (State.markTiles_marksOnly _ _))

theorem State.recountPage_marksOnly (l : LayoutNo) (r : RegionNo) : s.MarksOnly (s.recountPage l r) :=
  .ite (.ite (.of_fmt) (.after_fmt (State.markTiles_marksOnly _ _))) (.refl s)

theorem State.listingChange_marksOnly : s.MarksOnly s.listingChange :=
  (State.MarksOnly.foldl (fun s _ => s.recountPage_marksOnly _ _) _ s).trans (State.markTiles_marksOnly _ _)

/-- A ticker record changed, and a ticker step marked (R134). -/
theorem State.setTicker_mark_marksOnly (d : DisplayNo) (k : Ticker) : s.MarksOnly ((s.setTicker d k).tickerStepMark d) :=
  .after_fmt (State.markTile_marksOnly _ _)

theorem State.stepTicker_marksOnly (d : DisplayNo) : s.MarksOnly (s.stepTicker d) := by
  unfold State.stepTicker
  dsimp only
  split
  · exact .ite (.of_fmt) (s.setTicker_mark_marksOnly d _)
  · exact .refl s

theorem State.rejudgeTicker_marksOnly (d : DisplayNo) : s.MarksOnly (s.rejudgeTicker d) := by
  unfold State.rejudgeTicker
  dsimp only
  refine .ite ?_ (.refl s)
  split
  · exact .ite (.refl s) (s.setTicker_mark_marksOnly d _)
  · split
    · exact s.setTicker_mark_marksOnly d _
    · exact .refl s

theorem State.noticeChange_marksOnly (ds : DisplaySet) : s.MarksOnly (s.noticeChange ds) :=
  (s.markTiles_marksOnly _).trans (.foldl State.rejudgeTicker_marksOnly _ _)

theorem State.tickCompositor_marksOnly : s.MarksOnly s.tickCompositor := by
  have page : ∀ (u : State) (l : LayoutNo) (r : RegionNo), u.MarksOnly (u.tickPage l r) := fun u l r =>
    .ite (.ite (u.turnPage_marksOnly l r) (.of_fmt)) (.refl u)
  have ticker : ∀ (u : State) (d : DisplayNo), u.MarksOnly (u.tickTicker d) := fun u d =>
    .ite (.ite (u.stepTicker_marksOnly d) (.of_fmt)) (.refl u)
  exact (State.MarksOnly.foldl (fun u _ => page u _ _) _ s).trans (.foldl ticker _ _)

/-! ### Notices (R111 to R119) -/

theorem State.removeNotices_marksOnly (p : Notice → Bool) : s.MarksOnly (s.removeNotices p) :=
  .ite (.refl s) (.after_fmt (State.noticeChange_marksOnly _ _))

theorem State.ageNotices_marksOnly : s.MarksOnly s.ageNotices :=
  .ite (.of_fmt) (.after_fmt (State.noticeChange_marksOnly _ _))

theorem State.placed_marksOnly (n : Notice) (ds : DisplaySet) : s.MarksOnly (s.placed n ds) :=
  .after_fmt (State.noticeChange_marksOnly _ _) ((s.chimeFor_leaves n).1.fmt (by simp))

theorem State.placeNotice_marksOnly {s t : State} {n : Notice} (run : s.placeNotice n = some t) : s.MarksOnly t := by
  unfold State.placeNotice at run
  split at run
  · cases run; exact .after_fmt (State.placed_marksOnly _ n _)
  · cases run; exact .after_fmt (State.placed_marksOnly _ n _)
  · cases run; exact .after_fmt (State.placed_marksOnly _ n _)
  · cases run

theorem State.requestBoarding_marksOnly (x : Slot) : s.MarksOnly (s.requestBoarding x) := by
  unfold State.requestBoarding
  split
  · next run => exact State.placeNotice_marksOnly run
  · exact .of_fmt

/-! ### The tally unit (R84 to R102) -/

theorem State.withoutDue_fmt : s.withoutDue.fmt = s.fmt := rfl

theorem State.bandStage_fmt (x : Slot) (c : Nat) : (s.bandStage x c).fmt = s.fmt := rfl

theorem State.saleFinish_fmt (k : Fin 16) (x : Slot) (o : SaleOutcome) : (s.saleFinish k x o).fmt = s.fmt := rfl

theorem State.clipLimitIf_fmt (b : Bool) : (s.clipLimitIf b).fmt = s.fmt := State.fmt_ite rfl rfl

theorem State.departureStage_fmt (x : Slot) : (s.departureStage x).fmt = s.fmt :=
  State.fmt_ite rfl (State.fmt_ite rfl rfl)

theorem State.seatMarkIfMoved_marksOnly (x : Slot) (before : Tally) : s.MarksOnly (s.seatMarkIfMoved x before) :=
  .ite (.refl s) (s.markTiles_marksOnly _)

theorem State.seatStages_fmt (x : Slot) (c : Nat) (w : Int) : (s.seatStages x c w).fmt = s.fmt :=
  State.clipLimitIf_fmt _ _

theorem State.saleApply_marksOnly (k : Fin 16) (x : Slot) (d : Int) : s.MarksOnly (s.saleApply k x d) := by
  refine .after_fmt (State.seatMarkIfMoved_marksOnly _ x _) ?_
  rw [State.saleFinish_fmt, State.departureStage_fmt, State.bandStage_fmt, State.seatStages_fmt]
  exact State.clipLimitIf_fmt _ _

theorem State.changeCapacity_marksOnly (x : Slot) (old new : Nat) : s.MarksOnly (s.changeCapacity x old new) := by
  refine .after_fmt (State.seatMarkIfMoved_marksOnly _ x _) ?_
  rw [State.departureStage_fmt, State.bandStage_fmt, State.seatStages_fmt]

theorem State.recomputeBands_marksOnly : s.MarksOnly s.recomputeBands := by
  have one : ∀ (u : State) (x : Slot), u.MarksOnly (u.recomputeBand x) := fun u x => by
    refine .ite (.after_fmt (State.seatMarkIfMoved_marksOnly _ x _) ?_) (.refl u)
    rw [State.departureStage_fmt, State.bandStage_fmt]
  exact .foldl one _ s

theorem State.takeSale_marksOnly (tag : Byte) (k : Fin 16) (g : Bool) (x : Slot) (d : Int) :
    s.MarksOnly (s.takeSale tag k g x d) := by
  unfold State.takeSale
  dsimp only
  split
  · exact .of_fmt (State.fmt_ite rfl rfl)
  · split
    · exact .of_fmt
    · exact .after_fmt (State.saleApply_marksOnly _ k x d)

/-! ### The show board (R62 to R70) -/

theorem State.stateEffects_marksOnly (x : Slot) (old new : ShowState) : s.MarksOnly (s.stateEffects x old new) := by
  unfold State.stateEffects
  dsimp only
  refine .trans (.trans ?_ (State.listingChange_marksOnly _)) (State.markTiles_marksOnly _ _)
  have unplaced : (if new = .retired then s.unplaceSlot x else s).fmt = s.fmt := State.fmt_ite rfl rfl
  have removed := State.MarksOnly.after_fmt (State.removeNotices_marksOnly _
    (Notice.leavesWith x (decide (old = .boarding)) (decide (new = .retired)))) unplaced
  exact .ite (removed.trans (State.requestBoarding_marksOnly _ x)) removed

theorem State.advanceShow_marksOnly (x : Slot) (m : Nat) : s.MarksOnly (s.advanceShow x m) :=
  .ite (.after_fmt (State.stateEffects_marksOnly _ x _ _)) (.refl s)

theorem State.evaluateSlot_marksOnly (x : Slot) (m : Nat) : s.MarksOnly (s.evaluateSlot x m) := by
  have closed : ∀ u : State, u.MarksOnly (u.closeSales x) := fun u =>
    .after_fmt (State.markTiles_marksOnly _ _)
  exact .ite ((s.advanceShow_marksOnly x m).trans (closed _)) (s.advanceShow_marksOnly x m)

theorem State.boardMinute_marksOnly (m : Nat) (evaluating : Bool) : s.MarksOnly (s.boardMinute m evaluating) := by
  have turn : ∀ (u : State) (x : Slot), u.MarksOnly (u.evaluateTurn m x) := fun u x =>
    .ite (u.evaluateSlot_marksOnly x m) (.refl u)
  unfold State.boardMinute
  split
  · exact .ite (.then_fmt (.foldl turn _ s) (State.recomputeDue_fmt _)) (.refl s)
  · exact .refl s

theorem State.minuteBoundary_marksOnly (m : Nat) : s.MarksOnly (s.minuteBoundary m) :=
  (s.boardMinute_marksOnly m _).trans (State.markTiles_marksOnly _ _)

theorem State.unlist_marksOnly (x : Slot) : s.MarksOnly (s.unlist x) :=
  .ite (.after_fmt (State.listingChange_marksOnly _)) (.refl s)

theorem State.clearSlot_marksOnly (x : Slot) : s.MarksOnly (s.clearSlot x) := by
  refine .ite ?_ (.refl s)
  rw [State.clearOccupied_eq]
  exact ((s.removeNotices_marksOnly _).trans (State.unlist_marksOnly _ x)).trans
    (.after_fmt (State.markTiles_marksOnly _ _))

theorem State.writeListing_marksOnly (x : Slot) (changed : Bool) : s.MarksOnly (s.writeListing x changed) :=
  .ite s.listingChange_marksOnly (.refl s)

theorem State.settle_marksOnly (x : Slot) : s.MarksOnly (s.settle x) :=
  (State.MarksOnly.ite (s.evaluateSlot_marksOnly x _) (.refl s)).trans (State.markTiles_marksOnly _ _)

variable (x : Slot) (w : Show) (mode : TallyMode)

theorem State.insertShow_marksOnly : s.MarksOnly (s.insertShow x w mode) := by
  rw [State.insertShow_eq, State.entered]
  refine .trans ?_ (State.settle_marksOnly _ x)
  exact .after_fmt (State.writeListing_marksOnly _ x true)

theorem State.editShow_marksOnly : s.MarksOnly (s.editShow x w mode) := by
  rw [State.editShow_eq, State.revised, State.refitted]
  have resized : ∀ (u : State) (old new : Nat), u.MarksOnly (u.resize x old new) := fun u old new =>
    .ite (u.changeCapacity_marksOnly x old new) (.refl u)
  have moded : ∀ u : State, (u.toMode x mode).fmt = u.fmt := fun u => State.fmt_ite rfl rfl
  have replaced : ∀ (u : State) (moved : Bool), (u.replace x moved).fmt = u.fmt := fun u moved => State.fmt_ite rfl rfl
  refine .trans (.trans ?_ (State.writeListing_marksOnly _ x _)) (State.settle_marksOnly _ x)
  exact .then_fmt (.after_fmt (resized _ _ _)) ((replaced _ _).trans (moded _))

theorem State.liveEditShow_marksOnly : s.MarksOnly (s.liveEditShow x w) := by
  rw [State.liveEditShow_eq, State.restated, State.relabelled]
  have announced : ∀ (u : State) (p q : Prop) [Decidable p] [Decidable q], u.MarksOnly (u.announces x p q) :=
    fun u p q _ _ => .ite (.ite (u.requestBoarding_marksOnly x) (u.removeNotices_marksOnly _)) (.refl u)
  refine .trans (.trans ?_ (announced _ _ _)) (State.settle_marksOnly _ x)
  exact .after_fmt (State.writeListing_marksOnly _ x _)

/-- What the board does with a SHOW image that it accepts (R61). -/
theorem State.takeShow_marksOnly (v : ShowWrite) : s.MarksOnly (s.takeShow x v) := by
  refine State.MarksOnly.then_fmt (t := s.disposeShow x v) ?_ rfl
  cases v with
  | clear => exact s.clearSlot_marksOnly x
  | record w mode =>
    unfold State.disposeShow
    dsimp only
    split
    · exact s.insertShow_marksOnly x w mode
    · exact s.editShow_marksOnly x w mode
    · exact s.liveEditShow_marksOnly x w
    · exact s.liveEditShow_marksOnly x w
    · exact .refl s

end

/-! ### The lobby clock (R42 to R50) -/

section
variable (s : State)

theorem State.loseClock_marksOnly : s.MarksOnly s.loseClock := .after_fmt (State.markTiles_marksOnly _ _)

theorem State.holdoverStep_fmt : s.holdoverStep.fmt = s.fmt := State.fmt_ite rfl rfl

theorem State.lostStep_marksOnly : s.MarksOnly s.lostStep := .ite s.loseClock_marksOnly (.refl s)

theorem State.countMinute_marksOnly : s.MarksOnly s.countMinute :=
  .then_fmt (.after_fmt (State.minuteBoundary_marksOnly _ _) (s.setClock_fmt _)) (State.setClock_fmt _ _)

theorem State.advanceMinute_marksOnly : s.MarksOnly s.advanceMinute :=
  (s.countMinute_marksOnly.then_fmt (State.holdoverStep_fmt _)).trans (State.lostStep_marksOnly _)

theorem State.tickReceiver_marksOnly (r : TickReceiver) : s.MarksOnly (s.tickReceiver r) := by
  cases r with
  | clock => exact .ite (.ite s.loseClock_marksOnly (.ite s.advanceMinute_marksOnly (.of_fmt))) (.refl s)
  | notices => exact s.ageNotices_marksOnly
  | compositor => exact s.tickCompositor_marksOnly

theorem State.takeMark_marksOnly (m sec : Nat) : s.MarksOnly (s.takeMark m sec) := by
  have text : ∀ (u : State) (p : Prop) [Decidable p], u.MarksOnly (if p then u.clockTextChange else u) := fun u p _ =>
    .ite (u.markTiles_marksOnly _) (.refl u)
  have minute : ∀ (u : State) (p : Prop) [Decidable p], u.MarksOnly (if p then u.minuteBoundary m else u) := fun u p _ =>
    .ite (u.minuteBoundary_marksOnly m) (.refl u)
  exact .trans (.after_fmt (text (s.setClock _) _)) (minute _ _)

theorem State.takeOpen_marksOnly (civil day : Nat) : s.MarksOnly (s.takeOpen civil day) := by
  refine .trans (.trans ?_ (State.minuteBoundary_marksOnly _ 0)) (State.markTiles_marksOnly _ _)
  exact .after_fmt (State.markTiles_marksOnly _ _)

theorem State.takeClose_marksOnly : s.MarksOnly s.takeClose := by
  have cleared : ∀ u : State, u.MarksOnly u.closeBoard := fun u => by
    rw [State.closeBoard_eq]
    exact .then_fmt (.foldl State.clearSlot_marksOnly _ u) (State.withoutDue_fmt _)
  have ended : ∀ u : State, u.MarksOnly u.closeDesks.closeClock := fun u => .after_fmt (State.markTiles_marksOnly _ _)
  exact ((s.removeNotices_marksOnly _).trans (cleared _)).trans (ended _)

end

end Sys2Proof.Machine
end

section
/-! SUPPORT. Every command at the tiles: the directives, the feed's events and the device's own events reach them by dirty marks
alone, apart from the output frame starts, the render completion and the resets (R17, R38, R39, R131, R138, R139). -/

namespace Sys2Proof.Machine

/-! ### The directives (R17 to R26) -/

section
variable (s : State)

theorem State.placePost_marksOnly (tag : Byte) (n : Notice) : s.MarksOnly (s.placePost tag n) := by
  unfold State.placePost
  split
  · next run => exact State.placeNotice_marksOnly run
  · exact .of_fmt

theorem State.postNotice_marksOnly (held : Option (Fin 12)) (tag : Byte) (p : List Byte) :
    s.MarksOnly (s.postNotice held tag p) := by
  have placed : ∀ n, s.MarksOnly ((s.setPost none).placePost tag n) := fun n => .after_fmt (State.placePost_marksOnly _ tag n)
  have more : ∀ i id ps, s.MarksOnly (s.takeFragmentMore tag i id ps) := fun i id ps => by
    unfold State.takeFragmentMore
    split
    · exact .of_fmt
    · exact .ite .of_fmt (.ite (placed _) .of_fmt)
  unfold State.postNotice
  dsimp only
  refine .ite (.ite ?_ (.ite (more _ _ _) .of_fmt)) .of_fmt
  split
  · exact .ite .of_fmt (.ite (placed _) .of_fmt)
  · exact .of_fmt

theorem State.stage_fmt (k : DirectiveKind) (tag : Byte) (b : StagedBody) : (s.stage k tag b).fmt = s.fmt :=
  State.fmt_ite rfl rfl

theorem State.readTurns_fmt : ∀ (n : Nat) (s : State), (State.readTurns n s).fmt = s.fmt
  | 0, _ => rfl
  | n + 1, s => by
    unfold State.readTurns
    split
    · rfl
    · exact State.fmt_ite ((State.readTurns_fmt n _).trans rfl) rfl

theorem State.takeTitle_marksOnly (i : Fin 64) (r : Title) : s.MarksOnly (s.takeTitle i r) :=
  .after_fmt (t := { s with board := { s.board with titles := s.board.titles.write i r } })
    (.foldl (fun u _ => u.markTiles_marksOnly _) _ _)

theorem State.takeTemplate_marksOnly (i : Fin 32) (r : Template) : s.MarksOnly (s.takeTemplate i r) :=
  .trans (t := { s with fmt := { s.fmt with templates := s.fmt.templates.write i r } }) (.of_tiles rfl rfl rfl)
    (State.markTiles_marksOnly _ _)

theorem State.takeSettings_marksOnly (st : Settings) : s.MarksOnly (s.takeSettings st) :=
  .after_fmt (t := { s with settings := st }) ((State.recomputeBands_marksOnly _).trans (State.markTiles_marksOnly _ _))

theorem State.atEntry_marksOnly {n : Nat} (i : Nat) (f : Fin n → State) (h : ∀ k, s.MarksOnly (f k)) :
    s.MarksOnly (s.atEntry i f) := by
  unfold State.atEntry
  split
  · exact h _
  · exact .refl s

theorem State.writeAt_marksOnly (tag : Byte) (t : TableName) (i : Nat) (img : List Byte) :
    s.MarksOnly (s.writeAt tag t i img) := by
  have staged : ∀ b, s.MarksOnly (s.writeStaged tag b) := fun b => by
    cases b with
    | some b => exact .of_fmt (State.fmt_ite rfl rfl)
    | none => exact .of_fmt
  match t with
  | .settings =>
    show s.MarksOnly (s.writeSettings tag img)
    unfold State.writeSettings
    split
    · exact .ite (.then_fmt (s.takeSettings_marksOnly _) (State.advanceCursor_fmt _)) .of_fmt
    · exact .of_fmt
  | .show =>
    refine s.atEntry_marksOnly i _ fun x => ?_
    unfold State.writeShow
    split
    · split
      · exact .of_fmt
      · exact .then_fmt (s.takeShow_marksOnly x _) (State.advanceCursor_fmt _)
    · exact .of_fmt
  | .tally =>
    refine s.atEntry_marksOnly i _ fun x => ?_
    unfold State.writeTally
    split
    · split <;> exact .of_fmt
    · exact .of_fmt
  | .title =>
    refine s.atEntry_marksOnly i _ fun k => ?_
    unfold State.writeTitle
    split
    · exact .then_fmt (s.takeTitle_marksOnly k _) (State.advanceCursor_fmt _)
    · exact .of_fmt
  | .template =>
    refine s.atEntry_marksOnly i _ fun k => ?_
    unfold State.writeTemplate
    split
    · exact .then_fmt (s.takeTemplate_marksOnly k _) (State.advanceCursor_fmt _)
    · exact .of_fmt
  | .layout | .region | .palette | .glyph => exact s.atEntry_marksOnly i _ fun _ => staged _
  | .desk | .notice | .display | .tile => exact .refl s

theorem State.writeEntry_marksOnly (tag : Byte) (img : List Byte) : s.MarksOnly (s.writeEntry tag img) := by
  unfold State.writeEntry
  split
  · exact .of_fmt
  · exact .ite .of_fmt (.ite (s.writeAt_marksOnly tag _ _ img) .of_fmt)

/-- A RESTART with its empty payload, among the directives (R38). -/
def DirectiveKind.Restarts (k : DirectiveKind) (p : List Byte) : Prop := k = .restart ∧ p = []

/-- Every directive but RESTART reaches the tiles by dirty marks alone. -/
theorem State.carryOut_marksOnly {k : DirectiveKind} (held : Option (Fin 12)) (tag : Byte) {p : List Byte}
    (other : ¬ k.Restarts p) : s.MarksOnly (s.carryOut k held tag p) := by
  have no : ∀ k reason, s.MarksOnly (s.refuseKind k tag reason) := fun k reason => .of_fmt
  have staged : ∀ k b, s.MarksOnly (s.stage k tag b) := fun k b => .of_fmt (s.stage_fmt k tag b)
  cases k <;> dsimp only [State.carryOut]
  case markTime =>
    unfold State.markTime
    split
    · exact .ite (.ite (no _ _) (s.takeMark_marksOnly _ _)) (no _ _)
    · exact no _ _
  case openDay =>
    unfold State.openDay
    split
    · exact .ite (.ite (s.takeOpen_marksOnly _ _) (no _ _)) (no _ _)
    · exact no _ _
  case closeDay =>
    unfold State.closeDay
    split
    · exact .ite (no _ _) s.takeClose_marksOnly
    · exact no _ _
  case sale =>
    unfold State.sale
    split
    · split
      · exact s.takeSale_marksOnly _ _ _ _ _
      · exact no _ _
    · exact no _ _
  case acknowledgeBand =>
    unfold State.acknowledgeBand
    split
    · split
      · exact .of_fmt (State.fmt_ite rfl rfl)
      · exact no _ _
    · exact no _ _
  case postNotice => exact s.postNotice_marksOnly held tag p
  case withdrawNotice =>
    unfold State.withdrawNotice
    split
    · exact .ite (s.removeNotices_marksOnly _) (no _ _)
    · exact no _ _
  case driveChimeLine =>
    unfold State.driveChimeLine
    split
    · split
      · exact .of_fmt
      · exact no _ _
    · exact no _ _
  case setCursor =>
    unfold State.setCursor
    split
    · split
      · exact .ite .of_fmt (no _ _)
      · exact no _ _
    · exact no _ _
  case writeEntry => exact s.writeEntry_marksOnly tag p
  case readEntries =>
    unfold State.readEntries
    split
    · refine .ite (no _ _) ?_
      split
      · exact no _ _
      · exact .of_fmt (State.readTurns_fmt _ s)
    · exact no _ _
  case requestStatus =>
    unfold State.requestStatus
    split
    · exact .of_fmt
    · exact no _ _
  case setAttentionMask =>
    unfold State.setAttentionMask
    split
    · exact .ite (.of_fmt (State.fmt_ite rfl rfl)) (no _ _)
    · exact no _ _
  case span =>
    unfold State.takeSpan
    split
    · split
      · exact .of_fmt
      · exact no _ _
    · exact no _ _
  case restart =>
    unfold State.takeRestart
    split
    · exact absurd ⟨rfl, rfl⟩ other
    · exact no _ _
  case setDisplayMode =>
    unfold State.setDisplayMode
    split
    · split
      · exact staged _ _
      · exact no _ _
    · exact no _ _
  case selectLayout =>
    unfold State.selectLayout
    split
    · split
      · exact staged _ _
      · exact no _ _
    · exact no _ _
  case selectProgram =>
    unfold State.selectProgram
    split
    · split
      · exact staged _ _
      · exact no _ _
    · exact no _ _
  case setDisplayMasks =>
    unfold State.setDisplayMasks
    split
    · split
      · exact staged _ _
      · exact no _ _
    · exact no _ _

/-! ### The events of the feed and of the flywheel (R1 to R15) -/

/-- A formatter as a reset leaves it, with its templates (R148). -/
structure Formatter.IsReset (f : Formatter) : Prop where
  tiles  : ∀ u : TileNo, f.tiles.read u = Tile.reset
  queue  : f.queue = []
  engine : f.engine = none

theorem Formatter.restart_isReset (f : Formatter) : f.restart.IsReset :=
  ⟨fun u => Table.read_fill Tile.reset u, rfl, rfl⟩

theorem Formatter.reset_isReset : Formatter.reset.IsReset := ⟨fun u => Table.read_fill Tile.reset u, rfl, rfl⟩

theorem DirectiveKind.ofCode_restart {kind : Byte} (code : DirectiveKind.ofCode kind = some .restart) : kind = 0x3F#8 := by
  unfold DirectiveKind.ofCode at code
  split at code
  case h_15 number => exact BitVec.eq_of_toNat_eq number
  all_goals cases code

theorem State.malformedLocked_fmt : s.malformedLocked.fmt = s.fmt := s.malformedLocked_losesLock.blocks.fmt (by simp)

theorem State.acquireSymbols_fmt : s.acquireSymbols.fmt = s.fmt := by
  unfold State.acquireSymbols
  split <;> rfl

theorem State.loseSymbols_fmt : s.loseSymbols.fmt = s.fmt := by
  by_cases lock : s.feed.lock = .locked
  · exact (State.loseSymbols_losesLock lock).blocks.fmt (by simp)
  · rw [State.loseSymbols_of_unlocked lock]; rfl

theorem State.frameTimeout_fmt : s.frameTimeout.fmt = s.fmt := by
  by_cases lock : s.feed.lock = .locked
  · exact (State.frameTimeout_losesLock lock).blocks.fmt (by simp)
  · rw [State.frameTimeout_of_unlocked lock]

theorem State.takeLineGroup_fmt (z : LaneLines) : (s.takeLineGroup z).fmt = s.fmt := by
  have line : ∀ u : State, (u.lockedLine z).fmt = u.fmt := fun u => State.fmt_ite rfl rfl
  unfold State.takeLineGroup
  dsimp only
  split
  · rfl
  · split <;> rfl
  · split
    · rfl
    · exact line _
    · exact line _

theorem State.takeFrameEnd_fmt : s.takeFrameEnd.fmt = s.fmt := by
  have ending : ∀ u : State, u.lockedFrameEnd.fmt = u.fmt := fun u => State.fmt_ite rfl u.malformedLocked_fmt
  unfold State.takeFrameEnd
  dsimp only
  split
  · rfl
  · split
    · rfl
    · exact State.fmt_ite rfl rfl
    · rfl
  · split
    · rfl
    · exact ending _
    · exact ending _

theorem State.searchPacket_fmt : s.searchPacket.fmt = s.fmt := by
  unfold State.searchPacket
  split
  · rfl
  · split
    · rfl
    · exact State.fmt_ite rfl rfl
    · rfl
  · rfl

/-- A frame start reaches the formatter by an output frame start alone (R12). -/
theorem State.takeFrameStart_fmt {n : Byte} {l : LaneMap} {b : Bool} (quiet : ¬ s.startsOutput (.frameStart n l b)) :
    (s.takeFrameStart n l b).fmt = s.fmt := by
  unfold State.takeFrameStart
  dsimp only
  split
  · rfl
  · next lock =>
    unfold State.searchFrameStart
    split
    · rfl
    · rfl
    · next complete =>
      split
      · next count => exact absurd (.inr ⟨n, l, b, rfl, .inr ⟨lock, complete, count⟩⟩) quiet
      · rfl
  · next lock =>
    unfold State.lockedFrameStart
    split
    · next phase => exact absurd (.inr ⟨n, l, b, rfl, .inl ⟨lock, phase⟩⟩) quiet
    · exact State.malformedLocked_fmt _
    · exact State.malformedLocked_fmt _

/-- A directive by its code reaches the tiles by dirty marks, or is RESTART (R17, R38). -/
theorem State.directive_renders (kind tag : Byte) (p : List Byte) :
    s.MarksOnly (s.directive kind tag p) ∨ (kind = 0x3F#8 ∧ (s.directive kind tag p).fmt.IsReset) := by
  unfold State.directive
  split
  · next k code =>
    by_cases restarts : k.Restarts p
    · obtain ⟨rfl, rfl⟩ := restarts
      exact .inr ⟨DirectiveKind.ofCode_restart code, Formatter.restart_isReset _⟩
    · exact .inl (.after_fmt (State.carryOut_marksOnly _ _ tag restarts) (State.consumeSpan_fmt _))
  · exact .inl .of_fmt

theorem State.takePacket_renders (bytes : List Byte) : s.MarksOnly (s.takePacket bytes) ∨
    (imageByte bytes 2 = 0x3F#8 ∧ (s.takePacket bytes).fmt.IsReset) := by
  unfold State.takePacket
  split
  · split
    · exact s.directive_renders _ _ _
    · exact .inl (.refl s)
  · exact .inl .of_fmt

theorem State.takeMarginPacket_renders (bytes : List Byte) : s.MarksOnly (s.takeMarginPacket bytes) ∨
    (imageByte bytes 2 = 0x3F#8 ∧ (s.takeMarginPacket bytes).fmt.IsReset) := by
  unfold State.takeMarginPacket
  dsimp only
  split
  · exact .inl .of_fmt
  · exact .inl (.of_fmt (State.searchPacket_fmt (s.repeatOut (.marginPacket bytes))))
  · unfold State.lockedPacket
    split
    · exact .inl .of_fmt
    · split
      · obtain marks | reset := State.takePacket_renders _ bytes
        · exact .inl (.after_fmt marks)
        · exact .inr reset
      · exact .inl (.of_fmt (State.malformedLocked_fmt _))
    · exact .inl .of_fmt

theorem State.flywheelLine_fmt : s.flywheelLine.fmt = s.fmt := by
  unfold State.flywheelLine
  split
  · rfl
  · rfl
  · exact State.fmt_ite rfl rfl
  · exact State.fmt_ite rfl rfl

theorem State.flywheelEnd_fmt : s.flywheelEnd.fmt = s.fmt := by
  unfold State.flywheelEnd
  split <;> rfl

theorem State.completeTransmission_fmt : s.completeTransmission.fmt = s.fmt := by
  unfold State.completeTransmission
  split <;> rfl

/-- With the formatter coherent there is no render to start; without, one changes no text (R137). -/
theorem State.startRender_marksOnly : s.MarksOnly s.startRender where
  coherent h := by rw [State.startRender_of_coherent h]; exact h
  committed u := (s.startRender_leaves.tiles.tiles u).1
  ready u ready := by
    obtain ⟨_, text, same, _⟩ := s.startRender_leaves.tiles.tiles u
    exact ⟨same ▸ ready, text⟩
  tiles h u := .inl (by rw [State.startRender_of_coherent h])

end

/-! ### The commands -/

/-- The commands that reset the formatter: power-on reset, RESTART, and a margin packet of RESTART's kind (R38, R39). -/
def Instr.Resets (c : Instr) : Prop :=
  (∃ straps sense, c = .powerOnReset straps sense) ∨ (∃ tag, c = .restart tag []) ∨
  ∃ bytes, c = .marginPacket bytes ∧ imageByte bytes 2 = 0x3F#8

/-- What a command can do to the tiles: dirty marks, an output frame start, a render completion, a reset. -/
theorem exec_renders {c : Instr} {s t : State} (run : exec c s = .next t) :
    s.MarksOnly t ∨ (∃ f o b, s.startsOutput c ∧ t = (s.setFeed f).outputStart o b) ∨
    (c = .renderCompletion ∧ t = s.completeRender) ∨ (Instr.Resets c ∧ t.fmt.IsReset) := by
  by_cases starts : s.startsOutput c
  · obtain ⟨f, o, b, rfl⟩ := State.startsOutput_run starts run
    exact .inr (.inl ⟨f, o, b, starts, rfl⟩)
  cases hd : c.directive? with
  | some d =>
    obtain ⟨k, tag, p⟩ := d
    rw [exec_of_directive hd] at run
    cases run
    by_cases restarts : k.Restarts p
    · obtain ⟨rfl, rfl⟩ := restarts
      refine .inr (.inr (.inr ⟨.inr (.inl ⟨tag, ?_⟩), Formatter.restart_isReset _⟩))
      cases c <;> simp_all [Instr.directive?]
    · exact .inl (.after_fmt (State.carryOut_marksOnly _ _ tag restarts) (State.consumeSpan_fmt _))
  | none =>
    cases c with
    | powerOnReset straps sense =>
      cases run
      exact .inr (.inr (.inr ⟨.inl ⟨straps, sense, rfl⟩, Formatter.reset_isReset⟩))
    | marginPacket bytes =>
      cases run
      obtain marks | ⟨kind, reset⟩ := s.takeMarginPacket_renders bytes
      · exact .inl marks
      · exact .inr (.inr (.inr ⟨.inr (.inr ⟨bytes, rfl, kind⟩), reset⟩))
    | renderCompletion => cases run; exact .inr (.inr (.inl ⟨rfl, rfl⟩))
    | symbolAcquisition => cases run; exact .inl (.of_fmt s.acquireSymbols_fmt)
    | symbolLoss => cases run; exact .inl (.of_fmt s.loseSymbols_fmt)
    | frameStart n l b => cases run; exact .inl (.of_fmt (s.takeFrameStart_fmt starts))
    | lineGroup z => cases run; exact .inl (.of_fmt (s.takeLineGroup_fmt z))
    | frameEnd => cases run; exact .inl (.of_fmt s.takeFrameEnd_fmt)
    | frameTimeout => cases run; exact .inl (.of_fmt s.frameTimeout_fmt)
    | flywheelFrameStart b =>
      cases run
      have busy : ¬ s.feed.flywheelFree = true := fun free => starts ((s.startsOutput_flywheel_iff b).mpr free)
      exact .inl (.of_fmt (by rw [State.flywheelStart_of_not_free busy]))
    | flywheelLine => cases run; exact .inl (.of_fmt s.flywheelLine_fmt)
    | flywheelFrameEnd => cases run; exact .inl (.of_fmt s.flywheelEnd_fmt)
    | tenthTick => cases run; exact .inl .of_fmt
    | secondTick order => cases run; exact .inl (.after_fmt (.foldl State.tickReceiver_marksOnly _ _))
    | minuteBoundary => cases run; exact .inl (.ite s.advanceMinute_marksOnly (.refl s))
    | enterHoldover => cases run; exact .inl (.ite s.advanceMinute_marksOnly (.of_fmt s.holdoverStep_fmt))
    | enterLost => cases run; exact .inl (.ite s.advanceMinute_marksOnly s.lostStep_marksOnly)
    | clockSaturation => cases run; exact .inl (.ite s.loseClock_marksOnly (.refl s))
    | lifetimeExpiry => cases run; exact .inl (s.removeNotices_marksOnly _)
    | chimePatternStart i => cases run; exact .inl (.of_fmt (State.fmt_ite rfl rfl))
    | chimeCountdownExpiry i => cases run; exact .inl .of_fmt
    | pageTurn l r => cases run; exact .inl (.ite (s.turnPage_marksOnly l r) (.refl s))
    | tickerStep d => cases run; exact .inl (.ite (s.stepTicker_marksOnly d) (.refl s))
    | renderStart => cases run; exact .inl s.startRender_marksOnly
    | chainPacketArrival p => cases run; exact .inl (.of_fmt (State.fmt_ite rfl rfl))
    | upstreamReady => cases run; exact .inl .of_fmt
    | upstreamReadyWithdrawal => cases run; exact .inl .of_fmt
    | transmissionCompletion => cases run; exact .inl (.of_fmt s.completeTransmission_fmt)
    | panelRemoval d => cases run; exact .inl (.of_fmt (State.fmt_ite rfl rfl))
    | panelAttachment d => cases run; exact .inl (.of_fmt (State.fmt_ite rfl rfl))
    | _ => simp [Instr.directive?] at hd

end Sys2Proof.Machine
end

section
/-! SUPPORT. The render queue, the engine and the texts through an output frame start and a render completion (R129, R130, R135
to R139, R153 to R171). -/

namespace Sys2Proof.Machine

/-! ### The output frame start (R129, R130, R139, R167) -/

section
variable (s : State)

theorem State.bindTile_keepsRenders (u : TileNo) (b : Option Binding) : s.KeepsRenders (s.bindTile u b) where
  coherent h := (State.bindTile_changes h u b).coherent
  committed := (s.bindTile_keepsOutput u b).committed
  ready := by
    have put : ∀ x : Tile, x.ready = (s.fmt.tiles.read u).ready → x.pendingText = (s.fmt.tiles.read u).pendingText →
        ∀ v, ((s.setTile u x).fmt.tiles.read v).ready = (s.fmt.tiles.read v).ready ∧
          ((s.setTile u x).fmt.tiles.read v).pendingText = (s.fmt.tiles.read v).pendingText := fun x ready text v => by
      rw [State.setTile_tiles, Table.read_write]
      split
      · next here => exact here ▸ ⟨ready, text⟩
      · exact ⟨rfl, rfl⟩
    have kept : ∀ x : Tile, x.ready = (s.fmt.tiles.read u).ready → x.pendingText = (s.fmt.tiles.read u).pendingText →
        ∀ v, ((s.setTile u x).fmt.tiles.read v).ready = true → (s.fmt.tiles.read v).ready = true ∧
          ((s.setTile u x).fmt.tiles.read v).pendingText = (s.fmt.tiles.read v).pendingText :=
      fun x ready text v on => ⟨(put x ready text v).1 ▸ on, (put x ready text v).2⟩
    have dirtied : ∀ x : Tile, x.ready = (s.fmt.tiles.read u).ready → x.pendingText = (s.fmt.tiles.read u).pendingText →
        ∀ v, (((s.setTile u x).makeDirty u).fmt.tiles.read v).ready = true → (s.fmt.tiles.read v).ready = true ∧
          (((s.setTile u x).makeDirty u).fmt.tiles.read v).pendingText = (s.fmt.tiles.read v).pendingText :=
      fun x ready text v on => by
        obtain ⟨_, text', ready', _⟩ := (State.makeDirty_leaves (s.setTile u x) u).tiles.tiles v
        exact text' ▸ kept x ready text v (ready' ▸ on)
    unfold State.bindTile
    dsimp only
    split
    · exact dirtied _ rfl rfl
    · exact dirtied _ rfl rfl
    · exact kept _ rfl rfl
    · exact kept _ rfl rfl
    · exact kept _ rfl rfl

theorem State.releaseTile_keepsRenders (u : TileNo) : s.KeepsRenders (s.releaseTile u) where
  coherent h := (State.releaseTile_changes h u).coherent
  committed := (s.releaseTile_keepsOutput u).committed
  ready v ready := by
    have here : ∀ x : Tile, x.ready = false → ((s.fmt.tiles.write u x).read v).ready = true →
        (s.fmt.tiles.read v).ready = true ∧ ((s.fmt.tiles.write u x).read v).pendingText = (s.fmt.tiles.read v).pendingText :=
      fun x unready on => by
        rw [Table.read_write] at on ⊢
        split at on
        · rw [unready] at on; cases on
        · next other => rw [if_neg other]; exact ⟨on, rfl⟩
    revert ready
    unfold State.releaseTile
    dsimp only
    split <;> exact here _ rfl

theorem State.releaseAll_keepsRenders (us : List TileNo) : s.KeepsRenders (s.releaseAll us) :=
  .foldl State.releaseTile_keepsRenders us s

theorem State.bindAll_keepsRenders (l : LayoutNo) (us : List TileNo) : s.KeepsRenders (s.bindAll l us) :=
  .foldl (fun s u => s.bindTile_keepsRenders u _) us s

theorem State.tilesAfterWrite_keepsRenders (b : Compositor) (l : LayoutNo) (w z : RegionNo → Bool) :
    s.KeepsRenders (s.tilesAfterWrite b l w z) := by
  have pages : ∀ (u : State) (r : RegionNo), u.KeepsRenders (u.pageAfterWrite b w l r) := fun u r =>
    .ite (.ite (.of_fmt rfl) (.refl u)) (.ite (.of_fmt rfl) (.refl u))
  exact .ite (((State.KeepsRenders.foldl pages _ s).trans (State.releaseAll_keepsRenders _ _)).trans
    (State.bindAll_keepsRenders _ _ _)) (.refl s)

theorem State.setComp_keepsRenders (c : Compositor) : s.KeepsRenders (s.setComp c) := .of_fmt rfl

theorem State.setDisplay_keepsRenders (d : DisplayNo) (x : Display) : s.KeepsRenders (s.setDisplay d x) := .of_fmt rfl

theorem State.refuseKind_keepsRenders (k : DirectiveKind) (tag : Byte) (reason : Reason) :
    s.KeepsRenders (s.refuseKind k tag reason) := .of_fmt rfl

theorem State.landLayout_keepsRenders (tag : Byte) (l : LayoutNo) (img : Layout) :
    s.KeepsRenders (s.landLayout tag l img) :=
  .ite ((s.setComp_keepsRenders _).trans (State.tilesAfterWrite_keepsRenders _ _ _ _ _)) (s.refuseKind_keepsRenders _ _ _)

theorem State.landRegion_keepsRenders (tag : Byte) (i : Fin 128) (img : Region) :
    s.KeepsRenders (s.landRegion tag i img) :=
  .ite ((s.setComp_keepsRenders _).trans (State.tilesAfterWrite_keepsRenders _ _ _ _ _)) (s.refuseKind_keepsRenders _ _ _)

theorem Landing.land_keepsRenders (p : Landing) (x : Staged) : p.state.KeepsRenders (p.land x).state := by
  have select : ∀ (l : LayoutNo) (u : State) (d : DisplayNo), u.KeepsRenders (u.selectAt x.tag l d) := fun l u d =>
    .ite (u.refuseKind_keepsRenders _ _ _) (u.setDisplay_keepsRenders d _)
  unfold Landing.land
  dsimp only
  split
  · exact .foldl (fun s d => s.setDisplay_keepsRenders d _) _ _
  · exact .foldl (select _) _ _
  · exact .foldl (fun s d => s.setDisplay_keepsRenders d _) _ _
  · exact .foldl (fun s d => s.setDisplay_keepsRenders d _) _ _
  · rw [Landing.freshIf_state]; exact p.state.landLayout_keepsRenders _ _ _
  · rw [Landing.freshIf_state]; exact p.state.landRegion_keepsRenders _ _ _
  · exact p.state.setComp_keepsRenders _
  · exact p.state.setComp_keepsRenders _

theorem State.landStaged_keepsRenders : s.KeepsRenders s.landStaged.state :=
  List.foldlRecOn (motive := fun p : Landing => s.KeepsRenders p.state) s.dir.handed Landing.land (.of_fmt rfl)
    fun p k x _ => k.trans (p.land_keepsRenders x)

theorem State.settleMode_fmt (d : DisplayNo) : (s.settleMode d).fmt = s.fmt := by
  unfold State.settleMode
  dsimp only
  split <;> rfl

theorem State.settleModes_fmt : s.settleModes.fmt = s.fmt :=
  List.foldlRecOn (motive := fun u : State => u.fmt = s.fmt) _ _ rfl fun u same d _ => (u.settleMode_fmt d).trans same

theorem State.recountLayouts_keepsRenders : s.KeepsRenders s.recountLayouts := by
  have page : ∀ (l : LayoutNo) (p : RegionNo → PageState) (u : State) (r : RegionNo), u.KeepsRenders (u.setPage l r (p r)) :=
    fun l p u r => .of_fmt rfl
  have start : ∀ (l : LayoutNo) (u : State) (r : RegionNo), u.KeepsRenders (u.startPage l r) := fun l u r => .of_fmt rfl
  have leave : ∀ (u : State) (l : LayoutNo), u.KeepsRenders (u.leaveLayout l) := fun u l =>
    (u.releaseAll_keepsRenders _).trans (.foldl (page l fun _ => PageState.inactive) _ _)
  have enter : ∀ (u : State) (l : LayoutNo), u.KeepsRenders (u.enterLayout l) := fun u l =>
    (State.KeepsRenders.foldl (start l) _ u).trans (State.bindAll_keepsRenders _ _ _)
  exact ((State.KeepsRenders.foldl leave _ s).trans (.foldl enter _ _)).trans (State.setComp_keepsRenders _ _)

theorem State.settleTile_keepsRenders (d : DisplayNo) : s.KeepsRenders (s.settleTile d) :=
  .ite ((s.setComp_keepsRenders _).trans (State.bindTile_keepsRenders _ _ _))
    (.ite ((s.setComp_keepsRenders _).trans (State.releaseTile_keepsRenders _ _)) (s.setComp_keepsRenders _))

theorem State.settleTicker_marksOnly (fresh : BitVec 16) (d : DisplayNo) : s.MarksOnly (s.settleTicker fresh d) := by
  unfold State.settleTicker
  dsimp only
  split
  · exact .ite (s.setTicker_mark_marksOnly d _) (.refl s)
  · exact .of_fmt

theorem State.settleChange_marksOnly (old : Display) (bound : Bool) (d : DisplayNo) :
    s.MarksOnly (s.settleChange old bound d) := .ite (s.markTile_marksOnly _) (.refl s)

theorem State.settleNotice_keepsRenders (fresh : BitVec 16) (old : Table Display 12) (d : DisplayNo) :
    s.KeepsRenders (s.settleNotice fresh old d) :=
  (((s.settleTile_keepsRenders d).trans (State.settleTicker_marksOnly _ fresh d).toKeepsRenders).trans
    (State.setDisplay_keepsRenders _ d _)).trans (State.settleChange_marksOnly _ _ _ d).toKeepsRenders

theorem State.compositorStart_keepsRenders : s.KeepsRenders s.compositorStart := by
  have settled : ∀ u : State, u.KeepsRenders u.settleModes := fun u => .of_fmt u.settleModes_fmt
  exact (((s.landStaged_keepsRenders.trans (State.setComp_keepsRenders _ _)).trans (settled _)).trans
    (State.recountLayouts_keepsRenders _)).trans (.foldl (fun u d => u.settleNotice_keepsRenders _ _ d) _ _)

theorem State.commitTiles_read (u : TileNo) : s.commitTiles.fmt.tiles.read u = (s.fmt.tiles.read u).commit := by
  rw [State.commitTiles_tiles, Table.read_tabulate]

theorem Tile.commit_state (x : Tile) : x.commit.state = x.state := by unfold Tile.commit; split <;> rfl

theorem State.commitTiles_coherent {s : State} (h : s.fmt.Coherent) : s.commitTiles.fmt.Coherent :=
  h.congr (fun u => by rw [State.commitTiles_read, Tile.commit_state]) s.commitTiles_queue s.commitTiles_engine

theorem State.frameStartHandling_coherent {s : State} (h : s.fmt.Coherent) (b : Bool) :
    (s.frameStartHandling b).fmt.Coherent := by
  cases b with
  | false =>
    rw [State.frameStartHandling_commitLast]
    exact State.commitTiles_coherent (s.compositorStart_keepsRenders.coherent h)
  | true =>
    rw [State.frameStartHandling_commitFirst]
    exact s.commitTiles.compositorStart_keepsRenders.coherent (State.commitTiles_coherent h)

/-- A committed text after an output frame start is the former one, or the pending text of a tile that was ready (R139). -/
theorem State.frameStartHandling_text (b : Bool) (u : TileNo) :
    ((s.frameStartHandling b).fmt.tiles.read u).committed = (s.fmt.tiles.read u).committed ∨
    ((s.frameStartHandling b).fmt.tiles.read u).committed = (s.fmt.tiles.read u).pendingText := by
  cases b with
  | false =>
    rw [State.frameStartHandling_commitLast, State.commitTiles_committed]
    split
    · next ready => exact .inr (s.compositorStart_keepsRenders.ready u ready).2
    · exact .inl (s.compositorStart_committed u)
  | true =>
    rw [State.frameStartHandling_committed]
    split
    · exact .inr rfl
    · exact .inl rfl

end

/-! ### The render completion (R136, R138) -/

section
variable {s t : State} {r : Render}

/-- A tile record after a completion and before any other render start (R138, step 1). -/
def State.ended (s : State) (r : Render) (u : TileNo) : Tile :=
  if u = r.tile then (s.fmt.tiles.read u).completed r.text else s.fmt.tiles.read u

/-- The tiles of a list in service after the render in flight has ended: the head renders, the others wait, and no other tile
has changed since (R135, R137, R138). -/
structure State.Serves (s : State) (r : Render) (t : State) (order : List TileNo) : Prop where
  coherent  : t.fmt.Coherent
  queue     : t.fmt.queue = order.tail
  engine    : t.fmt.engine = order.head?.map fun u => { tile := u, text := (s.renderRow u).text }
  tiles     : ∀ u : TileNo, t.fmt.tiles.read u =
    if order.head? = some u then
      { s.ended r u with
        state := .rendering, stale := false, released := false, bound := (s.renderRow u).bound
        minutes := (s.renderRow u).minutes }
    else if u ∈ order.tail then { s.ended r u with state := .queued }
    else s.ended r u
  templates : t.fmt.templates = s.fmt.templates
  blocks    : SameBut [.fmt] s t

theorem Tile.completed_kept (x : Tile) (text : List Byte) :
    (x.completed text).committed = x.committed ∧ (x.completed text).binding = x.binding := by
  unfold Tile.completed
  split
  · exact ⟨rfl, rfl⟩
  · split <;> exact ⟨rfl, rfl⟩

theorem Tile.completed_apart {x : Tile} (text : List Byte) : (x.completed text).state.Apart := by
  unfold Tile.completed
  split
  · exact ⟨nofun, nofun⟩
  · split <;> exact ⟨nofun, nofun⟩

theorem State.ended_kept (s : State) (r : Render) (u : TileNo) :
    (s.ended r u).committed = (s.fmt.tiles.read u).committed ∧ (s.ended r u).binding = (s.fmt.tiles.read u).binding := by
  unfold State.ended
  split
  · exact Tile.completed_kept _ _
  · exact ⟨rfl, rfl⟩

theorem State.Serves.kept {order : List TileNo} (h : s.Serves r t order) (u : TileNo) :
    (t.fmt.tiles.read u).committed = (s.fmt.tiles.read u).committed ∧
    (t.fmt.tiles.read u).binding = (s.fmt.tiles.read u).binding := by
  rw [h.tiles]
  split
  · exact s.ended_kept r u
  · split <;> exact s.ended_kept r u

theorem State.Serves.row {order : List TileNo} (h : s.Serves r t order) (u : TileNo) : t.renderRow u = s.renderRow u :=
  State.renderRow_congr (h.blocks.mono (by simp)) h.templates (h.kept u).2

theorem State.Serves.apart {order : List TileNo} (h : s.Serves r t order) {u : TileNo} (out : u ∉ order) :
    t.fmt.tiles.read u = s.ended r u := by
  have head : ¬ order.head? = some u := fun is => out (List.mem_of_mem_head? (Option.mem_def.mpr is))
  rw [h.tiles, if_neg head, if_neg fun tail => out (List.mem_of_mem_tail tail)]

theorem State.tryJoin_rep {u : TileNo} (room : t.fmt.queue.length < 16) : (t.tryJoin u).rep = t.rep := by
  rw [State.tryJoin_of_room u room]
  unfold State.startRender
  split <;> rfl

theorem State.tryJoin_sameBut {u : TileNo} (room : t.fmt.queue.length < 16) : SameBut [.fmt] t (t.tryJoin u) := by
  obtain ⟨feed, dir, _, clock, divider, settings, board, tally, notice, _, comp, sense⟩ := (t.tryJoin_leaves u).blocks
  have rep := State.tryJoin_rep (u := u) room
  constructor <;> simp_all

/-- One DIRTY tile more joins the service while fewer than 17 are in it (R135). -/
theorem State.Serves.join {order : List TileNo} (h : s.Serves r t order) {u : TileNo} (out : u ∉ order)
    (room : order.length ≤ 16) (dirty : (s.ended r u).state = .dirty) : s.Serves r (t.tryJoin u) (order ++ [u]) := by
  have isDirty : (t.fmt.tiles.read u).state = .dirty := by rw [h.apart out, dirty]
  have free : t.fmt.queue.length < 16 := by
    have same := congrArg List.length h.queue
    cases order with
    | nil => simp [same]
    | cons a rest => simp_all
  have joins := State.tryJoin_joins h.coherent u
  have coherent := (State.tryJoin_changes h.coherent isDirty).coherent
  have blocks := h.blocks.trans (State.tryJoin_sameBut (u := u) free)
  generalize t.tryJoin u = v at joins coherent blocks ⊢
  obtain ⟨g, is⟩ : ∃ g, v.fmt = g := ⟨_, rfl⟩
  rw [is] at joins
  cases joins with
  | starts idle =>
    obtain rfl : order = [] := by simpa [h.engine] using idle
    refine ⟨coherent, is ▸ h.queue, by rw [is]; simp [h.row], fun w => ?_, is ▸ h.templates, blocks⟩
    rw [is]
    dsimp only
    rw [Table.read_write]
    split
    · next here => subst here; simp [State.begun, h.apart out, h.row]
    · next other => simp [h.apart (List.not_mem_nil (a := w)), Ne.symm other]
  | waits busy room =>
    obtain ⟨a, rest, rfl⟩ : ∃ a rest, order = a :: rest := by
      cases order with
      | nil => exact absurd h.engine busy
      | cons a rest => exact ⟨a, rest, rfl⟩
    have ne : a ≠ u := fun same => out (same ▸ List.mem_cons_self)
    refine ⟨coherent, by rw [is]; simp [h.queue], by rw [is]; simpa using h.engine, fun w => ?_, is ▸ h.templates, blocks⟩
    rw [is]
    dsimp only
    rw [Table.read_write]
    split
    · next here => subst here; simp [h.apart out, ne]
    · next other =>
      have waits : w ∈ (a :: rest ++ [u]).tail ↔ w ∈ (a :: rest).tail := by simp [other]
      rw [h.tiles w, if_congr waits rfl rfl]
      rfl
  | stays busy full => exact absurd full (Nat.not_le.mpr free)

/-- The tiles of the queue are in service where the render in flight has ended and the next has started (R137, R138). -/
def State.afterRender (s : State) (r : Render) : State :=
  { s with fmt := { s.fmt with
    tiles := s.fmt.tiles.write r.tile ((s.fmt.tiles.read r.tile).completed r.text), engine := none } }

theorem State.afterRender_read (s : State) (r : Render) (u : TileNo) :
    (s.afterRender r).fmt.tiles.read u = s.ended r u := by
  unfold State.afterRender State.ended
  rw [Table.read_write]
  split
  · next here => rw [here]
  · rfl

theorem State.ended_of_ne {u : TileNo} (other : u ≠ r.tile) : s.ended r u = s.fmt.tiles.read u := if_neg other

theorem Formatter.Coherent.flight (h : s.fmt.Coherent) (flight : s.fmt.engine = some r) :
    (s.fmt.tiles.read r.tile).state = .rendering := (h.rendering r.tile).mpr ⟨r, flight, rfl⟩

/-- A tile is RENDERING after the completion and before the next start at no place (R138). -/
theorem State.ended_not_rendering (h : s.fmt.Coherent) (flight : s.fmt.engine = some r) (u : TileNo) :
    (s.ended r u).state ≠ .rendering := by
  unfold State.ended
  split
  · exact (Tile.completed_apart r.text).2
  · next other =>
    intro renders
    obtain ⟨q, some, here⟩ := (h.rendering u).mp renders
    rw [flight] at some
    cases some
    exact other here.symm

theorem State.ended_queued (h : s.fmt.Coherent) (flight : s.fmt.engine = some r) (u : TileNo) :
    u ∈ s.fmt.queue ↔ (s.ended r u).state = .queued := by
  unfold State.ended
  rw [h.queued]
  split
  · next here => simp [here, h.flight flight, (Tile.completed_apart (x := s.fmt.tiles.read r.tile) r.text).1]
  · rfl

theorem State.Serves.begin (h : s.fmt.Coherent) (flight : s.fmt.engine = some r) :
    s.Serves r (s.afterRender r).startRender s.fmt.queue := by
  have queued : ∀ u, u ∈ s.fmt.queue → { s.ended r u with state := .queued } = s.ended r u := fun u waits => by
    rw [← (s.ended_queued h flight u).mp waits]
  cases waits : s.fmt.queue with
  | nil =>
    rw [State.startRender_of_empty (s := s.afterRender r) waits]
    refine ⟨⟨?_, ?_, fun u => ?_, fun u => ?_, fun _ => waits⟩, waits, rfl, fun u => ?_, rfl,
      by constructor <;> simp [State.afterRender]⟩
    · simp [State.afterRender, waits]
    · simp [State.afterRender, waits]
    · rw [State.afterRender_read]; exact s.ended_queued h flight u
    · rw [State.afterRender_read]; simp [State.ended_not_rendering h flight, State.afterRender]
    · rw [State.afterRender_read]; simp
  | cons a rest =>
    have once := h.once
    have room := h.room
    rw [waits, List.nodup_cons] at once
    rw [waits, List.length_cons] at room
    have row : (s.afterRender r).renderRow a = s.renderRow a :=
      State.renderRow_congr (s := s) (t := s.afterRender r) (u := a) (by constructor <;> simp [State.afterRender]) rfl
        (by rw [s.afterRender_read r a]; exact (s.ended_kept r a).2)
    rw [State.startRender_of_waiting (s := s.afterRender r) rfl waits]
    have tiles : ∀ u, ((s.afterRender r).beginRender a rest).fmt.tiles.read u = if u = a then
        { s.ended r u with
          state := .rendering, stale := false, released := false, bound := (s.renderRow u).bound
          minutes := (s.renderRow u).minutes } else s.ended r u := fun u => by
      simp only [State.beginRender, Table.read_write, State.afterRender_read, row]
      split
      · next here => subst here; rfl
      · rfl
    have engine : ((s.afterRender r).beginRender a rest).fmt.engine = some { tile := a, text := (s.renderRow a).text } := by
      simp only [State.beginRender, row]
    refine ⟨⟨?_, once.2, fun u => ?_, fun u => ?_, fun idle => ?_⟩, rfl, engine, fun u => ?_, rfl, by
      constructor <;> simp [State.beginRender, State.afterRender]⟩
    · simp only [State.beginRender]; omega
    · have here : u ∈ a :: rest ↔ (s.ended r u).state = .queued := waits ▸ s.ended_queued h flight u
      rw [tiles]
      split
      · next same => subst same; simpa [State.beginRender] using once.1
      · next other => simpa [State.beginRender, other] using here
    · rw [tiles, engine]
      split
      · next same => simp [same]
      · next other => simp [State.ended_not_rendering h flight, Ne.symm other]
    · rw [engine] at idle; cases idle
    · rw [tiles]
      by_cases same : u = a
      · subst same; simp
      · have ne : ¬ a = u := Ne.symm same
        by_cases tail : u ∈ rest
        · simp [same, ne, tail, queued u (waits ▸ List.mem_cons_of_mem _ tail)]
        · simp [same, ne, tail]

theorem State.Serves.sweepAt {order : List TileNo} (h : s.Serves r t order) (w : TileNo) :
    s.Serves r { t with fmt := { t.fmt with sweep := w } } order :=
  ⟨h.coherent.congr (fun _ => rfl) rfl rfl, h.queue, h.engine, h.tiles, h.templates,
    h.blocks.trans (by constructor <;> simp)⟩

theorem State.startRender_sweep (s : State) : s.startRender.fmt.sweep = s.fmt.sweep := by
  unfold State.startRender
  split <;> rfl

theorem State.tryJoin_sweep (s : State) (u : TileNo) : (s.tryJoin u).fmt.sweep = s.fmt.sweep := by
  unfold State.tryJoin
  split
  · exact (s.enqueue u).startRender_sweep
  · rfl

/-- The tiles in service before the sweep (R138). -/
def State.waiting (s : State) (r : Render) : List TileNo :=
  s.fmt.queue ++ if (s.fmt.tiles.read r.tile).stale = true ∧ (s.fmt.tiles.read r.tile).released = false then [r.tile] else []

/-- The tile that the sweep of a completion finds (R136, R138). -/
def State.swept (s : State) (r : Render) : List TileNo :=
  if (s.waiting r).length ≤ 16 then s.fmt.sweepFinds.toList else []

theorem Tile.completed_dirty_iff {x : Tile} (text : List Byte) :
    (x.completed text).state = .dirty ↔ x.stale = true ∧ x.released = false := by
  unfold Tile.completed
  cases released : x.released
  · cases stale : x.stale <;> simp
  · simp

theorem State.Serves.again (h : s.fmt.Coherent) (flight : s.fmt.engine = some r) :
    s.Serves r (if ((s.fmt.tiles.read r.tile).completed r.text).state = .dirty
      then (s.afterRender r).startRender.tryJoin r.tile else (s.afterRender r).startRender) (s.waiting r) := by
  have begun := State.Serves.begin h flight
  have out : r.tile ∉ s.fmt.queue := fun waits => by
    rw [h.queued, h.flight flight] at waits
    cases waits
  unfold State.waiting
  rw [if_congr (Tile.completed_dirty_iff _) rfl rfl]
  split
  · next again => exact begun.join out h.room (by rw [State.ended, if_pos rfl]; exact (Tile.completed_dirty_iff _).mpr again)
  · rw [List.append_nil]; exact begun

theorem State.Serves.not_dirty {order : List TileNo} (h : s.Serves r t order) {u : TileNo} (served : u ∈ order) :
    (t.fmt.tiles.read u).state ≠ .dirty := by
  rw [h.tiles]
  cases order with
  | nil => cases served
  | cons a rest =>
    split
    · nofun
    · next head =>
      have tail : u ∈ (a :: rest).tail := ((List.mem_cons.mp served).resolve_left fun here => head (by rw [here]; rfl))
      rw [if_pos tail]
      nofun

theorem State.mem_waiting {u : TileNo} : u ∈ s.waiting r ↔ u ∈ s.fmt.queue ∨
    u = r.tile ∧ (s.fmt.tiles.read r.tile).stale = true ∧ (s.fmt.tiles.read r.tile).released = false := by
  unfold State.waiting
  rw [List.mem_append]
  split
  · next again => simp [again]
  · next done => simp [done]

/-- A tile in service was QUEUED or in flight. -/
theorem State.waiting_not_dirty (h : s.fmt.Coherent) (flight : s.fmt.engine = some r) {u : TileNo}
    (waits : u ∈ s.waiting r) : (s.fmt.tiles.read u).state ≠ .dirty := by
  obtain waits | ⟨rfl, _⟩ := State.mem_waiting.mp waits
  · rw [(h.queued u).mp waits]; nofun
  · rw [h.flight flight]; nofun

/-- The sweep finds the tiles that were DIRTY before the completion (R136, R138). -/
theorem State.Serves.sweepFinds (serves : s.Serves r t (s.waiting r)) (h : s.fmt.Coherent)
    (flight : s.fmt.engine = some r) (sweep : t.fmt.sweep = s.fmt.sweep) : t.fmt.sweepFinds = s.fmt.sweepFinds := by
  have same : ∀ u, (t.fmt.tiles.read u).state = .dirty ↔ (s.fmt.tiles.read u).state = .dirty := fun u => by
    by_cases waits : u ∈ s.waiting r
    · exact iff_of_false (serves.not_dirty waits) (State.waiting_not_dirty h flight waits)
    · rw [serves.apart waits]
      unfold State.ended
      split
      · next here =>
        subst here
        refine iff_of_false (fun again => waits (State.mem_waiting.mpr (.inr ⟨rfl, ?_⟩))) (by rw [h.flight flight]; nofun)
        exact (Tile.completed_dirty_iff r.text).mp again
      · rfl
  unfold Formatter.sweepFinds
  simp only [beq_eq_decide, sweep, same]

theorem Formatter.sweepFinds_dirty {f : Formatter} {u : TileNo} (found : f.sweepFinds = some u) :
    (f.tiles.read u).state = .dirty := by simpa using List.find?_some found

/-- A completion ends the render in flight and leaves in service the queue, then the stale tile, then the tile that the sweep
found (R136 to R138). -/
theorem State.completeRender_serves (h : s.fmt.Coherent) (flight : s.fmt.engine = some r) :
    s.Serves r s.completeRender (s.waiting r ++ s.swept r) ∧
    s.completeRender.fmt.sweep = (s.swept r).head?.getD s.fmt.sweep := by
  have again := State.Serves.again h flight
  have kept : (if ((s.fmt.tiles.read r.tile).completed r.text).state = .dirty
      then (s.afterRender r).startRender.tryJoin r.tile else (s.afterRender r).startRender).fmt.sweep = s.fmt.sweep := by
    split
    · rw [State.tryJoin_sweep, State.startRender_sweep]; rfl
    · rw [State.startRender_sweep]; rfl
  have run : s.completeRender = (if ((s.fmt.tiles.read r.tile).completed r.text).state = .dirty
      then (s.afterRender r).startRender.tryJoin r.tile else (s.afterRender r).startRender).runSweep := by
    unfold State.completeRender
    rw [flight]
    rfl
  rw [run]
  generalize (if ((s.fmt.tiles.read r.tile).completed r.text).state = .dirty
    then (s.afterRender r).startRender.tryJoin r.tile else (s.afterRender r).startRender) = t at again kept
  have room : t.fmt.queue.length < Config.renderSize ↔ (s.waiting r).length ≤ 16 := by
    rw [again.queue, List.length_tail]
    simp only [Config.renderSize]
    omega
  unfold State.runSweep State.swept
  rw [again.sweepFinds h flight kept, if_congr room rfl rfl]
  split
  · next fits =>
    split
    · next u found =>
      have dirty := Formatter.sweepFinds_dirty found
      have out : u ∉ s.waiting r := fun waits => State.waiting_not_dirty h flight waits dirty
      have ne : u ≠ r.tile := fun here => by rw [here, h.flight flight] at dirty; cases dirty
      rw [found]
      exact ⟨(again.sweepAt u).join out fits (by rw [State.ended_of_ne ne, dirty]), by rw [State.tryJoin_sweep]; rfl⟩
    · next found =>
      rw [found]
      exact ⟨by simpa using again, kept⟩
  · exact ⟨by simpa using again, kept⟩

theorem State.completeRender_of_idle (idle : s.fmt.engine = none) : s.completeRender = s := by
  unfold State.completeRender
  rw [idle]

theorem State.completeRender_coherent (h : s.fmt.Coherent) : s.completeRender.fmt.Coherent := by
  cases flight : s.fmt.engine with
  | none => rw [State.completeRender_of_idle flight]; exact h
  | some r => exact (State.completeRender_serves h flight).1.coherent

end

end Sys2Proof.Machine
end

section
/-! OBLIGATIONS. The renders stay coherent through every step, and the committed texts change at output frame starts and resets
alone (R128, R130, R135, R137, R139). -/

namespace Sys2Proof.Machine

theorem Formatter.IsReset.coherent {f : Formatter} (h : f.IsReset) : f.Coherent :=
  Formatter.reset_coherent.congr (fun u => by rw [h.tiles, Formatter.reset_isReset.tiles]) h.queue h.engine

theorem Formatter.IsReset.committed {f : Formatter} (h : f.IsReset) (u : TileNo) : (f.tiles.read u).committed = [] := by
  rw [h.tiles]
  rfl

theorem State.outputStart_coherent {s : State} (h : s.fmt.Coherent) (o : OutputFrame) (b : Bool) :
    (s.outputStart o b).fmt.Coherent := by
  unfold State.outputStart
  refine State.frameStartHandling_coherent (s := State.setFeed _ _) ?_ b
  exact h

theorem State.outputStart_text (s : State) (o : OutputFrame) (b : Bool) (u : TileNo) :
    ((s.outputStart o b).fmt.tiles.read u).committed = (s.fmt.tiles.read u).committed ∨
    ((s.outputStart o b).fmt.tiles.read u).committed = (s.fmt.tiles.read u).pendingText := by
  unfold State.outputStart
  exact State.frameStartHandling_text _ b u

theorem State.completeRender_committed (s : State) (u : TileNo) :
    (s.completeRender.fmt.tiles.read u).committed = (s.fmt.tiles.read u).committed := by
  have join : ∀ (t : State) (p : Prop) [Decidable p] (v : TileNo),
      ((if p then t.tryJoin v else t).fmt.tiles.read u).committed = (t.fmt.tiles.read u).committed := fun t p _ v => by
    split
    · exact ((t.tryJoin_leaves v).tiles.tiles u).1
    · rfl
  have sweep : ∀ t : State, (t.runSweep.fmt.tiles.read u).committed = (t.fmt.tiles.read u).committed := fun t => by
    unfold State.runSweep
    split
    · split
      · exact ((State.tryJoin_leaves _ _).tiles.tiles u).1
      · rfl
    · rfl
  cases flight : s.fmt.engine with
  | none => rw [State.completeRender_of_idle flight]
  | some r =>
    unfold State.completeRender
    rw [flight]
    dsimp only
    rw [sweep, join]
    refine ((State.startRender_leaves (s.afterRender r)).tiles.tiles u).1.trans ?_
    rw [State.afterRender_read]
    exact (s.ended_kept r u).1

theorem exec_coherent {c : Instr} {s t : State} (h : s.fmt.Coherent) (run : exec c s = .next t) : t.fmt.Coherent := by
  obtain marks | ⟨f, o, b, _, rfl⟩ | ⟨_, rfl⟩ | ⟨_, reset⟩ := exec_renders run
  · exact marks.coherent h
  · exact State.outputStart_coherent (s := s.setFeed f) h o b
  · exact State.completeRender_coherent h
  · exact reset.coherent

/-- Settles O14: every command makes dirty marks alone, starts an output frame, completes a render or resets, and each keeps
the renders coherent. -/
theorem rendersStayCoherent : Obligations.RendersStayCoherent := by
  unfold Obligations.RendersStayCoherent
  intro s t h run
  unfold step at run
  split at run
  · cases run; exact h
  · next c rest _ => exact exec_coherent (s := { s with pending := rest }) h run

/-- Settles O21: of what a command can do to the tiles, the output frame start and the reset alone reach a committed text. -/
theorem committedTextChangesAtFrameStarts : Obligations.CommittedTextChangesAtFrameStarts := by
  unfold Obligations.CommittedTextChangesAtFrameStarts
  intro c s t u run changed
  obtain marks | ⟨f, o, b, starts, rfl⟩ | ⟨_, rfl⟩ | ⟨resets, reset⟩ := exec_renders run
  · exact absurd (marks.committed u) changed
  · exact .inl ⟨starts, ((s.setFeed f).outputStart_text o b u).resolve_left changed⟩
  · exact absurd (s.completeRender_committed u) changed
  · exact .inr ⟨reset.committed u, resets⟩

end Sys2Proof.Machine
end

section
/-! SUPPORT. The row that a render finds (R137, R140, R141, R146). -/

namespace Sys2Proof.Machine

/-! ### Indices in range -/

theorem fin?_val {n : Nat} (i : Fin n) : fin? n i.val = some i := dif_pos i.isLt

theorem fin?_of_val {n k : Nat} {i : Fin n} (same : i.val = k) : fin? n k = some i := same ▸ fin?_val i

theorem fin?_of_lt {n k : Nat} (h : k < n) : fin? n k = some ⟨k, h⟩ := dif_pos h

/-! ### Layout tiles and notice tiles (R128) -/

theorem tileDisplay_of_layout {u : TileNo} (layout : u.val < 148) : tileDisplay u = none := dif_neg (by omega)

theorem tileDisplay_of_notice {u : TileNo} {d : DisplayNo} (notice : u.val = 148 + d.val) : tileDisplay u = some d := by
  unfold tileDisplay
  rw [dif_pos (by omega)]
  exact congrArg some (Fin.ext (by dsimp only; omega))

/-! ### The ticker region of a layout (R152) -/

section
variable (c : Compositor) (l : LayoutNo)

theorem Compositor.actsAsTicker_iff (r : RegionNo) :
    (c.acts l r && (c.region l r).kind == .ticker) = true ↔ c.ActsAsTicker l r := by
  simp [Compositor.acts, Compositor.ActsAsTicker]

theorem Compositor.tickerRegion_eq_some_iff (r : RegionNo) : c.tickerRegion l = some r ↔ c.FirstTicker l r := by
  have none : ∀ q : RegionNo, (!(c.acts l q && (c.region l q).kind == .ticker)) = true ↔ ¬ c.ActsAsTicker l q := fun q => by
    rw [← c.actsAsTicker_iff l q, Bool.not_eq_true', Bool.not_eq_true]
  rw [Compositor.tickerRegion, List.find?_eq_some_iff_getElem, c.actsAsTicker_iff l r]
  constructor
  · rintro ⟨acts, i, within, rfl, before⟩
    rw [List.getElem_finRange] at acts
    refine ⟨by rwa [List.getElem_finRange], fun q lt => ?_⟩
    rw [List.getElem_finRange] at lt
    have here := before q.val lt
    rw [List.getElem_finRange] at here
    exact (none q).mp here
  · rintro ⟨acts, before⟩
    refine ⟨acts, r.val, by simp, List.getElem_finRange _, fun j lt => ?_⟩
    rw [List.getElem_finRange]
    exact (none _).mpr (before _ lt)

theorem Compositor.tickerRegion_eq_none_iff : c.tickerRegion l = none ↔ ∀ r, ¬ c.ActsAsTicker l r := by
  simp only [Compositor.tickerRegion, List.find?_eq_none, c.actsAsTicker_iff, List.mem_finRange, true_imp_iff]

end

/-! ### Live notices by their id -/

theorem liveNotice_of_mem {q : List Notice} (ordered : NoticesOrdered q) {n : Notice} (live : n ∈ q) :
    liveNotice q n.id = some n := by
  unfold liveNotice
  cases found : q.find? fun m => m.id == n.id with
  | none => simpa using List.find?_eq_none.mp found n live
  | some m =>
    have same : m.id = n.id := by simpa using List.find?_some found
    rw [List.inj_on_of_nodup_map ordered.distinct (List.mem_of_find?_eq_some found) live same]

section
variable {s : State}

theorem State.tickerNotice_of_mem (ordered : NoticesOrdered s.notice.queue) {d : DisplayNo} {n : Notice}
    (live : n ∈ s.notice.queue) (current : (s.comp.tickers.read d).current = some n.id) : s.tickerNotice d = some n := by
  unfold State.tickerNotice
  rw [current]
  exact liveNotice_of_mem ordered live

theorem State.tickerNotice_eq_none {d : DisplayNo}
    (gone : ∀ n ∈ s.notice.queue, (s.comp.tickers.read d).current ≠ some n.id) : s.tickerNotice d = none := by
  unfold State.tickerNotice
  split
  · next id current => exact (liveNotice_eq_none _ id).mpr fun n live same => gone n live (by rw [current, same])
  · rfl

/-! ### Rows (R137, R140, R141, R146) -/

theorem Template.holds_iff (tpl : Template) (k : FieldKind) : tpl.holds k = true ↔ ∃ f ∈ tpl.fields, f.kind = k := by
  simp [Template.holds]

theorem spaceRow_blank (w : Nat) (bound : Option BoundSource) : (spaceRow w bound).Blank w bound := rfl

theorem State.slotRow_showsSlot (i : Fin 32) (x : Slot) (w : Nat) :
    s.ShowsSlot i.val x w (s.slotRow (s.fmt.templates.read i) x w) where
  text i' j same title := by
    obtain rfl := Fin.eq_of_val_eq same
    unfold State.slotRow
    dsimp only
    rw [show fin? 64 (s.board.shows.read x).title = some j from fin?_of_val title]
    rfl
  bound := rfl
  minutes i' same := by
    obtain rfl := Fin.eq_of_val_eq same
    have shown : ((s.showOf x).state.upcoming && s.clock.state.counts) = true ↔
        ((s.showOf x).state = .listed ∨ (s.showOf x).state = .boarding) ∧
          (s.clock.state = .running ∨ s.clock.state = .holdover) := by
      rw [Bool.and_eq_true, ShowState.upcoming_iff, ClockState.counts_iff]
    have minutes : (s.slotRow (s.fmt.templates.read i') x w).minutes =
        if (s.fmt.templates.read i').holds .minutes then minutesValue s.clock (s.showOf x) else none := rfl
    rw [minutes, minutesValue]
    by_cases holds : (s.fmt.templates.read i').holds .minutes = true
    · rw [if_pos holds]
      exact if_congr (shown.trans (and_iff_right ((Template.holds_iff _ _).mp holds)).symm) rfl rfl
    · rw [if_neg holds, if_neg fun all => holds ((Template.holds_iff _ _).mpr all.1)]

theorem State.slotRow?_showsSlot {n : Nat} (within : n ≤ 31) (x : Slot) (unbound : Option BoundSource) (w : Nat) :
    s.ShowsSlot n x w (s.slotRow? (fin? 32 n) (some x) unbound w) := by
  rw [fin?_of_lt (Nat.lt_succ_of_le within)]
  exact State.slotRow_showsSlot (s := s) ⟨n, _⟩ x w

theorem State.slotRow?_none (tpl : Option (Fin 32)) (unbound : Option BoundSource) (w : Nat) :
    (s.slotRow? tpl none unbound w).Blank w unbound := by
  unfold State.slotRow?
  split
  · next none => cases none
  · rfl

theorem State.slotRow?_of_past {n : Nat} (past : 31 < n) (slot : Option Slot) (unbound : Option BoundSource) (w : Nat) :
    (s.slotRow? (fin? 32 n) slot unbound w).Blank w unbound := by
  rw [fin?_eq_none (Nat.succ_le_of_lt past)]
  rfl

theorem Region.cardSource_fixed {g : Region} {x : Slot} (fixed : g.k0 = 0) (slot : x.val = g.k1.toNat) :
    g.cardSource = some (.fixedSlot x) := by
  unfold Region.cardSource
  rw [fixed, ← slot]
  dsimp
  rw [fin?_val]
  rfl

theorem Region.cardSource_next {g : Region} (next : g.k0 = 1) (low : 1 ≤ g.k1.toNat) (high : g.k1.toNat ≤ 24) :
    g.cardSource = some (.nextInAuditorium g.k1.toNat) := by
  unfold Region.cardSource
  rw [next]
  exact if_pos ⟨low, high⟩

/-- A show that a card waits for: LISTED or BOARDING in the auditorium (R140). -/
theorem Board.serves_iff (b : Board) (a : Nat) (x : Slot) :
    ((b.shows.read x).auditorium == a &&
      ((b.shows.read x).state == .listed || (b.shows.read x).state == .boarding)) = true ↔
    (b.shows.read x).auditorium = a ∧ ((b.shows.read x).state = .listed ∨ (b.shows.read x).state = .boarding) := by
  simp

theorem Board.nextInAuditorium_of_first (b : Board) (a : Nat) {i : Nat} {x : Slot} (at' : b.order[i]? = some x)
    (serves : (b.shows.read x).auditorium = a ∧ ((b.shows.read x).state = .listed ∨ (b.shows.read x).state = .boarding))
    (first : ∀ j y, j < i → b.order[j]? = some y →
      ¬ ((b.shows.read y).auditorium = a ∧ ((b.shows.read y).state = .listed ∨ (b.shows.read y).state = .boarding))) :
    b.nextInAuditorium a = some x := by
  obtain ⟨within, at'⟩ := List.getElem?_eq_some_iff.mp at'
  refine List.find?_eq_some_iff_getElem.mpr ⟨(b.serves_iff a x).mpr serves, i, within, at', fun j lt => ?_⟩
  rw [Bool.not_eq_true', ← Bool.not_eq_true, b.serves_iff]
  exact first j _ lt (List.getElem?_eq_getElem _)

theorem Board.nextInAuditorium_eq_none (b : Board) (a : Nat)
    (absent : ∀ x ∈ b.order, ¬ ((b.shows.read x).auditorium = a ∧
      ((b.shows.read x).state = .listed ∨ (b.shows.read x).state = .boarding))) : b.nextInAuditorium a = none :=
  List.find?_eq_none.mpr fun x listed => by
    rw [b.serves_iff]
    exact absent x listed

theorem State.layoutRow_card {b : Binding} (card : (s.comp.region b.layout b.region).kind = .card) :
    s.layoutRow b =
      let g := s.comp.region b.layout b.region
      match g.cardSource with
      | some (.fixedSlot x) =>
        if (s.showOf x).state = .vacant then spaceRow (2 * g.width) (some (.slot x))
        else s.slotRow? (fin? 32 (g.template + b.row)) (some x) (some (.slot x)) (2 * g.width)
      | some (.nextInAuditorium a) =>
        s.slotRow? (fin? 32 (g.template + b.row)) (s.board.nextInAuditorium a) none (2 * g.width)
      | none => spaceRow (2 * g.width) none := by
  unfold State.layoutRow Region.rowTemplate
  simp only [card]
  rfl

theorem State.layoutRow_is (b : Binding) : s.LayoutRowIs b (s.layoutRow b) where
  listing := by
    intro g shown kind template
    have row : s.layoutRow b = s.slotRow? (fin? 32 g.template) shown none (2 * g.width) := by
      unfold State.layoutRow Region.rowTemplate
      simp only [show (s.comp.region b.layout b.region).kind = .listing from kind]
      rfl
    rw [row]
    refine ⟨fun x is => ?_, fun is => ?_⟩
    · rw [is]; exact State.slotRow?_showsSlot template x none _
    · rw [is]; exact State.slotRow?_none _ _ _
  fixed := by
    intro g n x kind source slot
    rw [State.layoutRow_card kind]
    dsimp only
    rw [Region.cardSource_fixed source slot]
    dsimp only
    refine ⟨fun occupied within => ?_, fun none => ?_⟩
    · rw [if_neg occupied]; exact State.slotRow?_showsSlot within x _ _
    · split
      · exact spaceRow_blank _ _
      · next occupied => exact State.slotRow?_of_past (none.resolve_left occupied) _ _ _
  next := by
    intro g n serves kind source low high
    rw [State.layoutRow_card kind]
    dsimp only
    rw [Region.cardSource_next source low high]
    dsimp only
    refine ⟨fun i x at' here first within => ?_, fun absent => ?_⟩
    · rw [s.board.nextInAuditorium_of_first _ at' here first]
      exact State.slotRow?_showsSlot within x _ _
    · obtain absent | past := absent
      · rw [s.board.nextInAuditorium_eq_none _ absent]; exact State.slotRow?_none _ _ _
      · exact State.slotRow?_of_past past _ _ _
  clock := by
    intro g i kind template
    have row : s.layoutRow b = {
        text := buildRow s.settings s.clock { show? := none, notice := [] } (s.fmt.templates.read i) (2 * g.width)
        bound := none
        minutes := none } := by
      unfold State.layoutRow Region.rowTemplate
      simp only [show (s.comp.region b.layout b.region).kind = .clock from kind]
      rw [fin?_of_val (i := i) template]
      rfl
    rw [row]
    exact ⟨rfl, rfl, rfl⟩

theorem State.tickerRow_some {g : Region} {i : Fin 32} (template : i.val = g.template) (n : Notice) :
    s.tickerRow g (some n) = {
      text := buildRow s.settings s.clock { show? := none, notice := n.text } (s.fmt.templates.read i) (2 * g.width)
      bound := some (.notice n.id)
      minutes := none } := by
  unfold State.tickerRow
  dsimp only
  rw [fin?_of_val template]
  rfl

theorem State.noticeRow_is (ordered : NoticesOrdered s.notice.queue) (d : DisplayNo) :
    s.NoticeRowIs d (s.noticeRow d) where
  takeover mode := by
    have row : s.noticeRow d = s.wideNoticeRow .centre (takeoverNotice s.notice.queue d) := by
      unfold State.noticeRow
      simp only [show (s.comp.displays.read d).mode = .takeover from mode]
    rw [row]
    refine ⟨fun n first => ?_, fun none => ?_⟩
    · rw [(takeoverNotice_eq_some_iff _ _ _).mpr first]; rfl
    · rw [(takeoverNotice_eq_none_iff _ _).mpr none]; rfl
  attract := by
    intro current mode
    have row : s.noticeRow d = s.wideNoticeRow .left (s.tickerNotice d) := by
      unfold State.noticeRow
      simp only [show (s.comp.displays.read d).mode = .attract from mode]
    rw [row]
    refine ⟨fun n live is => ?_, fun gone => ?_⟩
    · rw [State.tickerNotice_of_mem ordered live is]; rfl
    · rw [State.tickerNotice_eq_none gone]; rfl
  live := by
    intro current r i mode ticker g template
    have row : s.noticeRow d = s.tickerRow g (s.tickerNotice d) := by
      unfold State.noticeRow
      simp only [show (s.comp.displays.read d).mode = .live from mode]
      rw [show s.comp.tickerRegion (s.comp.displays.read d).layout = some r from
        (s.comp.tickerRegion_eq_some_iff _ r).mpr ticker]
      rfl
    rw [row]
    refine ⟨fun n live is => ?_, fun gone => ?_⟩
    · rw [State.tickerNotice_of_mem ordered live is, State.tickerRow_some template]; rfl
    · rw [State.tickerNotice_eq_none gone]; rfl
  other absent := by
    unfold State.noticeRow
    obtain dark | ⟨live, without⟩ := absent
    · simp only [show (s.comp.displays.read d).mode = .dark from dark]
      rfl
    · simp only [show (s.comp.displays.read d).mode = .live from live]
      rw [show s.comp.tickerRegion (s.comp.displays.read d).layout = none from
        (s.comp.tickerRegion_eq_none_iff _).mpr without]
      rfl

/-- What a render finds (R137). -/
theorem State.renderRow_is (ordered : NoticesOrdered s.notice.queue) (u : TileNo) : s.RowIs u (s.renderRow u) where
  layout low b bound := by
    have row : s.renderRow u = s.layoutRow b := by
      unfold State.renderRow
      rw [tileDisplay_of_layout low, bound]
    exact row ▸ State.layoutRow_is b
  notice d here := by
    have row : s.renderRow u = s.noticeRow d := by
      unfold State.renderRow
      rw [tileDisplay_of_notice here]
    exact row ▸ State.noticeRow_is ordered d

end

end Sys2Proof.Machine
end

section
/-! OBLIGATION. The render cycle: the row that a render finds, the render start, the render completion and the sweep (R135 to
R138). -/

namespace Sys2Proof.Machine

/-! ### The sweep's cyclic order (R136) -/

/-- The places of the tiles in the order of the sweep: the tile after the position first, the position itself last. -/
def sweepPlace (p u : TileNo) : Nat := (u.val + 159 - p.val) % 160

theorem sweepPlace_ofNat (p : TileNo) {i : Nat} (within : i < 160) : sweepPlace p (Fin.ofNat 160 (p.val + 1 + i)) = i := by
  unfold sweepPlace
  simp only [Fin.val_ofNat]
  omega

theorem sweepPlace_lt (p u : TileNo) : sweepPlace p u < 160 := Nat.mod_lt _ (by decide)

theorem ofNat_sweepPlace (p u : TileNo) : Fin.ofNat 160 (p.val + 1 + sweepPlace p u) = u := by
  refine Fin.ext ?_
  unfold sweepPlace
  simp only [Fin.val_ofNat]
  omega

theorem Formatter.sweepFinds_iff (f : Formatter) (u : TileNo) :
    f.sweepFinds = some u ↔ (f.tiles.read u).state = .dirty ∧
      ∀ v, (f.tiles.read v).state = .dirty → sweepPlace f.sweep u ≤ sweepPlace f.sweep v := by
  have order : ∀ {i : Nat} (h : i < (sweepOrder f.sweep).length),
      (sweepOrder f.sweep)[i] = Fin.ofNat 160 (f.sweep.val + 1 + i) := fun h => by simp [sweepOrder]
  have length : (sweepOrder f.sweep).length = 160 := by simp [sweepOrder]
  rw [Formatter.sweepFinds, List.find?_eq_some_iff_getElem]
  simp only [beq_iff_eq, order, Bool.not_eq_true', beq_eq_false_iff_ne]
  refine and_congr_right fun dirty => ⟨?_, fun first => ?_⟩
  · rintro ⟨i, within, rfl, before⟩ v dirty'
    rw [length] at within
    rw [sweepPlace_ofNat _ within]
    refine Nat.le_of_not_lt fun lt => before (sweepPlace f.sweep v) lt ?_
    rw [ofNat_sweepPlace]
    exact dirty'
  · refine ⟨sweepPlace f.sweep u, by rw [length]; exact sweepPlace_lt _ u, ofNat_sweepPlace _ u, fun j lt dirty' => ?_⟩
    have least := first _ dirty'
    rw [sweepPlace_ofNat _ (lt.trans (sweepPlace_lt _ u))] at least
    omega

/-! ### The tiles after a completion (R138) -/

section
variable {s t : State} {r : Render} {order : List TileNo}

theorem State.ended_own : s.ended r r.tile = (s.fmt.tiles.read r.tile).completed r.text := if_pos rfl

/-- A tile in service keeps its pending text and its ready flag as the completion left them (R137, R138). -/
theorem State.Serves.texts (h : s.Serves r t order) (u : TileNo) :
    (t.fmt.tiles.read u).pendingText = (s.ended r u).pendingText ∧ (t.fmt.tiles.read u).ready = (s.ended r u).ready := by
  rw [h.tiles]
  split
  · exact ⟨rfl, rfl⟩
  · split <;> exact ⟨rfl, rfl⟩

theorem State.swept_not_flight (h : s.fmt.Coherent) (flight : s.fmt.engine = some r) : r.tile ∉ s.swept r := by
  unfold State.swept
  split
  · intro found
    have dirty := Formatter.sweepFinds_dirty (Option.mem_toList.mp found)
    rw [h.flight flight] at dirty
    cases dirty
  · exact List.not_mem_nil

/-- A tile that is not stale, or was released, is not served again (R138). -/
theorem State.own_not_served (h : s.fmt.Coherent) (flight : s.fmt.engine = some r)
    (done : ¬ ((s.fmt.tiles.read r.tile).stale = true ∧ (s.fmt.tiles.read r.tile).released = false)) :
    r.tile ∉ s.waiting r ++ s.swept r := by
  rw [List.mem_append]
  rintro (waits | swept)
  · obtain waits | ⟨_, again⟩ := State.mem_waiting.mp waits
    · rw [h.queued, h.flight flight] at waits; cases waits
    · exact done again
  · exact State.swept_not_flight h flight swept

/-- A stale tile renders at once where nothing waited, and else waits (R138). -/
theorem State.Serves.own_again (h : s.fmt.Coherent) (flight : s.fmt.engine = some r)
    (serves : s.Serves r t (s.waiting r ++ s.swept r))
    (again : (s.fmt.tiles.read r.tile).stale = true ∧ (s.fmt.tiles.read r.tile).released = false) :
    (t.fmt.tiles.read r.tile).state = if s.fmt.queue = [] then .rendering else .queued := by
  have waiting : s.waiting r = s.fmt.queue ++ [r.tile] := by rw [State.waiting, if_pos again]
  rw [serves.tiles, waiting]
  cases waits : s.fmt.queue with
  | nil => simp
  | cons a rest =>
    have ne : a ≠ r.tile := fun here => by
      have queued := (h.queued a).mp (waits ▸ List.mem_cons_self)
      rw [here, h.flight flight] at queued
      cases queued
    simp [ne]

end

/-- Settles O54: the row of each kind of tile, the start at an idle engine, the completion with the tiles that it leaves in
service, and the sweep's cyclic order. -/
theorem renderCycle : Obligations.RenderCycle := by
  unfold Obligations.RenderCycle
  refine ⟨fun s u ordered => State.renderRow_is ordered u, fun s => ⟨?_, ?_, ?_⟩, ?_, Formatter.sweepFinds_iff⟩
  · intro u rest idle waits
    exact congrArg Host.Outcome.next (State.startRender_of_waiting idle waits)
  · rintro (busy | empty)
    · exact congrArg Host.Outcome.next (State.startRender_of_busy busy)
    · exact congrArg Host.Outcome.next (State.startRender_of_empty empty)
  · intro idle
    exact congrArg Host.Outcome.next (State.completeRender_of_idle idle)
  · intro s r h flight x again waiting swept order
    obtain ⟨serves, sweep⟩ := State.completeRender_serves h flight
    refine ⟨s.completeRender, rfl, serves.queue, serves.engine, sweep, serves.templates, fun released => ?_,
      fun kept fresh => ?_, fun once => ?_, fun u other => ?_, fun u => (serves.kept u).1, serves.blocks⟩
    · rw [serves.apart (State.own_not_served h flight (by simp [show (s.fmt.tiles.read r.tile).released = true from released])),
        State.ended_own, Tile.completed, if_pos released]
    · rw [serves.apart (State.own_not_served h flight (by simp [show (s.fmt.tiles.read r.tile).stale = false from fresh])),
        State.ended_own, Tile.completed, if_neg (by simpa using kept), if_neg (by simpa using fresh)]
    · refine ⟨State.Serves.own_again h flight serves once, ?_⟩
      obtain ⟨text, ready⟩ := serves.texts r.tile
      rw [text, ready, State.ended_own, Tile.completed, if_neg (by simpa using once.2), if_pos once.1]
      exact ⟨rfl, rfl⟩
    · obtain ⟨text, ready⟩ := serves.texts u
      rw [text, ready, State.ended_of_ne other]
      exact ⟨rfl, rfl, fun out => by rw [serves.apart out, State.ended_of_ne other]⟩

end Sys2Proof.Machine
end

section
/-! SUPPORT. The tiles that dirty marks reach, and the marks of a command among its other effects (R131 to R135). -/

namespace Sys2Proof.Machine

/-! ### The marks of one event by their condition (R131) -/

section
variable {s t v : State}

/-- Marks by a condition in other words. -/
theorem State.markTiles_marks_of (h : s.fmt.Coherent) {p q : TileNo → Bool} (same : ∀ u, p u = q u) :
    s.Marks (s.markTiles p) q := by
  obtain rfl : p = q := funext same
  exact s.markTiles_marks p h

/-- The mark at one tile, as the marks of that tile alone. -/
theorem State.markTile_eq_markTiles (u : TileNo) : s.markTile u = s.markTiles fun v => decide (v = u) := by
  unfold State.markTiles
  have only : ((List.finRange 160).filter fun v => decide (v = u)) = [u] := by
    simp only [← beq_eq_decide]
    rw [List.filter_beq, List.count_eq_one_of_mem (List.nodup_finRange 160) (List.mem_finRange u)]
    rfl
  rw [only]
  rfl

theorem State.markTile_marks (h : s.fmt.Coherent) (u : TileNo) : s.Marks (s.markTile u) fun v => decide (v = u) := by
  rw [State.markTile_eq_markTiles]
  exact s.markTiles_marks _ h

theorem Tile.Marked.remade {x y : Tile} (h : x.Marked y) : x.Remade y := fun used =>
  ⟨(h.waits used).1, (h.waits used).2, fun flight => (h.flight flight).2.1⟩

/-- The marks of an event reach the tiles of its condition. -/
theorem State.Marks.marked {p : TileNo → Bool} (h : s.Marks t p) {u : TileNo} (reached : p u = true) :
    (s.fmt.tiles.read u).Marked (t.fmt.tiles.read u) := by
  have tile := h.tiles u
  dsimp only at tile
  rw [if_neg (by simp [reached])] at tile
  rw [tile]
  split
  · next flight => exact ⟨fun idle => by simp [flight] at idle, fun _ => by simp [flight], fun _ => ⟨flight, rfl, rfl⟩⟩
  · next still =>
    split
    · next clean => exact .kept clean still
    · next clean =>
      replace clean := not_not.mp clean
      have idle : (s.fmt.tiles.read u).state ≠ .idle := by simp [clean]
      split
      · exact ⟨fun is => absurd is idle, fun _ => ⟨nofun, nofun⟩, fun flight => absurd flight still⟩
      · split
        · exact ⟨fun is => absurd is idle, fun _ => ⟨nofun, nofun⟩, fun flight => absurd flight still⟩
        · exact ⟨fun is => absurd is idle, fun _ => ⟨nofun, nofun⟩, fun flight => absurd flight still⟩

/-- A mark that a command raises between other marks reaches the tiles of its condition, each of which meets the condition
still, unless an earlier mark has reached it. -/
theorem State.MarksOnly.reaches (h : s.fmt.Coherent) (before : s.MarksOnly t) {p : TileNo → Bool}
    (after : (t.markTiles p).MarksOnly v) {u : TileNo}
    (meets : t.fmt.tiles.read u = s.fmt.tiles.read u → p u = true) :
    (s.fmt.tiles.read u).Marked (v.fmt.tiles.read u) := by
  have coherent := before.coherent h
  have marks := t.markTiles_marksOnly p
  have last := after.tiles (marks.coherent coherent) u
  obtain same | marked := before.tiles h u
  · have here := (t.markTiles_marks p coherent).marked (meets same)
    rw [same] at here
    obtain same' | marked' := last
    · exact same' ▸ here
    · exact here.trans marked'
  · obtain same' | marked' := (marks.trans after).tiles coherent u
    · exact same' ▸ marked
    · exact marked.trans marked'

/-- The same marks where the directive unit stands otherwise before and after. -/
theorem State.Marks.withDir {p : TileNo → Bool} (h : s.Marks t p) (d : DirectiveUnit) :
    State.Marks { s with dir := d } { t with dir := d } p := by
  have row : ∀ u, ({ s with dir := d } : State).renderRow u = s.renderRow u := fun _ => rfl
  refine ⟨h.queue, ?_, ?_, h.backlog, h.others, ?_⟩
  · exact h.engine
  · exact h.tiles
  · obtain ⟨feed, _, _, clock, divider, settings, board, tally, notice, _, comp, sense⟩ := h.blocks
    constructor <;> simp_all

end

/-! ### The template of a tile (R131, R140, R141) -/

/-- The display, layout and region records stay. -/
structure State.KeepsRegions (s t : State) : Prop where
  displays : t.comp.displays = s.comp.displays
  layouts  : t.comp.layouts = s.comp.layouts
  regions  : t.comp.regions = s.comp.regions

namespace State.KeepsRegions

variable {s t u : State}

theorem of_comp (h : t.comp = s.comp) : s.KeepsRegions t := by constructor <;> rw [h]

theorem refl (s : State) : s.KeepsRegions s := of_comp rfl

theorem trans (h : s.KeepsRegions t) (k : t.KeepsRegions u) : s.KeepsRegions u :=
  ⟨k.displays.trans h.displays, k.layouts.trans h.layouts, k.regions.trans h.regions⟩

theorem after_comp (k : t.KeepsRegions u) (h : t.comp = s.comp := by rfl) : s.KeepsRegions u := (of_comp h).trans k

theorem of_marks (h : s.Leaves [.rep, .fmt] t) : s.KeepsRegions t := of_comp (h.blocks.comp (by simp))

theorem of_pages (h : t.comp = { s.comp with pages := t.comp.pages }) : s.KeepsRegions t := by constructor <;> rw [h]

theorem of_tickers (h : t.comp = { s.comp with tickers := t.comp.tickers }) : s.KeepsRegions t := by
  constructor <;> rw [h]

theorem ite {p : Prop} [Decidable p] (h : s.KeepsRegions t) (k : s.KeepsRegions u) :
    s.KeepsRegions (if p then t else u) := by split <;> assumption

theorem foldl {α : Type} {f : State → α → State} (h : ∀ s a, State.KeepsRegions s (f s a)) (as : List α) (s : State) :
    s.KeepsRegions (as.foldl f s) :=
  List.foldlRecOn as f (refl s) fun t k a _ => k.trans (h t a)

end State.KeepsRegions

section
variable {s t : State}

theorem State.KeepsRegions.tileTemplate (h : s.KeepsRegions t) {u : TileNo}
    (binding : (t.fmt.tiles.read u).binding = (s.fmt.tiles.read u).binding) : t.tileTemplate u = s.tileTemplate u := by
  have region : ∀ l r, t.comp.region l r = s.comp.region l r := fun l r => by
    rw [Compositor.region, h.regions]; rfl
  have ticker : ∀ l, t.comp.tickerRegion l = s.comp.tickerRegion l := fun l => by
    simp only [Compositor.tickerRegion, Compositor.acts, region, h.layouts]
  have face : ∀ d, t.comp.tickerTemplate d = s.comp.tickerTemplate d := fun d => by
    unfold Compositor.tickerTemplate
    rw [h.displays, ticker]
    simp only [region]
  unfold State.tileTemplate
  rw [binding]
  simp only [region, face]

theorem State.KeepsRegions.templateHolds (h : s.KeepsRegions t) (templates : t.fmt.templates = s.fmt.templates)
    {u : TileNo} (same : t.fmt.tiles.read u = s.fmt.tiles.read u) (k : FieldKind) :
    t.templateHolds u k = s.templateHolds u k := by
  unfold State.templateHolds
  rw [h.tileTemplate (by rw [same]), templates]

theorem State.placed_keepsRegions (n : Notice) (ds : DisplaySet) : s.KeepsRegions (s.placed n ds) :=
  .of_tickers (s.placed_spec n ds).2.2.2.2.2

theorem State.placeNotice_keepsRegions {n : Notice} (run : s.placeNotice n = some t) : s.KeepsRegions t := by
  have put : ∀ (u : State) (q : List Notice), u.KeepsRegions (u.setNotices q) := fun u q => .of_comp rfl
  unfold State.placeNotice at run
  split at run
  · cases run; exact (put s _).trans (State.placed_keepsRegions n _)
  · cases run; exact (put s _).trans (State.placed_keepsRegions n _)
  · next tail _ =>
    cases run
    exact ((State.KeepsRegions.of_comp (s.evictTail_spec tail).2.2).trans (put _ _)).trans (State.placed_keepsRegions n _)
  · cases run

theorem State.requestBoarding_keepsRegions (s : State) (x : Slot) : s.KeepsRegions (s.requestBoarding x) := by
  unfold State.requestBoarding
  split
  · next run => exact State.placeNotice_keepsRegions run
  · exact .of_comp rfl

theorem State.stateEffects_keepsRegions (s : State) (x : Slot) (o n : ShowState) :
    s.KeepsRegions (s.stateEffects x o n) := by
  have listed : ∀ u : State, u.KeepsRegions u.listingChange := fun u => .of_pages u.listingChange_leaves.comp
  have marked : ∀ u : State, u.KeepsRegions (u.slotMark x) := fun u => .of_marks (u.slotMark_leaves x)
  have removed : ∀ (u : State) (p : Notice → Bool), u.KeepsRegions (u.removeNotices p) := fun u p =>
    .of_tickers (u.removeNotices_spec p).2.2
  have requested : ∀ (u : State) (p : Prop) [Decidable p], u.KeepsRegions (if p then u.requestBoarding x else u) :=
    fun u p _ => .ite (u.requestBoarding_keepsRegions x) (.refl u)
  have unplaced : ∀ (p : Prop) [Decidable p], s.KeepsRegions (if p then s.unplaceSlot x else s) := fun p _ =>
    .ite (.of_comp rfl) (.refl s)
  exact ((((unplaced _).trans (removed _ _)).trans (requested _ _)).trans (listed _)).trans (marked _)

theorem State.boardMinute_keepsRegions (s : State) (m : Nat) (e : Bool) : s.KeepsRegions (s.boardMinute m e) := by
  have advanced : ∀ (u : State) (x : Slot), u.KeepsRegions (u.advanceShow x m) := fun u x =>
    .ite (.after_comp (State.stateEffects_keepsRegions _ x _ _)) (.refl u)
  have closed : ∀ (u : State) (x : Slot), u.KeepsRegions (u.closeSales x) := fun u x =>
    .after_comp (.of_marks (State.seatMark_leaves _ x))
  have turn : ∀ (u : State) (x : Slot), u.KeepsRegions (u.evaluateTurn m x) := fun u x =>
    .ite (.ite ((advanced u x).trans (closed _ x)) (advanced u x)) (.refl u)
  unfold State.boardMinute
  split
  · exact .ite ((State.KeepsRegions.foldl turn _ s).trans (.of_comp (State.recomputeDue_comp _))) (.refl s)
  · exact .refl s

/-! ### Marks among the effects of the commands (R132 to R134) -/

theorem foldl_split {α : Type} {f : State → α → State} {as : List α} {a : α} (mem : a ∈ as) (s : State) :
    ∃ before after : List α, as.foldl f s = after.foldl f (f (before.foldl f s) a) := by
  obtain ⟨before, after, rfl⟩ := List.append_of_mem mem
  exact ⟨before, after, by rw [List.foldl_append, List.foldl_cons]⟩

/-- A TITLE write marks the tiles bound to the occupied slots that refer to it (R77). -/
theorem State.takeTitle_reaches (h : s.fmt.Coherent) (i : Fin 64) (r : Title) {x : Slot}
    (occupied : (s.showOf x).state ≠ .vacant) (refers : (s.showOf x).title = i.val) {u : TileNo}
    (bound : (s.fmt.tiles.read u).bound = some (.slot x)) :
    (s.fmt.tiles.read u).Marked ((s.takeTitle i r).fmt.tiles.read u) := by
  have marks : ∀ (t : State) (y : Slot), t.MarksOnly (t.slotMark y) := fun t y => t.markTiles_marksOnly _
  let titled : State := { s with board := { s.board with titles := s.board.titles.write i r } }
  have mem : x ∈ (List.finRange 96).filter fun x => titled.occupied x && (titled.showOf x).title == i.val := by
    rw [List.mem_filter, Bool.and_eq_true, beq_iff_eq]
    exact ⟨List.mem_finRange x, (s.occupied_iff x).mpr occupied, refers⟩
  obtain ⟨before, after, split⟩ := foldl_split (f := State.slotMark) mem titled
  unfold State.takeTitle
  dsimp only
  rw [split]
  refine State.MarksOnly.reaches h (.after_fmt (.foldl marks before titled)) (.foldl marks after _) fun same => ?_
  rw [same, bound]
  exact beq_self_eq_true _

/-- A clear marks the tiles bound to its slot (R62). -/
theorem State.clearOccupied_reaches (h : s.fmt.Coherent) {x : Slot} {u : TileNo}
    (bound : (s.fmt.tiles.read u).bound = some (.slot x)) :
    (s.fmt.tiles.read u).Marked ((s.clearOccupied x).fmt.tiles.read u) := by
  rw [State.clearOccupied_eq, State.slotMark]
  have before : s.MarksOnly ((((s.removeNotices (s.clearedBy x)).unlist x).zeroTally x).setShow x Show.vacant) :=
    .then_fmt ((s.removeNotices_marksOnly (s.clearedBy x)).trans (State.unlist_marksOnly _ x)) rfl
  refine State.MarksOnly.reaches h before (.refl _) fun same => ?_
  rw [same, bound]
  exact beq_self_eq_true _

/-- A settings write marks every tile in use (R134). -/
theorem State.takeSettings_reaches (h : s.fmt.Coherent) (c : Settings) {u : TileNo}
    (used : (s.fmt.tiles.read u).state ≠ .idle) :
    (s.fmt.tiles.read u).Marked ((s.takeSettings c).fmt.tiles.read u) := by
  unfold State.takeSettings State.markAllInUse
  refine State.MarksOnly.reaches h (.after_fmt (State.recomputeBands_marksOnly _)) (.refl _) fun same => ?_
  rw [same]
  exact bne_iff_ne.mpr used

/-- The removal of a notice marks the notice tiles of the displays that it targets (R119, R134). -/
theorem State.removeNotices_reaches (h : s.fmt.Coherent) {p : Notice → Bool} {n : Notice} (live : n ∈ s.notice.queue)
    (goes : p n = true) {d : DisplayNo} (targets : n.targets d = true) :
    (s.fmt.tiles.read (noticeTile d)).Marked ((s.removeNotices p).fmt.tiles.read (noticeTile d)) := by
  have gone : n ∈ s.notice.queue.filter p := List.mem_filter.mpr ⟨live, goes⟩
  unfold State.removeNotices
  dsimp only
  rw [if_neg (by rw [List.isEmpty_iff]; exact List.ne_nil_of_mem gone)]
  refine State.MarksOnly.reaches h .of_fmt (.foldl State.rejudgeTicker_marksOnly _ _) fun _ => ?_
  rw [tileDisplay_of_notice (d := d) rfl]
  dsimp only
  rw [targetsOf_getLsbD, List.any_eq_true]
  exact ⟨n, gone, targets⟩

theorem State.seatMarkIfMoved_tallyOf (s : State) (x : Slot) (before : Tally) :
    (s.seatMarkIfMoved x before).tallyOf x = s.tallyOf x := by
  unfold State.seatMarkIfMoved
  split
  · rfl
  · rw [State.tallyOf, (s.seatMark_leaves x).blocks.tally (by simp)]
    rfl

/-- The tiles of a slot whose figures move (R93, R132). -/
theorem State.seatMarkIfMoved_reaches (h : s.fmt.Coherent) (fmt : t.fmt = s.fmt) (comp : t.comp = s.comp) {x : Slot}
    {before : Tally} (moved : ¬ ((t.tallyOf x).remaining = before.remaining ∧ (t.tallyOf x).band = before.band))
    {u : TileNo} (bound : (s.fmt.tiles.read u).bound = some (.slot x))
    (holds : s.templateHolds u .seats = true ∨ s.templateHolds u .bandword = true) :
    (s.fmt.tiles.read u).Marked ((t.seatMarkIfMoved x before).fmt.tiles.read u) := by
  have keeps := State.KeepsRegions.of_comp comp
  rw [State.seatMarkIfMoved, if_neg moved, State.seatMark]
  refine State.MarksOnly.reaches h (.of_fmt fmt) (.refl _) fun same => ?_
  rw [keeps.templateHolds (by rw [fmt]) same, keeps.templateHolds (by rw [fmt]) same, same, bound]
  simpa using holds

/-- A SALE that moves the figures marks the tiles bound to its slot whose template shows them (R93, R132). -/
theorem State.saleApply_reaches (h : s.fmt.Coherent) (k : Fin 16) {x : Slot} (d : Int)
    (moved : ((s.saleApply k x d).tallyOf x).remaining ≠ (s.tallyOf x).remaining ∨
      ((s.saleApply k x d).tallyOf x).band ≠ (s.tallyOf x).band)
    {u : TileNo} (bound : (s.fmt.tiles.read u).bound = some (.slot x))
    (holds : s.templateHolds u .seats = true ∨ s.templateHolds u .bandword = true) :
    (s.fmt.tiles.read u).Marked ((s.saleApply k x d).fmt.tiles.read u) := by
  have leaves := ((((s.netStage_leaves x d).trans (State.seatStages_leaves _ x (s.showOf x).capacity d)).trans
    (State.bandStage_leaves _ x (s.showOf x).capacity)).trans (State.departureStage_leaves _ x)).trans
    (State.saleFinish_leaves _ k x (clampOutcome (s.showOf x).capacity ((s.tallyOf x).target d)))
  have fmt : (((((s.netStage x d).seatStages x (s.showOf x).capacity d).bandStage x (s.showOf x).capacity).departureStage
      x).saleFinish k x (clampOutcome (s.showOf x).capacity ((s.tallyOf x).target d))).fmt = s.fmt := by
    rw [State.saleFinish_fmt, State.departureStage_fmt, State.bandStage_fmt, State.seatStages_fmt]
    exact State.clipLimitIf_fmt _ _
  unfold State.saleApply at moved ⊢
  dsimp only at moved ⊢
  rw [State.seatMarkIfMoved_tallyOf] at moved
  exact State.seatMarkIfMoved_reaches h fmt (leaves.blocks.comp (by simp)) (not_and_or.mpr moved) bound holds

theorem State.takeSale_reaches (h : s.fmt.Coherent) (tag : Byte) (k : Fin 16) (g : Bool) {x : Slot} (d : Int)
    (moved : ((s.takeSale tag k g x d).tallyOf x).remaining ≠ (s.tallyOf x).remaining ∨
      ((s.takeSale tag k g x d).tallyOf x).band ≠ (s.tallyOf x).band)
    {u : TileNo} (bound : (s.fmt.tiles.read u).bound = some (.slot x))
    (holds : s.templateHolds u .seats = true ∨ s.templateHolds u .bandword = true) :
    (s.fmt.tiles.read u).Marked ((s.takeSale tag k g x d).fmt.tiles.read u) := by
  by_cases repeated : (s.tally.desks.read k).toggle = some g
  · have still : ((s.takeSale tag k g x d).tallyOf x).remaining = (s.tallyOf x).remaining ∧
        ((s.takeSale tag k g x d).tallyOf x).band = (s.tallyOf x).band := by
      rw [State.takeSale_of_repeat repeated, State.saleRepeat_eq, State.tallyOf]
      dsimp only
      split
      · exact ⟨rfl, rfl⟩
      · rw [Table.read_write_same]; exact ⟨rfl, rfl⟩
    exact absurd still (not_and_or.mpr moved)
  · cases gate : s.saleGate x with
    | some reason =>
      rw [State.takeSale_of_refused repeated gate] at moved
      exact absurd (And.intro rfl rfl) (not_and_or.mpr moved)
    | none =>
      rw [State.takeSale_of_passed repeated gate] at moved ⊢
      exact State.saleApply_reaches (s := s.toggled k g) h k d moved bound holds

/-- A minute that advances marks the tiles whose template holds the clock (R133). -/
theorem State.advanceMinute_reaches (h : s.fmt.Coherent) {u : TileNo} (holds : s.templateHolds u .clock = true) :
    (s.fmt.tiles.read u).Marked (s.advanceMinute.fmt.tiles.read u) := by
  let counted : State := s.setClock { s.clock with minute := s.clock.minute + 1, second := 0 }
  let boarded : State := counted.boardMinute (s.clock.minute + 1) counted.clock.state.counts
  have before : s.MarksOnly boarded := .after_fmt (State.boardMinute_marksOnly _ _ _)
  have keeps : s.KeepsRegions boarded := .after_comp (State.boardMinute_keepsRegions _ _ _)
  have templates : boarded.fmt.templates = s.fmt.templates := (State.boardMinute_leaves counted _ _).tiles.templates
  have after : ∀ v : State, v.MarksOnly
      ((v.setClock { v.clock with sinceMark := v.clock.sinceMark + 1 }).holdoverStep).lostStep := fun v =>
    .after_fmt (State.lostStep_marksOnly _) (State.holdoverStep_fmt _)
  refine State.MarksOnly.reaches h before (after (boarded.minuteMarks (s.clock.minute + 1))) fun same => ?_
  rw [keeps.templateHolds templates same, holds]
  rfl

end

end Sys2Proof.Machine
end

section
/-! OBLIGATION. Which tiles the dirty marks reach and what they do there (R131 to R135, R140 to R142). -/

namespace Sys2Proof.Machine

/-! ### The conditions of the marks (R132 to R134) -/

theorem Region.followsListing_eq (g : Region) : g.followsListing =
    (g.kind == .listing || (g.kind == .card && decide (g.k0.toNat = 1 ∧ 1 ≤ g.k1.toNat ∧ g.k1.toNat ≤ 24))) := by
  cases kind : g.kind with
  | card =>
    simp only [Region.followsListing, kind, Region.cardSource]
    rcases first : g.k0.toNat with _ | _ | n
    · cases fin? 96 g.k1.toNat <;> simp
    · by_cases room : 1 ≤ g.k1.toNat ∧ g.k1.toNat ≤ 24 <;> simp [room]
    · simp
  | _ => simp [Region.followsListing, kind]

section
variable {s : State}

theorem State.minutesDiffer_eq (u : TileNo) (m : Nat) : s.minutesDiffer u m =
    match (s.fmt.tiles.read u).bound with
    | some (.slot x) =>
      ((s.showOf x).state == .listed || (s.showOf x).state == .boarding) &&
        decide ((s.fmt.tiles.read u).minutes ≠ some (min 999 ((s.showOf x).start - m)))
    | _ => false := by
  unfold State.minutesDiffer
  cases (s.fmt.tiles.read u).bound with
  | none => rfl
  | some b =>
    cases b with
    | notice id => rfl
    | slot x =>
      have upcoming : ∀ k : ShowState, k.upcoming = (k == .listed || k == .boarding) := fun k => by cases k <;> rfl
      dsimp only
      rw [upcoming, bne, beq_eq_decide (s.fmt.tiles.read u).minutes, ← decide_not]
      rfl

theorem State.pageChange_eq (l : LayoutNo) (r : RegionNo) (u : TileNo) :
    (match (s.fmt.tiles.read u).binding with
      | some b => b.layout == l && b.region == r
      | none => false) = (s.fmt.tiles.read u).binding.any fun b => decide (b.layout = l ∧ b.region = r) := by
  cases (s.fmt.tiles.read u).binding with
  | none => rfl
  | some b => simp [Bool.decide_and, beq_eq_decide]

theorem State.tileTemplate_of_binding {u : TileNo} (low : u.val < 148) {b : Binding}
    (bound : (s.fmt.tiles.read u).binding = some b) :
    s.tileTemplate u = (s.comp.region b.layout b.region).rowTemplate b.row := by
  unfold State.tileTemplate
  rw [tileDisplay_of_layout low, bound]

theorem Region.rowTemplate_eq (g : Region) (k : Nat) : g.rowTemplate k =
    if g.kind = .listing ∨ g.kind = .clock then fin? 32 g.template
    else if g.kind = .card then fin? 32 (g.template + k)
    else none := by
  unfold Region.rowTemplate
  cases g.kind <;> simp

theorem State.tileTemplate_noticeTile (d : DisplayNo) : s.tileTemplate (noticeTile d) = s.comp.tickerTemplate d := by
  unfold State.tileTemplate
  rw [tileDisplay_of_notice rfl]

theorem Compositor.tickerTemplate_of_live {c : Compositor} {d : DisplayNo} {r : RegionNo}
    (live : (c.displays.read d).mode = .live) (ticker : c.tickerRegion (c.displays.read d).layout = some r) :
    c.tickerTemplate d = fin? 32 (c.region (c.displays.read d).layout r).template := by
  unfold Compositor.tickerTemplate
  rw [if_pos live, ticker]

theorem Compositor.tickerTemplate_eq_none {c : Compositor} {d : DisplayNo}
    (without : (c.displays.read d).mode ≠ .live ∨ c.tickerRegion (c.displays.read d).layout = none) :
    c.tickerTemplate d = none := by
  unfold Compositor.tickerTemplate
  obtain other | none := without
  · exact if_neg other
  · rw [none]
    exact ite_self _

theorem State.noticeTileMarks_eq (ds : DisplaySet) (u : TileNo) :
    (match tileDisplay u with
      | some d => ds.getLsbD d.val
      | none => false) = (decide (148 ≤ u.val) && ds.getLsbD (u.val - 148)) := by
  unfold tileDisplay
  by_cases notice : 148 ≤ u.val
  · simp [notice]
  · simp [notice]

end

/-! ### A WRITE ENTRY at a table that is written at once (R18, R23) -/

section
variable {s : State} {tag : Byte} {img : List Byte}

theorem State.writeEntry_at {t : TableName} {i : Nat} (cursor : s.dir.cursor = { table := t, index := some i })
    (writable : t.readOnly = false) (length : img.length = t.imageLength) :
    s.consumeSpan.writeEntry tag img = s.consumeSpan.writeAt tag t i img := by
  have at' : s.consumeSpan.dir.cursor = { table := t, index := some i } := cursor
  rw [State.writeEntry, at']
  dsimp only
  rw [if_neg (by simp [writable]), if_pos length]

theorem exec_writeEntryTemplate_taken {i : Fin 32} {r : Template}
    (cursor : s.dir.cursor = { table := .template, index := some i.val }) (length : img.length = 40)
    (image : templateOfImage img = some r) :
    exec (.writeEntryTemplate tag img) s = .next (s.consumeSpan.takeTemplate i r).advanceCursor := by
  refine congrArg Host.Outcome.next ((State.writeEntry_at cursor rfl length).trans ?_)
  simp only [State.writeAt, State.atEntry, fin?_val, State.writeTemplate, image]

theorem exec_writeEntryTitle_taken {i : Fin 64} {r : Title}
    (cursor : s.dir.cursor = { table := .title, index := some i.val }) (length : img.length = 35)
    (image : titleOfImage img = some r) :
    exec (.writeEntryTitle tag img) s = .next (s.consumeSpan.takeTitle i r).advanceCursor := by
  refine congrArg Host.Outcome.next ((State.writeEntry_at cursor rfl length).trans ?_)
  simp only [State.writeAt, State.atEntry, fin?_val, State.writeTitle, image]

theorem exec_writeEntrySettings_taken {c : Settings}
    (cursor : s.dir.cursor = { table := .settings, index := some 0 }) (length : img.length = 19)
    (image : settingsOfImage img = some (c, s.clock.civilStart, s.clock.dayNumber)) :
    exec (.writeEntrySettings tag img) s = .next (s.consumeSpan.takeSettings c).advanceCursor := by
  refine congrArg Host.Outcome.next ((State.writeEntry_at cursor rfl length).trans ?_)
  simp only [State.writeAt, State.writeSettings, image, State.consumeSpan_clock, and_self, if_true]

/-! ### What the commands mark (R62, R77, R93, R119, R134, R159, R163) -/

/-- A template written (R142). -/
def State.withTemplate (s : State) (i : Fin 32) (r : Template) : State :=
  { s with fmt := { s.fmt with templates := s.fmt.templates.write i r } }

theorem State.takeTemplate_marks (h : s.fmt.Coherent) (i : Fin 32) (r : Template) :
    (s.withTemplate i r).Marks (s.takeTemplate i r) fun u => decide (s.tileTemplate u = some i) :=
  State.markTiles_marks_of (s := s.withTemplate i r) (h.congr (fun _ => rfl) rfl rfl) fun u =>
    beq_eq_decide (s.tileTemplate u) (some i)

theorem exec_writeEntryTemplate_marks (h : s.fmt.Coherent) {i : Fin 32} {r : Template}
    (cursor : s.dir.cursor = { table := .template, index := some i.val }) (length : img.length = 40)
    (image : templateOfImage img = some r) :
    ∃ t, exec (.writeEntryTemplate tag img) s = .next t ∧
      ({ s with
        dir := { s.dir with
          span := none
          cursor := { table := .template, index := if i.val + 1 < 32 then some (i.val + 1) else none } }
        fmt := { s.fmt with templates := s.fmt.templates.write i r } } : State).Marks t
          fun u => decide (s.tileTemplate u = some i) := by
  refine ⟨_, exec_writeEntryTemplate_taken cursor length image, ?_⟩
  have marks := State.takeTemplate_marks (s := s.consumeSpan) h i r
  have dir : (s.consumeSpan.takeTemplate i r).dir = s.consumeSpan.dir := marks.blocks.dir (by simp)
  have advance : (s.consumeSpan.takeTemplate i r).dir.cursor.advance =
      { table := .template, index := if i.val + 1 < 32 then some (i.val + 1) else none } := by
    rw [dir, show s.consumeSpan.dir.cursor = { table := .template, index := some i.val } from cursor]
    rfl
  have after := marks.withDir { s.dir with
    span := none, cursor := { table := .template, index := if i.val + 1 < 32 then some (i.val + 1) else none } }
  unfold State.advanceCursor
  rw [advance, dir]
  exact after

theorem exec_writeEntrySettings_reaches (h : s.fmt.Coherent) {c : Settings}
    (cursor : s.dir.cursor = { table := .settings, index := some 0 }) (length : img.length = 19)
    (image : settingsOfImage img = some (c, s.clock.civilStart, s.clock.dayNumber)) :
    ∃ t, exec (.writeEntrySettings tag img) s = .next t ∧
      ∀ u, (s.fmt.tiles.read u).Remade (t.fmt.tiles.read u) := by
  refine ⟨_, exec_writeEntrySettings_taken cursor length image, fun u used => ?_⟩
  rw [State.advanceCursor_fmt]
  exact (State.takeSettings_reaches (s := s.consumeSpan) h c used).remade used

theorem exec_writeEntryTitle_reaches (h : s.fmt.Coherent) {i : Fin 64} {r : Title}
    (cursor : s.dir.cursor = { table := .title, index := some i.val }) (length : img.length = 35)
    (image : titleOfImage img = some r) :
    ∃ t, exec (.writeEntryTitle tag img) s = .next t ∧
      ∀ (u : TileNo) (x : Slot), (s.showOf x).state ≠ .vacant → (s.showOf x).title = i.val →
        (s.fmt.tiles.read u).bound = some (.slot x) → (s.fmt.tiles.read u).Remade (t.fmt.tiles.read u) := by
  refine ⟨_, exec_writeEntryTitle_taken cursor length image, fun u x occupied refers bound => ?_⟩
  rw [State.advanceCursor_fmt]
  exact (State.takeTitle_reaches (s := s.consumeSpan) h i r occupied refers bound).remade

theorem exec_writeEntryShow_reaches (h : s.fmt.Coherent) {x : Slot}
    (cursor : s.dir.cursor = { table := .show, index := some x.val }) (length : img.length = 19) (head : img.head? = some 0)
    (occupied : (s.showOf x).state ≠ .vacant) :
    ∃ t, exec (.writeEntryShow tag img) s = .next t ∧
      ∀ u : TileNo, (s.fmt.tiles.read u).bound = some (.slot x) → (s.fmt.tiles.read u).Remade (t.fmt.tiles.read u) := by
  refine ⟨_, (exec_writeEntryShow_cleared cursor length (showOfImage_clear head) occupied).1, fun u bound => ?_⟩
  rw [State.advanceCursor_fmt, State.recomputeDue_fmt]
  exact (State.clearOccupied_reaches (s := s.consumeSpan) h bound).remade

theorem exec_withdrawNotice_reaches (h : s.fmt.Coherent) (tag : Byte) {id : Byte}
    (live : ∃ n ∈ s.notice.queue, n.id = id) :
    ∃ t, exec (.withdrawNotice tag [id]) s = .next t ∧
      ∀ d : DisplayNo, (∃ n ∈ s.notice.queue, n.id = id ∧ n.targets d = true) →
        (s.fmt.tiles.read (noticeTile d)).Remade (t.fmt.tiles.read (noticeTile d)) := by
  have removes := State.withdrawNotice_of_live (s := s.consumeSpan) tag live
  refine ⟨s.consumeSpan.removeNotices fun n => n.id == id,
    (exec_withdrawNotice s tag [id]).trans (congrArg _ removes), fun d targeted => ?_⟩
  obtain ⟨n, mem, same, targets⟩ := targeted
  exact (State.removeNotices_reaches (s := s.consumeSpan) (p := fun n => n.id == id) h mem (beq_iff_eq.mpr same)
    targets).remade

theorem exec_sale_reaches (h : s.fmt.Coherent) (tag : Byte) (k : Fin 16) (g : Fin 2) (x : Slot) (delta : Byte) :
    ∃ t, exec (.sale tag [BitVec.ofNat 8 k.val, BitVec.ofNat 8 g.val, BitVec.ofNat 8 x.val, delta]) s = .next t ∧
      ((t.tallyOf x).remaining ≠ (s.tallyOf x).remaining ∨ (t.tallyOf x).band ≠ (s.tallyOf x).band →
        ∀ u : TileNo, (s.fmt.tiles.read u).bound = some (.slot x) →
          s.templateHolds u .seats = true ∨ s.templateHolds u .bandword = true →
          (s.fmt.tiles.read u).Remade (t.fmt.tiles.read u)) :=
  ⟨_, exec_sale s tag k g x delta, fun moved _ bound shows =>
    (State.takeSale_reaches (s := s.consumeSpan) h tag k (g == 1) delta.toInt moved bound shows).remade⟩

theorem exec_pageTurn_marks (h : s.fmt.Coherent) {l : LayoutNo} {r : RegionNo} (active : (s.page l r).active = true)
    (period : (s.comp.region l r).effectivePeriod ≠ 0) (moves : (s.page l r).turned ≠ (s.page l r).index) :
    ∃ t, exec (.pageTurn l r) s = .next t ∧
      (s.setPage l r { s.page l r with
        index := (s.page l r).turned, countdown := (s.comp.region l r).effectivePeriod }).Marks t
        fun u => (s.fmt.tiles.read u).binding.any fun b => decide (b.layout = l ∧ b.region = r) := by
  refine ⟨_, exec_pageTurn_turns active period, ?_⟩
  unfold State.turnPage
  dsimp only
  rw [if_neg moves]
  unfold State.pageChange
  exact State.markTiles_marks_of (s := State.setPage _ _ _ _) h fun u => State.pageChange_eq l r u

theorem exec_tickerStep_marks (h : s.fmt.Coherent) {d : DisplayNo} {id : Byte}
    (running : (s.comp.tickers.read d).running = true) (current : (s.comp.tickers.read d).current = some id)
    (moves : s.nextTickerNotice d (s.comp.tickers.read d).classes id ≠ some id) :
    ∃ t, exec (.tickerStep d) s = .next t ∧
      (s.setTicker d { s.comp.tickers.read d with
        current := s.nextTickerNotice d (s.comp.tickers.read d).classes id, countdown := s.settings.dwell }).Marks t
        fun u => decide (u = noticeTile d) := by
  refine ⟨_, exec_tickerStep_steps running (by simp [current]), ?_⟩
  unfold State.stepTicker
  dsimp only
  rw [current]
  dsimp only
  rw [if_neg moves]
  exact State.markTile_marks (s := State.setTicker _ _ _) h _

end

/-- Settles O55: each event marks the tiles of its condition; a command's marks come among other marks, which a tile of the
condition meets no later than them. -/
theorem dirtyMarks : Obligations.DirtyMarks := by
  unfold Obligations.DirtyMarks
  intro s h tile holds boundTo
  have holds_eq : ∀ u k, s.templateHolds u k = holds u k := fun u k => rfl
  have bound_eq : ∀ u x, ((tile u).bound == some (.slot x)) = boundTo u x := fun u x => beq_eq_decide _ _
  refine ⟨⟨fun x => ?_, fun x => ?_, ?_, fun m => ?_, ?_, ?_, fun n => ?_, fun ds => ?_, fun l r => ?_, fun d => ⟨?_, ?_⟩⟩,
    ⟨fun u low b bound => ?_, fun d => ⟨fun r live ticker => ?_, fun without => ?_⟩⟩,
    fun tag img => ⟨fun i r cursor length image => ?_, fun cursor length c image => ?_,
      fun i r cursor length image => ?_, fun x cursor length head occupied => ?_, fun id live => ?_,
      fun k g x delta => ?_⟩, fun counting room => ?_, fun l r => ?_, fun d id => ?_⟩
  · exact State.markTiles_marks_of h fun u => bound_eq u x
  · exact State.markTiles_marks_of h fun u => congrArg (· && _) (bound_eq u x)
  · refine State.markTiles_marks_of h fun u => ?_
    show (match (tile u).binding with | some b => _ | none => _) = _
    cases (tile u).binding with
    | none => rfl
    | some b => exact Region.followsListing_eq _
  · exact State.markTiles_marks_of h fun u => by rw [State.minutesDiffer_eq]; rfl
  · exact State.markTiles_marks_of h fun u => rfl
  · exact State.markTiles_marks_of h fun u => by rw [bne, beq_eq_decide, ← decide_not]
  · exact State.markTiles_marks_of h fun u => beq_eq_decide _ _
  · exact State.markTiles_marks_of h fun u => State.noticeTileMarks_eq ds u
  · exact State.markTiles_marks_of h fun u => State.pageChange_eq l r u
  · exact State.markTile_marks h _
  · exact State.markTile_marks h _
  · rw [State.tileTemplate_of_binding low bound]
    exact Region.rowTemplate_eq _ _
  · exact (State.tileTemplate_noticeTile d).trans (Compositor.tickerTemplate_of_live live ticker)
  · exact (State.tileTemplate_noticeTile d).trans (Compositor.tickerTemplate_eq_none without)
  · exact exec_writeEntryTemplate_marks h cursor length image
  · exact exec_writeEntrySettings_reaches h cursor length image
  · obtain ⟨t, run, reaches⟩ := exec_writeEntryTitle_reaches (tag := tag) h cursor length image
    exact ⟨t, run, fun u x occupied refers bound => reaches u x occupied refers (of_decide_eq_true bound)⟩
  · obtain ⟨t, run, reaches⟩ := exec_writeEntryShow_reaches (tag := tag) h cursor length head occupied
    exact ⟨t, run, fun u bound => reaches u (of_decide_eq_true bound)⟩
  · exact exec_withdrawNotice_reaches h tag live
  · obtain ⟨t, run, reaches⟩ := exec_sale_reaches h tag k g x delta
    exact ⟨t, run, fun moved u bound shows => reaches moved u (of_decide_eq_true bound) shows⟩
  · exact ⟨_, exec_minuteBoundary_of_canAdvance counting room, fun u shows => (State.advanceMinute_reaches h shows).remade⟩
  · dsimp only
    rw [← Region.effectivePeriod_eq]
    exact exec_pageTurn_marks h
  · exact exec_tickerStep_marks h

end Sys2Proof.Machine
end

section
/-! SUPPORT. The tile range of a layout and the bindings of its tiles, from the layout and region records (R151 to R155). -/

namespace Sys2Proof.Machine

/-! ### Rows set side by side -/

/-- The rows of the keys of a list, with so many rows at each key. -/
def rowsOfKeys (height : RegionNo → Nat) (keys : List RegionNo) : List (RegionNo × Nat) :=
  keys.flatMap fun r => (List.range (height r)).map fun k => (r, k)

/-- The rows before those of a key. -/
def rowsBefore (height : RegionNo → Nat) (keys : List RegionNo) (r : RegionNo) : Nat :=
  ((keys.filter fun q => q < r).map height).sum

section
variable {height : RegionNo → Nat}

theorem length_rowsOfKeys (keys : List RegionNo) : (rowsOfKeys height keys).length = (keys.map height).sum := by
  simp [rowsOfKeys, List.length_flatMap]

theorem rowsBefore_head {a : RegionNo} {keys : List RegionNo} (above : ∀ q ∈ keys, a < q) :
    rowsBefore height (a :: keys) a = 0 := by
  have none : (a :: keys).filter (fun q => decide (q < a)) = [] :=
    List.filter_eq_nil_iff.mpr fun q mem => by
      obtain rfl | mem := List.mem_cons.mp mem
      · simp
      · simpa using le_of_lt (above q mem)
  rw [rowsBefore, none]
  rfl

theorem rowsBefore_tail {a r : RegionNo} (keys : List RegionNo) (below : a < r) :
    rowsBefore height (a :: keys) r = height a + rowsBefore height keys r := by
  rw [rowsBefore, List.filter_cons_of_pos (by simpa using below)]
  rfl

/-- The row at a place: that place is its row number past the rows of the keys before. -/
theorem getElem?_rowsOfKeys {keys : List RegionNo} (ascending : keys.Pairwise (· < ·)) (i : Nat) (r : RegionNo) (k : Nat) :
    (rowsOfKeys height keys)[i]? = some (r, k) ↔ r ∈ keys ∧ k < height r ∧ i = rowsBefore height keys r + k := by
  induction keys generalizing i with
  | nil => simp [rowsOfKeys]
  | cons a keys ih =>
    obtain ⟨above, ascending⟩ := List.pairwise_cons.mp ascending
    have cons : rowsOfKeys height (a :: keys) = ((List.range (height a)).map fun k => (a, k)) ++ rowsOfKeys height keys := rfl
    have outside : a ∉ keys := fun mem => absurd (above a mem) (lt_irrefl a)
    rw [cons]
    by_cases early : i < height a
    · rw [List.getElem?_append_left (by simpa using early)]
      simp only [List.getElem?_map, List.getElem?_range early, Option.map_some, Option.some.injEq, Prod.mk.injEq]
      constructor
      · rintro ⟨rfl, rfl⟩
        rw [rowsBefore_head above]
        exact ⟨List.mem_cons_self, early, (Nat.zero_add _).symm⟩
      · rintro ⟨mem, _, rfl⟩
        obtain rfl | mem := List.mem_cons.mp mem
        · rw [rowsBefore_head above]; exact ⟨rfl, (Nat.zero_add _)⟩
        · rw [rowsBefore_tail keys (above r mem)] at early; omega
    · rw [List.getElem?_append_right (by simpa using Nat.le_of_not_lt early), List.length_map, List.length_range,
        ih ascending]
      constructor
      · rintro ⟨mem, within, place⟩
        refine ⟨List.mem_cons_of_mem _ mem, within, ?_⟩
        rw [rowsBefore_tail keys (above r mem)]
        omega
      · rintro ⟨mem, within, place⟩
        obtain rfl | mem := List.mem_cons.mp mem
        · rw [rowsBefore_head above] at place; omega
        · rw [rowsBefore_tail keys (above r mem)] at place
          exact ⟨mem, within, by omega⟩

end

/-! ### What the records of a layout say (R151 to R155) -/

section
variable (c : Compositor) (l : LayoutNo)

theorem RegionKind.isText_iff (k : RegionKind) : k.isText = true ↔ k = .listing ∨ k = .card ∨ k = .clock := by
  cases k <;> simp [RegionKind.isText]

theorem Compositor.textRows_eq : c.textRows l = rowsOfKeys (c.rowsOf l) (List.finRange 8) := by
  unfold Compositor.textRows rowsOfKeys
  refine List.flatMap_congr fun r _ => ?_
  have text : (c.acts l r && (c.region l r).kind.isText) = true ↔ r.val < (c.layouts.read l).regionCount ∧
      ((c.region l r).kind = .listing ∨ (c.region l r).kind = .card ∨ (c.region l r).kind = .clock) := by
    rw [Bool.and_eq_true, RegionKind.isText_iff, Compositor.acts, decide_eq_true_iff]
  unfold Compositor.rowsOf
  by_cases acts : r.val < (c.layouts.read l).regionCount ∧
      ((c.region l r).kind = .listing ∨ (c.region l r).kind = .card ∨ (c.region l r).kind = .clock)
  · rw [if_pos (text.mpr acts), if_pos acts]
  · rw [if_neg (mt text.mp acts), if_neg acts]
    rfl

theorem Compositor.tileEnd_eq : c.tileEnd l = c.pastTiles l := by
  rw [Compositor.tileEnd, Compositor.tileCount, c.textRows_eq, length_rowsOfKeys]
  rfl

theorem Compositor.inRange_iff (u : TileNo) : c.inRange l u = true ↔
    (c.layouts.read l).tileBase ≤ u.val ∧ u.val < c.pastTiles l ∧ u.val < 148 := by
  rw [Compositor.inRange, decide_eq_true_iff, c.tileEnd_eq]

theorem Compositor.getElem?_textRows (i : Nat) (r : RegionNo) (k : Nat) : (c.textRows l)[i]? = some (r, k) ↔
    k < c.rowsOf l r ∧ (c.layouts.read l).tileBase + i = c.firstTileOf l r + k := by
  rw [c.textRows_eq, getElem?_rowsOfKeys (List.pairwise_lt_finRange 8)]
  have first : c.firstTileOf l r = (c.layouts.read l).tileBase + rowsBefore (c.rowsOf l) (List.finRange 8) r := rfl
  rw [first]
  simp only [List.mem_finRange, true_and, Nat.add_assoc, Nat.add_left_cancel_iff]

theorem Compositor.bindingAt_iff (u : TileNo) (b : Binding) : c.bindingAt l u = some b ↔
    b.layout = l ∧ b.row < c.rowsOf l b.region ∧ u.val = c.firstTileOf l b.region + b.row ∧ u.val < 148 := by
  have length : (c.layouts.read l).tileBase + (c.textRows l).length = c.pastTiles l := c.tileEnd_eq l
  unfold Compositor.bindingAt
  constructor
  · intro bound
    split at bound
    · next within =>
      obtain ⟨base, _, low⟩ := (c.inRange_iff l u).mp within
      obtain ⟨⟨r, k⟩, at', rfl⟩ := Option.map_eq_some_iff.mp bound
      obtain ⟨row, place⟩ := (c.getElem?_textRows l _ r k).mp at'
      exact ⟨rfl, row, by dsimp only; omega, low⟩
    · cases bound
  · rintro ⟨rfl, row, place, low⟩
    have base : (c.layouts.read b.layout).tileBase ≤ u.val := by
      rw [place, Compositor.firstTileOf]
      omega
    have at' := (c.getElem?_textRows b.layout (u.val - (c.layouts.read b.layout).tileBase) b.region b.row).mpr
      ⟨row, by omega⟩
    have inside := (List.getElem?_eq_some_iff.mp at').1
    rw [if_pos ((c.inRange_iff _ u).mpr ⟨base, by omega, low⟩), at']
    rfl

theorem Compositor.inRange_of_bindingAt {u : TileNo} {b : Binding} (bound : c.bindingAt l u = some b) :
    c.inRange l u = true := by
  by_contra out
  rw [Compositor.bindingAt, if_neg out] at bound
  cases bound

theorem Compositor.bindingAt_isSome {u : TileNo} (within : c.inRange l u = true) : (c.bindingAt l u).isSome = true := by
  obtain ⟨base, past, low⟩ := (c.inRange_iff l u).mp within
  have length : (c.layouts.read l).tileBase + (c.textRows l).length = c.pastTiles l := c.tileEnd_eq l
  rw [Compositor.bindingAt, if_pos within, Option.isSome_map, List.getElem?_eq_getElem (by omega)]
  rfl

theorem Compositor.mem_tileRange (u : TileNo) : u ∈ c.tileRange l ↔ c.inRange l u = true := by
  simp [Compositor.tileRange]

theorem Compositor.rowTile_iff (r : RegionNo) (k : Nat) (u : TileNo) : c.rowTile l r k = some u ↔
    k < c.rowsOf l r ∧ u.val = c.firstTileOf l r + k ∧ u.val < 148 := by
  have serves : ∀ t : TileNo, (c.bindingAt l t == some { layout := l, region := r, row := k }) = true ↔
      k < c.rowsOf l r ∧ t.val = c.firstTileOf l r + k ∧ t.val < 148 := fun t => by
    rw [beq_iff_eq, c.bindingAt_iff]
    exact and_iff_right rfl
  unfold Compositor.rowTile
  constructor
  · intro found
    have bound := List.find?_some found
    exact (serves u).mp bound
  · intro place
    have bound := (serves u).mpr place
    have mem := (c.mem_tileRange l u).mpr (c.inRange_of_bindingAt l (beq_iff_eq.mp bound))
    cases found : (c.tileRange l).find? fun t => c.bindingAt l t == some { layout := l, region := r, row := k } with
    | none => exact absurd bound (List.find?_eq_none.mp found u mem)
    | some t =>
      have bound' := List.find?_some found
      have same := (serves t).mp bound'
      rw [Fin.eq_of_val_eq (same.2.1.trans place.2.1.symm)]

theorem Compositor.rangesMeet_iff (m : LayoutNo) :
    c.rangesMeet l m = true ↔ ∃ u : TileNo, c.inRange l u = true ∧ c.inRange m u = true := by
  simp [Compositor.rangesMeet, List.any_eq_true]

theorem Compositor.selected_iff : c.selected l = true ↔ ∃ d : DisplayNo, (c.displays.read d).layout = l := by
  simp [Compositor.selected, List.any_eq_true]

theorem Compositor.inBounds_iff : c.inBounds l = true ↔ c.pastTiles l ≤ 148 := by
  rw [Compositor.inBounds, decide_eq_true_iff, c.tileEnd_eq]

theorem Compositor.writePasses_iff : c.writePasses l = true ↔ c.pastTiles l ≤ 148 ∧
    ∀ d e : DisplayNo, (c.displays.read d).layout = l → (c.displays.read e).layout ≠ l →
      c.rangesMeet l (c.displays.read e).layout = false := by
  rw [Compositor.writePasses, Bool.and_eq_true, c.inBounds_iff]
  refine and_congr_right fun _ => ?_
  rw [Bool.not_eq_true', Bool.and_eq_false_imp, c.selected_iff]
  constructor
  · intro free d e here other
    have none := List.any_eq_false.mp (free ⟨d, here⟩) (c.displays.read e).layout (List.mem_finRange _)
    simpa [other, (c.selected_iff _).mpr ⟨e, rfl⟩] using none
  · rintro free ⟨d, here⟩
    refine List.any_eq_false.mpr fun m _ => ?_
    rw [Bool.and_eq_true, Bool.and_eq_true, bne_iff_ne, c.selected_iff]
    rintro ⟨⟨other, e, rfl⟩, meets⟩
    rw [free d e here other] at meets
    cases meets

theorem Compositor.layoutReads : c.LayoutReads l where
  tiles := c.inRange_iff l
  binding := c.bindingAt_iff l
  serving := c.rowTile_iff l
  meets := c.rangesMeet_iff l
  users := rfl
  selected := c.selected_iff l
  bounds := c.inBounds_iff l
  writes := c.writePasses_iff l

end

end Sys2Proof.Machine
end

section
/-! SUPPORT. Tile bindings and releases as equations, and what they and dirty marks leave of the other tiles (R129, R130). -/

namespace Sys2Proof.Machine

/-! ### Bindings and releases as equations (R129, R130) -/

section
variable {s : State} {u : TileNo} {b : Option Binding}

/-- A tile record with the binding that an assignment gives it, where it gives one (R129). -/
def Tile.withBinding (x : Tile) (b : Option Binding) : Tile := { x with binding := if b.isSome then b else x.binding }

theorem State.bindTile_eq (s : State) (u : TileNo) (b : Option Binding) : s.bindTile u b =
    let x := (s.fmt.tiles.read u).withBinding b
    match (s.fmt.tiles.read u).state with
    | .idle => (s.setTile u x).makeDirty u
    | .clean => (s.setTile u x).makeDirty u
    | .dirty => s.setTile u x
    | .queued => s.setTile u x
    | .rendering => s.setTile u { x with stale := true, released := false } := rfl

theorem State.bindTile_of_unmarked (unmarked : (s.fmt.tiles.read u).state = .idle ∨ (s.fmt.tiles.read u).state = .clean) :
    s.bindTile u b = (s.setTile u ((s.fmt.tiles.read u).withBinding b)).makeDirty u := by
  rw [State.bindTile_eq]
  obtain idle | clean := unmarked
  · rw [idle]
  · rw [clean]

theorem State.bindTile_of_waiting (waiting : (s.fmt.tiles.read u).state = .dirty ∨ (s.fmt.tiles.read u).state = .queued) :
    s.bindTile u b = s.setTile u ((s.fmt.tiles.read u).withBinding b) := by
  rw [State.bindTile_eq]
  obtain dirty | queued := waiting
  · rw [dirty]
  · rw [queued]

theorem State.bindTile_of_flight (flight : (s.fmt.tiles.read u).state = .rendering) :
    s.bindTile u b =
      s.setTile u { (s.fmt.tiles.read u).withBinding b with stale := true, released := false } := by
  rw [State.bindTile_eq, flight]

/-- An unmarked tile that is bound is marked as a CLEAN one would be (R129, R131). -/
theorem State.setTile_makeDirty_eq_markTile (x : Tile) :
    (s.setTile u x).makeDirty u = (s.setTile u { x with state := .clean }).markTile u := by
  have marked : (s.setTile u { x with state := .clean }).markTile u = (s.setTile u { x with state := .clean }).makeDirty u := by
    unfold State.markTile
    rw [State.setTile_tiles, Table.read_write_same]
  have dirtied : ∀ y : Tile, (s.setTile u y).makeDirty u = (s.setTile u { y with state := .dirty }).tryJoin u := fun y => by
    unfold State.makeDirty
    rw [State.setTile_tiles, Table.read_write_same, State.setTile, State.setTile, Table.write_write]
    rfl
  rw [marked, dirtied, dirtied]

theorem State.bindTile_marks (h : s.fmt.Coherent)
    (unmarked : (s.fmt.tiles.read u).state = .idle ∨ (s.fmt.tiles.read u).state = .clean) :
    (s.setTile u { (s.fmt.tiles.read u).withBinding b with state := .clean }).Marks (s.bindTile u b)
      fun v => decide (v = u) := by
  rw [State.bindTile_of_unmarked unmarked, State.setTile_makeDirty_eq_markTile]
  refine State.markTile_marks (h.writeApart ?_ (show TileState.clean.Apart from ⟨nofun, nofun⟩)) u
  obtain idle | clean := unmarked
  · rw [idle]; exact ⟨nofun, nofun⟩
  · rw [clean]; exact ⟨nofun, nofun⟩

theorem State.releaseTile_eq_release (h : s.fmt.Coherent) (u : TileNo) :
    s.releaseTile u = { s with fmt := { s.fmt with
      tiles := s.fmt.tiles.write u (s.fmt.tiles.read u).free, queue := s.fmt.queue.filter fun v => v ≠ u } } := by
  rw [State.releaseTile_eq h]
  simp only [bne, beq_eq_decide, ← decide_not]

theorem State.releaseTile_comp (s : State) (u : TileNo) : (s.releaseTile u).comp = s.comp := by
  unfold State.releaseTile
  dsimp only
  split <;> rfl

theorem State.bindTile_comp (s : State) (u : TileNo) (b : Option Binding) : (s.bindTile u b).comp = s.comp := by
  have dirtied : ∀ x, ((s.setTile u x).makeDirty u).comp = s.comp := fun x =>
    (State.makeDirty_leaves (s.setTile u x) u).blocks.comp (by simp)
  unfold State.bindTile
  dsimp only
  split
  · exact dirtied _
  · exact dirtied _
  · rfl
  · rfl
  · rfl

end

/-! ### Records after a release and after a binding (R129, R130) -/

section
variable {x y z : Tile} {b : Option Binding}

theorem Tile.free_free (x : Tile) : x.free.free = x.free := by
  unfold Tile.free
  by_cases flight : x.state = .rendering <;> simp [flight]

theorem Tile.free_left (x : Tile) : x.Left x.free := by
  unfold Tile.Left Tile.free
  refine ⟨rfl, fun flight => ?_, fun still => if_neg still⟩
  simp [flight]

theorem Tile.Entered.trans (h : x.Entered y) (k : y.Entered z) : x.Entered z := by
  obtain ⟨_, _, first⟩ := h
  obtain ⟨used, unclean, second⟩ := k
  exact ⟨used, unclean, fun flight => second (first flight).1⟩

/-- A tile released before it is bound is bound all the same (R129, R130). -/
theorem Tile.Entered.of_free (h : x.free.Entered y) : x.Entered y := by
  obtain ⟨used, unclean, flight⟩ := h
  exact ⟨used, unclean, fun renders => flight (by simp [Tile.free, renders])⟩

theorem Tile.Bound.trans (h : x.Bound b y) (k : y.Bound b z) : x.Bound b z where
  entered := h.entered.trans k.entered
  binding := by rw [k.binding, h.binding]; split <;> rfl

theorem Tile.Bound.of_free (h : x.free.Bound b y) : x.Bound b y := ⟨h.entered.of_free, h.binding⟩

/-- A mark keeps a bound tile bound. -/
theorem Tile.Entered.marked (h : x.Entered y) (k : y.Marked z) : x.Entered z := by
  obtain ⟨used, _, flight⟩ := h
  obtain ⟨used', unclean⟩ := k.waits used
  exact ⟨used', unclean, fun renders =>
    let ⟨renders', _, released⟩ := flight renders
    let ⟨still, stale, same⟩ := k.flight renders'
    ⟨still, stale, same.trans released⟩⟩

/-! The commit of a tile before or after (R139). -/

theorem Tile.commit_kept (x : Tile) : x.commit.state = x.state ∧ x.commit.stale = x.stale ∧
    x.commit.released = x.released ∧ x.commit.binding = x.binding ∧ x.commit.ready = false := by
  unfold Tile.commit
  split
  · exact ⟨rfl, rfl, rfl, rfl, rfl⟩
  · next unready => exact ⟨rfl, rfl, rfl, rfl, by simpa using unready⟩

end

end Sys2Proof.Machine
end

section
/-! SUPPORT. What the landing of staged directives and the recount of the layouts in use make of one tile (R129, R130, R153 to
R156). -/

namespace Sys2Proof.Machine

/-! ### One tile through a pass -/

/-- From one state to another the renders stay coherent, and a tile's record goes as a relation says. -/
structure State.Takes (s : State) (u : TileNo) (own : Tile → Tile → Prop) (t : State) : Prop where
  coherent : s.fmt.Coherent → t.fmt.Coherent
  own      : s.fmt.Coherent → own (s.fmt.tiles.read u) (t.fmt.tiles.read u)

/-- A tile record as it was. -/
def Tile.Kept (x y : Tile) : Prop := y = x

/-- A tile record as it was, or changed as a relation says. -/
def Tile.Perhaps (own : Tile → Tile → Prop) (x y : Tile) : Prop := y = x ∨ own x y

/-- A tile record after a release (R130). -/
def Tile.Frees (x y : Tile) : Prop := y = x.free

namespace State.Takes

variable {s t v : State} {u : TileNo} {own next both : Tile → Tile → Prop}

theorem of_fmt (h : t.fmt = s.fmt) : s.Takes u Tile.Kept t := ⟨fun c => h ▸ c, fun _ => by rw [h]; rfl⟩

theorem refl (s : State) (u : TileNo) : s.Takes u Tile.Kept s := of_fmt rfl

theorem trans (h : s.Takes u own t) (k : t.Takes u next v) (both' : ∀ x y z, own x y → next y z → both x z) :
    s.Takes u both v := ⟨k.coherent ∘ h.coherent, fun c => both' _ _ _ (h.own c) (k.own (h.coherent c))⟩

theorem then_kept (h : s.Takes u own t) (k : t.Takes u Tile.Kept v) : s.Takes u own v :=
  h.trans k fun _ _ _ first same => by rw [same]; exact first

theorem after_kept (h : s.Takes u Tile.Kept t) (k : t.Takes u own v) : s.Takes u own v :=
  h.trans k fun _ _ _ same last => by rw [← show _ = _ from same]; exact last

theorem mono (h : s.Takes u own t) (sub : ∀ x y, own x y → next x y) : s.Takes u next t :=
  ⟨h.coherent, fun c => sub _ _ (h.own c)⟩

theorem ite {p : Prop} [Decidable p] (h : s.Takes u own t) (k : s.Takes u own v) :
    s.Takes u own (if p then t else v) := by split <;> assumption

/-- A fold whose every step leaves the tile, or changes it as a relation says that repeats. `held` is what the steps keep. -/
theorem foldl {α : Type} {f : State → α → State} (held : State → Prop) (keep : ∀ t a, held t → held (f t a))
    (repeats : ∀ x y z, own x y → own y z → own x z) {as : List α}
    (step : ∀ t, held t → ∀ a ∈ as, t.Takes u (Tile.Perhaps own) (f t a)) (s : State) (start : held s) :
    s.Takes u (Tile.Perhaps own) (as.foldl f s) ∧ held (as.foldl f s) :=
  List.foldlRecOn (motive := fun t => s.Takes u (Tile.Perhaps own) t ∧ held t) as f
    ⟨(refl s u).mono fun _ _ => .inl, start⟩ fun t ih a mem =>
      ⟨ih.1.trans (step t ih.2 a mem) fun x y z first second => by
        obtain rfl | first := first
        · exact second
        · obtain rfl | second := second
          · exact .inr first
          · exact .inr (repeats _ _ _ first second), keep t a ih.2⟩

/-- A fold of which no step reaches the tile. -/
theorem foldl_kept {α : Type} {f : State → α → State} (held : State → Prop) (keep : ∀ t a, held t → held (f t a))
    {as : List α} (step : ∀ t, held t → ∀ a ∈ as, t.Takes u Tile.Kept (f t a)) (s : State) (start : held s) :
    s.Takes u Tile.Kept (as.foldl f s) :=
  (foldl (own := Tile.Kept) held keep (fun _ _ _ first second => second.trans first)
    (fun t h a mem => (step t h a mem).mono fun _ _ => .inr) s start).1.mono fun _ _ same => same.elim id id

/-- A fold of which one step surely changes the tile as the relation says. -/
theorem foldl_at {α : Type} {f : State → α → State} (held : State → Prop) (keep : ∀ t a, held t → held (f t a))
    (repeats : ∀ x y z, own x y → own y z → own x z) {as : List α}
    (step : ∀ t, held t → ∀ a ∈ as, t.Takes u (Tile.Perhaps own) (f t a)) {a : α} (mem : a ∈ as)
    (here : ∀ t, held t → t.Takes u own (f t a)) (s : State) (start : held s) : s.Takes u own (as.foldl f s) := by
  obtain ⟨before, after, rfl⟩ := List.append_of_mem mem
  rw [List.foldl_append, List.foldl_cons]
  obtain ⟨first, held'⟩ := foldl (as := before) held keep repeats (fun t h b mem => step t h b (by simp [mem])) s start
  obtain ⟨last, _⟩ := foldl (as := after) held keep repeats (fun t h b mem => step t h b (by simp [mem])) _ (keep _ a held')
  have reached : s.Takes u own (f (before.foldl f s) a) := first.trans (here _ held') fun x y z one two => by
    obtain rfl | one := one
    · exact two
    · exact repeats _ _ _ one two
  exact reached.trans last fun x y z one two => by
    obtain rfl | two := two
    · exact one
    · exact repeats _ _ _ one two

end State.Takes

/-! ### Releases, bindings and marks at one tile (R129 to R131) -/

section
variable (s : State) {u v : TileNo}

theorem State.releaseTile_takes (u : TileNo) : s.Takes u Tile.Frees (s.releaseTile u) :=
  ⟨fun h => (State.releaseTile_changes h u).coherent, fun h => (State.releaseTile_changes h u).own⟩

theorem State.releaseTile_apart (other : u ≠ v) : s.Takes u Tile.Kept (s.releaseTile v) :=
  ⟨fun h => (State.releaseTile_changes h v).coherent, fun h => (State.releaseTile_changes h v).others u other⟩

theorem State.bindTile_takes (u : TileNo) (b : Option Binding) : s.Takes u (fun x => x.Bound b) (s.bindTile u b) :=
  ⟨fun h => (State.bindTile_changes h u b).coherent, fun h => (State.bindTile_changes h u b).own⟩

theorem State.bindTile_apart (other : u ≠ v) (b : Option Binding) : s.Takes u Tile.Kept (s.bindTile v b) :=
  ⟨fun h => (State.bindTile_changes h v b).coherent, fun h => (State.bindTile_changes h v b).others u other⟩

theorem State.markTile_apart (other : u ≠ v) : s.Takes u Tile.Kept (s.markTile v) :=
  ⟨fun h => (State.markTile_changes h v).coherent, fun h => (State.markTile_changes h v).others u other⟩

theorem Tile.Frees.again (x y z : Tile) (h : x.Frees y) (k : y.Frees z) : x.Frees z := by
  obtain rfl := h
  obtain rfl := k
  exact x.free_free

theorem State.releaseAll_takes {us : List TileNo} (mem : u ∈ us) : s.Takes u Tile.Frees (s.releaseAll us) := by
  refine State.Takes.foldl_at (fun _ => True) (fun _ _ => id) Tile.Frees.again (fun t _ v _ => ?_) mem
    (fun t _ => t.releaseTile_takes u) s trivial
  by_cases other : u = v
  · subst other; exact (t.releaseTile_takes u).mono fun _ _ => .inr
  · exact (t.releaseTile_apart other).mono fun _ _ => .inl

theorem State.releaseAll_apart {us : List TileNo} (out : u ∉ us) : s.Takes u Tile.Kept (s.releaseAll us) := by
  unfold State.releaseAll
  refine .foldl_kept (fun _ => True) (fun _ _ => id) (fun t _ v mem => t.releaseTile_apart ?_) s trivial
  rintro rfl
  exact out mem

/-- What a binding pass keeps: the records that the assignment of the tiles reads. -/
theorem State.bindTile_keepsRegions (b : Option Binding) : s.KeepsRegions (s.bindTile u b) := .of_comp (s.bindTile_comp u b)

theorem State.releaseTile_keepsRegions : s.KeepsRegions (s.releaseTile u) := .of_comp (s.releaseTile_comp u)

theorem State.releaseAll_keepsRegions (us : List TileNo) : s.KeepsRegions (s.releaseAll us) :=
  .foldl (fun s _ => s.releaseTile_keepsRegions) us s

theorem State.bindAll_keepsRegions (l : LayoutNo) (us : List TileNo) : s.KeepsRegions (s.bindAll l us) :=
  .foldl (fun s _ => s.bindTile_keepsRegions _) us s

end

section
variable {s t : State}

theorem State.KeepsRegions.region (h : s.KeepsRegions t) (l : LayoutNo) (r : RegionNo) :
    t.comp.region l r = s.comp.region l r := by
  rw [Compositor.region, h.regions]
  rfl

end

/-- The layout and region records of two compositors are the same. -/
def Compositor.SameLayouts (c e : Compositor) : Prop := e.layouts = c.layouts ∧ e.regions = c.regions

theorem Compositor.SameLayouts.textRows {c e : Compositor} (h : c.SameLayouts e) (l : LayoutNo) :
    e.textRows l = c.textRows l := by
  obtain ⟨layouts, regions⟩ := h
  unfold Compositor.textRows Compositor.acts Compositor.region
  rw [layouts, regions]

theorem Compositor.SameLayouts.inRange {c e : Compositor} (h : c.SameLayouts e) (l : LayoutNo) (u : TileNo) :
    e.inRange l u = c.inRange l u := by
  unfold Compositor.inRange Compositor.tileEnd Compositor.tileCount
  rw [h.textRows, h.1]

theorem Compositor.SameLayouts.bindingAt {c e : Compositor} (h : c.SameLayouts e) (l : LayoutNo) (u : TileNo) :
    e.bindingAt l u = c.bindingAt l u := by
  unfold Compositor.bindingAt
  rw [h.textRows, h.inRange, h.1]

theorem Compositor.SameLayouts.rangesMeet {c e : Compositor} (h : c.SameLayouts e) (l m : LayoutNo) :
    e.rangesMeet l m = c.rangesMeet l m := by
  unfold Compositor.rangesMeet
  simp only [h.inRange]

theorem State.KeepsRegions.same {s t : State} (h : s.KeepsRegions t) : s.comp.SameLayouts t.comp := ⟨h.layouts, h.regions⟩

theorem State.KeepsRegions.users {s t : State} (h : s.KeepsRegions t) (l : LayoutNo) : t.comp.users l = s.comp.users l := by
  unfold Compositor.users
  rw [h.displays]

section
variable (s : State) {u : TileNo}

theorem State.bindAll_takes (l : LayoutNo) {us : List TileNo} (mem : u ∈ us) :
    s.Takes u (fun x => x.Bound (s.comp.bindingAt l u)) (s.bindAll l us) := by
  unfold State.bindAll
  refine State.Takes.foldl_at (own := fun x => x.Bound (s.comp.bindingAt l u)) s.KeepsRegions
    (fun t v h => h.trans (t.bindTile_keepsRegions _)) (fun _ _ _ => Tile.Bound.trans) (fun t h v _ => ?_) mem (fun t h => ?_) s (.refl s)
  · by_cases other : u = v
    · subst other
      rw [h.same.bindingAt]
      exact (t.bindTile_takes u _).mono fun _ _ => .inr
    · exact (t.bindTile_apart other _).mono fun _ _ => .inl
  · rw [h.same.bindingAt]
    exact t.bindTile_takes u _

theorem State.bindAll_apart (l : LayoutNo) {us : List TileNo} (out : u ∉ us) : s.Takes u Tile.Kept (s.bindAll l us) := by
  unfold State.bindAll
  refine .foldl_kept (fun _ => True) (fun _ _ => id) (fun t _ v mem => t.bindTile_apart ?_ _) s trivial
  rintro rfl
  exact out mem

/-! ### Layouts that leave and enter use (R155) -/

theorem State.setPages_fmt {α : Type} (f : State → α → State)
    (page : ∀ (t : State) (a : α), ∃ l r p, f t a = t.setPage l r p) (as : List α) : (as.foldl f s).fmt = s.fmt :=
  List.foldlRecOn (motive := fun t : State => t.fmt = s.fmt) as f rfl fun t same a _ => by
    obtain ⟨l, r, p, is⟩ := page t a
    rw [is]
    exact same

theorem State.setPages_keepsRegions {α : Type} (f : State → α → State)
    (page : ∀ (t : State) (a : α), ∃ l r p, f t a = t.setPage l r p) (as : List α) : s.KeepsRegions (as.foldl f s) :=
  .foldl (fun t a => by
    obtain ⟨l, r, p, is⟩ := page t a
    rw [is]
    exact .of_pages rfl) as s

theorem State.leaveLayout_keepsRegions (l : LayoutNo) : s.KeepsRegions (s.leaveLayout l) :=
  (s.releaseAll_keepsRegions _).trans (State.setPages_keepsRegions _ _ (fun _ _ => ⟨_, _, _, rfl⟩) _)

theorem State.enterLayout_keepsRegions (l : LayoutNo) : s.KeepsRegions (s.enterLayout l) :=
  (State.setPages_keepsRegions s (fun s r => s.startPage l r) (fun _ _ => ⟨_, _, _, rfl⟩) _).trans
    (State.bindAll_keepsRegions _ _ _)

theorem State.leaveLayout_takes {l : LayoutNo} (within : s.comp.inRange l u = true) :
    s.Takes u Tile.Frees (s.leaveLayout l) :=
  (s.releaseAll_takes ((s.comp.mem_tileRange l u).mpr within)).then_kept
    (.of_fmt (State.setPages_fmt _ _ (fun _ _ => ⟨_, _, _, rfl⟩) _))

theorem State.leaveLayout_apart {l : LayoutNo} (out : s.comp.inRange l u = false) :
    s.Takes u Tile.Kept (s.leaveLayout l) :=
  (s.releaseAll_apart (by rw [s.comp.mem_tileRange, out]; nofun)).then_kept
    (.of_fmt (State.setPages_fmt _ _ (fun _ _ => ⟨_, _, _, rfl⟩) _))

/-- The state of a layout that enters use before its tiles are bound: its pages are started (R155, R158). -/
def State.startPages (l : LayoutNo) : State :=
  ((List.finRange 8).filter fun r => s.comp.actingListing l r).foldl (fun s r => s.startPage l r) s

theorem State.enterLayout_eq (l : LayoutNo) :
    s.enterLayout l = (s.startPages l).bindAll l ((s.startPages l).comp.tileRange l) := rfl

theorem State.startPages_fmt (l : LayoutNo) : (s.startPages l).fmt = s.fmt :=
  State.setPages_fmt s (fun s r => s.startPage l r) (fun _ _ => ⟨_, _, _, rfl⟩) _

theorem State.startPages_keepsRegions (l : LayoutNo) : s.KeepsRegions (s.startPages l) :=
  State.setPages_keepsRegions s (fun s r => s.startPage l r) (fun _ _ => ⟨_, _, _, rfl⟩) _

theorem State.enterLayout_takes {l : LayoutNo} (within : s.comp.inRange l u = true) :
    s.Takes u (fun x => x.Bound (s.comp.bindingAt l u)) (s.enterLayout l) := by
  have same := (s.startPages_keepsRegions l).same
  rw [State.enterLayout_eq, ← same.bindingAt]
  exact .after_kept (.of_fmt (s.startPages_fmt l))
    (State.bindAll_takes _ l ((Compositor.mem_tileRange _ l u).mpr (by rw [same.inRange, within])))

theorem State.enterLayout_apart {l : LayoutNo} (out : s.comp.inRange l u = false) :
    s.Takes u Tile.Kept (s.enterLayout l) := by
  have same := (s.startPages_keepsRegions l).same
  rw [State.enterLayout_eq]
  exact .after_kept (.of_fmt (s.startPages_fmt l))
    (State.bindAll_apart _ l (by rw [Compositor.mem_tileRange, same.inRange, out]; nofun))

end

end Sys2Proof.Machine
end

section
/-! SUPPORT. The tiles at the recount of the layouts in use and at the landing of staged directives (R28, R153 to R156). -/

namespace Sys2Proof.Machine

/-! ### The recount (R155) -/

/-- The state after the layouts that leave use have left (R155). -/
def State.layoutsLeft (s : State) : State := ((List.finRange 16).filter s.comp.leaves).foldl State.leaveLayout s

/-- The state after the layouts that enter use have entered (R155). -/
def State.layoutsEntered (s : State) : State :=
  ((List.finRange 16).filter s.comp.enters).foldl State.enterLayout s.layoutsLeft

theorem State.recountLayouts_eq (s : State) : s.recountLayouts =
    s.layoutsEntered.setComp { s.layoutsEntered.comp with inUse := Table.tabulate s.layoutsEntered.comp.users } := rfl

section
variable (s : State) {u : TileNo}

theorem State.layoutsLeft_keepsRegions : s.KeepsRegions s.layoutsLeft := .foldl State.leaveLayout_keepsRegions _ s

theorem State.layoutsEntered_keepsRegions : s.KeepsRegions s.layoutsEntered :=
  s.layoutsLeft_keepsRegions.trans (.foldl State.enterLayout_keepsRegions _ _)

theorem State.recountLayouts_inUse (l : LayoutNo) : s.recountLayouts.comp.inUse.read l = s.comp.users l := by
  rw [State.recountLayouts_eq]
  exact (Table.read_tabulate _ _).trans (s.layoutsEntered_keepsRegions.users l)

theorem State.layoutsLeft_perhaps : s.Takes u (Tile.Perhaps Tile.Frees) s.layoutsLeft := by
  refine (State.Takes.foldl (fun _ => True) (fun _ _ => id) Tile.Frees.again (fun t _ l _ => ?_) s trivial).1
  cases within : t.comp.inRange l u with
  | true => exact (t.leaveLayout_takes within).mono fun _ _ => .inr
  | false => exact (t.leaveLayout_apart within).mono fun _ _ => .inl

theorem mem_layouts {p : LayoutNo → Bool} {l : LayoutNo} : l ∈ (List.finRange 16).filter p ↔ p l = true := by simp

theorem State.layoutsLeft_takes {l : LayoutNo} (leaves : s.comp.leaves l = true) (within : s.comp.inRange l u = true) :
    s.Takes u Tile.Frees s.layoutsLeft := by
  refine State.Takes.foldl_at s.KeepsRegions (fun t l h => h.trans (t.leaveLayout_keepsRegions l)) Tile.Frees.again
    (fun t _ m _ => ?_) (mem_layouts.mpr leaves) (fun t h => t.leaveLayout_takes ?_) s (.refl s)
  · cases inside : t.comp.inRange m u with
    | true => exact (t.leaveLayout_takes inside).mono fun _ _ => .inr
    | false => exact (t.leaveLayout_apart inside).mono fun _ _ => .inl
  · rw [h.same.inRange, within]

theorem State.layoutsLeft_apart (out : ∀ l, s.comp.leaves l = true → s.comp.inRange l u = false) :
    s.Takes u Tile.Kept s.layoutsLeft :=
  .foldl_kept s.KeepsRegions (fun t l h => h.trans (t.leaveLayout_keepsRegions l))
    (fun t h l mem => t.leaveLayout_apart (by rw [h.same.inRange, out l (mem_layouts.mp mem)])) s (.refl s)

theorem State.layoutsEntered_apart (out : ∀ l, s.comp.enters l = true → s.comp.inRange l u = false) :
    s.layoutsLeft.Takes u Tile.Kept s.layoutsEntered :=
  .foldl_kept s.KeepsRegions (fun t l h => h.trans (t.enterLayout_keepsRegions l))
    (fun t h l mem => t.enterLayout_apart (by rw [h.same.inRange, out l (mem_layouts.mp mem)])) _
    s.layoutsLeft_keepsRegions

/-- The tiles of a layout that enters use are bound, where no other one that enters shares them (R155). -/
theorem State.layoutsEntered_takes {l : LayoutNo} (enters : s.comp.enters l = true) (within : s.comp.inRange l u = true)
    (alone : ∀ m, s.comp.enters m = true → s.comp.inRange m u = true → m = l) :
    s.layoutsLeft.Takes u (fun x => x.Bound (s.comp.bindingAt l u)) s.layoutsEntered := by
  have here : ∀ t, s.KeepsRegions t → t.Takes u (fun x => x.Bound (s.comp.bindingAt l u)) (t.enterLayout l) :=
    fun t h => h.same.bindingAt l u ▸ t.enterLayout_takes (by rw [h.same.inRange, within])
  refine State.Takes.foldl_at (own := fun x => x.Bound (s.comp.bindingAt l u)) s.KeepsRegions
    (fun t l h => h.trans (t.enterLayout_keepsRegions l)) (fun _ _ _ => Tile.Bound.trans) (fun t h m mem => ?_)
    (mem_layouts.mpr enters) here _ s.layoutsLeft_keepsRegions
  cases inside : s.comp.inRange m u with
  | true =>
    obtain rfl := alone m (mem_layouts.mp mem) inside
    exact (here t h).mono fun _ _ => .inr
  | false => exact (t.enterLayout_apart (by rw [h.same.inRange, inside])).mono fun _ _ => .inl

theorem State.recountLayouts_enters {l : LayoutNo} (enters : s.comp.enters l = true)
    (within : s.comp.inRange l u = true) (alone : ∀ m, s.comp.enters m = true → s.comp.inRange m u = true → m = l) :
    s.Takes u (fun x => x.Bound (s.comp.bindingAt l u)) s.recountLayouts := by
  rw [State.recountLayouts_eq]
  refine .then_kept (s.layoutsLeft_perhaps.trans (s.layoutsEntered_takes enters within alone) ?_) (.of_fmt rfl)
  rintro x y z (rfl | rfl) bound
  · exact bound
  · exact bound.of_free

theorem State.recountLayouts_leaves {l : LayoutNo} (leaves : s.comp.leaves l = true)
    (within : s.comp.inRange l u = true) (out : ∀ m, s.comp.enters m = true → s.comp.inRange m u = false) :
    s.Takes u Tile.Frees s.recountLayouts := by
  rw [State.recountLayouts_eq]
  exact ((s.layoutsLeft_takes leaves within).then_kept (s.layoutsEntered_apart out)).then_kept (.of_fmt rfl)

theorem State.recountLayouts_apart
    (out : ∀ l, s.comp.leaves l = true ∨ s.comp.enters l = true → s.comp.inRange l u = false) :
    s.Takes u Tile.Kept s.recountLayouts := by
  rw [State.recountLayouts_eq]
  exact ((s.layoutsLeft_apart fun l h => out l (.inl h)).then_kept
    (s.layoutsEntered_apart fun l h => out l (.inr h))).then_kept (.of_fmt rfl)

end

/-! ### A LAYOUT or REGION write that lands (R153, R156) -/

section
variable (s : State) {u : TileNo} {before : Compositor} {l : LayoutNo} {rewritten rebound : RegionNo → Bool}

theorem mem_releasedBy {after : Compositor} : u ∈ releasedBy before after l ↔
    before.inRange l u = true ∧ after.inRange l u = false := by
  rw [releasedBy, List.mem_filter, Compositor.mem_tileRange, Bool.not_eq_true']

theorem mem_boundBy {after : Compositor} : u ∈ boundBy before after l rebound ↔
    after.inRange l u = true ∧ (after.bindingAt l u ≠ before.bindingAt l u ∨
      ∃ b, after.bindingAt l u = some b ∧ rebound b.region = true) := by
  rw [boundBy, List.mem_filter, Compositor.mem_tileRange, Bool.or_eq_true, bne_iff_ne]
  cases after.bindingAt l u <;> simp

/-- The state of a layout in use after the page states of a write to it (R158). -/
def State.pagesWritten (before : Compositor) (rewritten : RegionNo → Bool) (l : LayoutNo) : State :=
  (List.finRange 8).foldl (State.pageAfterWrite before rewritten l) s

theorem State.tilesAfterWrite_of_use (used : 0 < before.inUse.read l) : s.tilesAfterWrite before l rewritten rebound =
    ((s.pagesWritten before rewritten l).releaseAll (releasedBy before (s.pagesWritten before rewritten l).comp l)).bindAll l
      (boundBy before (s.pagesWritten before rewritten l).comp l rebound) := if_pos used

theorem State.pagesWritten_fmt (before : Compositor) (rewritten : RegionNo → Bool) (l : LayoutNo) :
    (s.pagesWritten before rewritten l).fmt = s.fmt :=
  List.foldlRecOn (motive := fun t : State => t.fmt = s.fmt) _ _ rfl fun t same r _ => by
    refine Eq.trans ?_ same
    exact State.fmt_ite (State.fmt_ite rfl rfl) (State.fmt_ite rfl rfl)

theorem State.setPage_keepsRegions (l : LayoutNo) (r : RegionNo) (p : PageState) : s.KeepsRegions (s.setPage l r p) :=
  ⟨rfl, rfl, rfl⟩

theorem State.pageAfterWrite_keepsRegions (before : Compositor) (rewritten : RegionNo → Bool) (l : LayoutNo) (r : RegionNo) :
    s.KeepsRegions (s.pageAfterWrite before rewritten l r) := by
  unfold State.pageAfterWrite
  exact .ite (.ite (s.setPage_keepsRegions l r _) (.refl s)) (.ite (s.setPage_keepsRegions l r _) (.refl s))

theorem State.pagesWritten_keepsRegions (before : Compositor) (rewritten : RegionNo → Bool) (l : LayoutNo) :
    s.KeepsRegions (s.pagesWritten before rewritten l) :=
  .foldl (fun t r => t.pageAfterWrite_keepsRegions before rewritten l r) _ s

/-- A tile of the new range with another binding, or of a rewritten region, is bound (R156). -/
theorem State.tilesAfterWrite_binds (used : 0 < before.inUse.read l) (within : s.comp.inRange l u = true)
    (binds : s.comp.bindingAt l u ≠ before.bindingAt l u ∨
      ∃ b, s.comp.bindingAt l u = some b ∧ rebound b.region = true) :
    s.Takes u (fun x => x.Bound (s.comp.bindingAt l u)) (s.tilesAfterWrite before l rewritten rebound) := by
  have same := (s.pagesWritten_keepsRegions before rewritten l).same
  rw [s.tilesAfterWrite_of_use used, ← same.bindingAt]
  have stays : u ∉ releasedBy before (s.pagesWritten before rewritten l).comp l := by
    rw [mem_releasedBy, same.inRange, within]
    nofun
  have assigned := ((s.pagesWritten before rewritten l).releaseAll_keepsRegions
    (releasedBy before (s.pagesWritten before rewritten l).comp l)).same.bindingAt l u
  refine .after_kept (.of_fmt (s.pagesWritten_fmt before rewritten l)) (.after_kept (State.releaseAll_apart _ stays) ?_)
  rw [← assigned]
  refine State.bindAll_takes _ l (mem_boundBy.mpr ?_)
  rw [same.inRange, same.bindingAt]
  exact ⟨within, binds⟩

/-- A tile of the former range alone is released (R156). -/
theorem State.tilesAfterWrite_frees (used : 0 < before.inUse.read l) (out : s.comp.inRange l u = false)
    (within : before.inRange l u = true) : s.Takes u Tile.Frees (s.tilesAfterWrite before l rewritten rebound) := by
  have same := (s.pagesWritten_keepsRegions before rewritten l).same
  rw [s.tilesAfterWrite_of_use used]
  refine .after_kept (.of_fmt (s.pagesWritten_fmt before rewritten l))
    (.then_kept (State.releaseAll_takes _ ?_) (State.bindAll_apart _ l ?_))
  · rw [mem_releasedBy, same.inRange]
    exact ⟨within, out⟩
  · rw [mem_boundBy, same.inRange, out]
    nofun

/-- Every other tile stays (R156). -/
theorem State.tilesAfterWrite_apart
    (kept : before.inRange l u = true → s.comp.inRange l u = true)
    (unbound : s.comp.inRange l u = true → s.comp.bindingAt l u = before.bindingAt l u ∧
      ∀ b, s.comp.bindingAt l u = some b → rebound b.region = false) :
    s.Takes u Tile.Kept (s.tilesAfterWrite before l rewritten rebound) := by
  have same := (s.pagesWritten_keepsRegions before rewritten l).same
  refine .ite ?_ (.refl s u)
  refine .after_kept (.of_fmt (s.pagesWritten_fmt before rewritten l))
    (.then_kept (State.releaseAll_apart _ ?_) (State.bindAll_apart _ l ?_))
  · rw [mem_releasedBy]
    rintro ⟨former, out⟩
    have out' := same.inRange l u ▸ out
    rw [kept former] at out'
    cases out'
  · rw [mem_boundBy]
    rintro ⟨within, binds⟩
    have within' := same.inRange l u ▸ within
    obtain ⟨same', free⟩ := unbound within'
    have at' := same.bindingAt l u
    obtain other | ⟨b, bound, rebinds⟩ := binds
    · exact other (at'.trans same')
    · have none := free b (at' ▸ bound)
      rw [rebinds] at none
      cases none

theorem Compositor.inRange_low {c : Compositor} (within : c.inRange l u = true) : u.val < 148 :=
  ((c.inRange_iff l u).mp within).2.2

theorem Compositor.inRange_notice (c : Compositor) (l : LayoutNo) (d : DisplayNo) : c.inRange l (noticeTile d) = false := by
  by_contra within
  have low := Compositor.inRange_low (Bool.eq_true_of_not_eq_false within)
  simp only [noticeTile] at low
  omega

end

end Sys2Proof.Machine
end

section
/-! SUPPORT. The landing of staged directives at the tiles and the displays, and step 5 of the output frame start (R153, R154,
R167 to R171). -/

namespace Sys2Proof.Machine

/-! ### The layouts in use and the notice tiles needed (R155, R171) -/

/-- The layouts in use and the notice tiles needed stay as the previous output frame start left them. -/
structure State.KeepsUse (s t : State) : Prop where
  inUse  : t.comp.inUse = s.comp.inUse
  needed : t.comp.tileNeeded = s.comp.tileNeeded

namespace State.KeepsUse

variable {s t u : State}

theorem of_comp (h : t.comp = s.comp) : s.KeepsUse t := by constructor <;> rw [h]

theorem refl (s : State) : s.KeepsUse s := of_comp rfl

theorem trans (h : s.KeepsUse t) (k : t.KeepsUse u) : s.KeepsUse u :=
  ⟨k.inUse.trans h.inUse, k.needed.trans h.needed⟩

theorem ite {p : Prop} [Decidable p] (h : s.KeepsUse t) (k : s.KeepsUse u) : s.KeepsUse (if p then t else u) := by
  split <;> assumption

theorem foldl {α : Type} {f : State → α → State} (h : ∀ s a, State.KeepsUse s (f s a)) (as : List α) (s : State) :
    s.KeepsUse (as.foldl f s) := List.foldlRecOn as f (refl s) fun t k a _ => k.trans (h t a)

end State.KeepsUse

section
variable (s : State)

theorem State.setPage_keepsUse (l : LayoutNo) (r : RegionNo) (p : PageState) : s.KeepsUse (s.setPage l r p) := ⟨rfl, rfl⟩

theorem State.setDisplay_keepsUse (d : DisplayNo) (x : Display) : s.KeepsUse (s.setDisplay d x) := ⟨rfl, rfl⟩

theorem State.releaseAll_keepsUse (us : List TileNo) : s.KeepsUse (s.releaseAll us) :=
  .foldl (fun s u => .of_comp (s.releaseTile_comp u)) us s

theorem State.bindAll_keepsUse (l : LayoutNo) (us : List TileNo) : s.KeepsUse (s.bindAll l us) :=
  .foldl (fun s u => .of_comp (s.bindTile_comp u _)) us s

theorem State.layoutsEntered_keepsUse : s.KeepsUse s.layoutsEntered := by
  have leave : ∀ (u : State) (l : LayoutNo), u.KeepsUse (u.leaveLayout l) := fun u l =>
    (u.releaseAll_keepsUse _).trans (.foldl (fun s r => s.setPage_keepsUse l r _) _ _)
  have enter : ∀ (u : State) (l : LayoutNo), u.KeepsUse (u.enterLayout l) := fun u l =>
    (State.KeepsUse.foldl (fun s r => s.setPage_keepsUse l r _) _ u).trans (State.bindAll_keepsUse _ _ _)
  exact (State.KeepsUse.foldl leave _ s).trans (.foldl enter _ _)

theorem State.recountLayouts_needed : s.recountLayouts.comp.tileNeeded = s.comp.tileNeeded :=
  s.layoutsEntered_keepsUse.needed

theorem State.tilesAfterWrite_keepsUse (before : Compositor) (l : LayoutNo) (w z : RegionNo → Bool) :
    s.KeepsUse (s.tilesAfterWrite before l w z) := by
  have page : ∀ (u : State) (r : RegionNo), u.KeepsUse (u.pageAfterWrite before w l r) := fun u r => by
    unfold State.pageAfterWrite
    exact .ite (.ite (u.setPage_keepsUse l r _) (.refl u)) (.ite (u.setPage_keepsUse l r _) (.refl u))
  exact .ite (((State.KeepsUse.foldl page _ s).trans (State.releaseAll_keepsUse _ _)).trans (State.bindAll_keepsUse _ _ _))
    (.refl s)

theorem State.landLayout_keepsUse (tag : Byte) (l : LayoutNo) (img : Layout) : s.KeepsUse (s.landLayout tag l img) :=
  .ite (.trans (t := s.setComp { s.comp with layouts := s.comp.layouts.write l img }) ⟨rfl, rfl⟩
    (State.tilesAfterWrite_keepsUse _ _ _ _ _)) ⟨rfl, rfl⟩

theorem State.landRegion_keepsUse (tag : Byte) (i : Fin 128) (img : Region) : s.KeepsUse (s.landRegion tag i img) :=
  .ite (.trans (t := s.setComp { s.comp with regions := s.comp.regions.write i img }) ⟨rfl, rfl⟩
    (State.tilesAfterWrite_keepsUse _ _ _ _ _)) ⟨rfl, rfl⟩

theorem Landing.land_keepsUse (p : Landing) (x : Staged) : p.state.KeepsUse (p.land x).state := by
  have select : ∀ (l : LayoutNo) (u : State) (d : DisplayNo), u.KeepsUse (u.selectAt x.tag l d) := fun l u d =>
    .ite ⟨rfl, rfl⟩ (u.setDisplay_keepsUse d _)
  unfold Landing.land
  dsimp only
  split
  · exact .foldl (fun s d => s.setDisplay_keepsUse d _) _ _
  · exact .foldl (select _) _ _
  · exact .foldl (fun s d => s.setDisplay_keepsUse d _) _ _
  · exact .foldl (fun s d => s.setDisplay_keepsUse d _) _ _
  · rw [Landing.freshIf_state]; exact p.state.landLayout_keepsUse _ _ _
  · rw [Landing.freshIf_state]; exact p.state.landRegion_keepsUse _ _ _
  · exact ⟨rfl, rfl⟩
  · exact ⟨rfl, rfl⟩

theorem State.landStaged_keepsUse : s.KeepsUse s.landStaged.state :=
  List.foldlRecOn (motive := fun p : Landing => s.KeepsUse p.state) s.dir.handed Landing.land ⟨rfl, rfl⟩
    fun p k x _ => k.trans (p.land_keepsUse x)

theorem State.settleMode_keepsUse (d : DisplayNo) : s.KeepsUse (s.settleMode d) := by
  unfold State.settleMode
  dsimp only
  split <;> exact ⟨rfl, rfl⟩

/-- The state of an output frame start before the recount: the directives have landed, the modes are settled (R167). -/
def State.modesSettled : State := s.landStaged.state.latchColours.settleModes

theorem State.modesSettled_keepsUse : s.KeepsUse s.modesSettled :=
  (s.landStaged_keepsUse.trans (t := s.landStaged.state) (u := s.landStaged.state.latchColours) ⟨rfl, rfl⟩).trans
    (.foldl State.settleMode_keepsUse _ _)

theorem State.compositorStart_eq : s.compositorStart = (List.finRange 12).foldl
    (State.settleNotice s.landStaged.fresh s.comp.displays) s.modesSettled.recountLayouts := rfl

theorem State.modesSettled_fmt : s.modesSettled.fmt = s.landStaged.state.fmt := State.settleModes_fmt _

/-! ### Notice tiles at the landing (R128, R156) -/

theorem State.tilesAfterWrite_notice (before : Compositor) (l : LayoutNo) (w z : RegionNo → Bool) (d : DisplayNo) :
    s.Takes (noticeTile d) Tile.Kept (s.tilesAfterWrite before l w z) :=
  s.tilesAfterWrite_apart (fun within => absurd within (by rw [before.inRange_notice]; nofun))
    fun within => absurd within (by rw [s.comp.inRange_notice]; nofun)

/-- A compositor with a layout record written (R153). -/
def Compositor.withLayout (c : Compositor) (l : LayoutNo) (img : Layout) : Compositor :=
  { c with layouts := c.layouts.write l img }

/-- A compositor with a region record written (R153). -/
def Compositor.withRegion (c : Compositor) (i : Fin 128) (img : Region) : Compositor :=
  { c with regions := c.regions.write i img }

theorem State.landLayout_of_passes {tag : Byte} {l : LayoutNo} {img : Layout}
    (passes : (s.comp.withLayout l img).writePasses l = true) : s.landLayout tag l img =
      (s.setComp (s.comp.withLayout l img)).tilesAfterWrite s.comp l (fun _ => false) (fun _ => true) := if_pos passes

theorem State.landLayout_of_fails {tag : Byte} {l : LayoutNo} {img : Layout}
    (fails : ¬ (s.comp.withLayout l img).writePasses l = true) :
    s.landLayout tag l img = s.refuseKind .writeEntry tag .tileRange := if_neg fails

theorem State.landRegion_of_passes {tag : Byte} {i : Fin 128} {img : Region}
    (passes : (s.comp.withRegion i img).writePasses (regionLayout i) = true) : s.landRegion tag i img =
      (s.setComp (s.comp.withRegion i img)).tilesAfterWrite s.comp (regionLayout i)
        (fun k => k == regionNumber i) (fun k => k == regionNumber i) := if_pos passes

theorem State.landRegion_of_fails {tag : Byte} {i : Fin 128} {img : Region}
    (fails : ¬ (s.comp.withRegion i img).writePasses (regionLayout i) = true) :
    s.landRegion tag i img = s.refuseKind .writeEntry tag .tileRange := if_neg fails

theorem State.setComp_kept (c : Compositor) (u : TileNo) : s.Takes u Tile.Kept (s.setComp c) := .of_fmt rfl

theorem State.landLayout_notice (tag : Byte) (l : LayoutNo) (img : Layout) (d : DisplayNo) :
    s.Takes (noticeTile d) Tile.Kept (s.landLayout tag l img) := by
  by_cases passes : (s.comp.withLayout l img).writePasses l = true
  · rw [s.landLayout_of_passes passes]
    exact .after_kept (s.setComp_kept _ _) (State.tilesAfterWrite_notice _ _ _ _ _ d)
  · rw [s.landLayout_of_fails passes]
    exact .of_fmt rfl

theorem State.landRegion_notice (tag : Byte) (i : Fin 128) (img : Region) (d : DisplayNo) :
    s.Takes (noticeTile d) Tile.Kept (s.landRegion tag i img) := by
  by_cases passes : (s.comp.withRegion i img).writePasses (regionLayout i) = true
  · rw [s.landRegion_of_passes passes]
    exact .after_kept (s.setComp_kept _ _) (State.tilesAfterWrite_notice _ _ _ _ _ d)
  · rw [s.landRegion_of_fails passes]
    exact .of_fmt rfl

/-! ### Directives that write no LAYOUT or REGION entry (R153, R154, R168, R169) -/

/-- The tile ranges of two selected layouts share no tile (R153). -/
def Compositor.RangesApart (c : Compositor) : Prop :=
  ∀ l m : LayoutNo, l ≠ m → c.selected l = true → c.selected m = true → c.rangesMeet l m = false

/-- The formatter and the layout and region records stay, and the ranges of selected layouts stay apart. -/
structure State.LandsPlain (s t : State) : Prop where
  fmt   : t.fmt = s.fmt
  same  : s.comp.SameLayouts t.comp
  apart : s.comp.RangesApart → t.comp.RangesApart

namespace State.LandsPlain

variable {s t u : State}

theorem of_same (fmt : t.fmt = s.fmt) (same : s.comp.SameLayouts t.comp)
    (layouts : ∀ d, (t.display d).layout = (s.display d).layout) : s.LandsPlain t where
  fmt := fmt
  same := same
  apart h l m other left right := by
    have selected : ∀ k, t.comp.selected k = true → s.comp.selected k = true := fun k => by
      rw [Compositor.selected_iff, Compositor.selected_iff]
      rintro ⟨d, rfl⟩
      exact ⟨d, (layouts d).symm⟩
    rw [same.rangesMeet]
    exact h l m other (selected l left) (selected m right)

theorem refl (s : State) : s.LandsPlain s := of_same rfl ⟨rfl, rfl⟩ fun _ => rfl

theorem trans (h : s.LandsPlain t) (k : t.LandsPlain u) : s.LandsPlain u :=
  ⟨k.fmt.trans h.fmt, ⟨k.same.1.trans h.same.1, k.same.2.trans h.same.2⟩, k.apart ∘ h.apart⟩

theorem foldl {α : Type} {f : State → α → State} (h : ∀ s a, State.LandsPlain s (f s a)) (as : List α) (s : State) :
    s.LandsPlain (as.foldl f s) := List.foldlRecOn as f (refl s) fun t k a _ => k.trans (h t a)

end State.LandsPlain

theorem State.setDisplay_plain (d : DisplayNo) {x : Display} (layout : x.layout = (s.display d).layout) :
    s.LandsPlain (s.setDisplay d x) := .of_same rfl ⟨rfl, rfl⟩ fun e => by
  rw [State.display_setDisplay]
  split
  · next here => rw [here, layout]
  · rfl

theorem Compositor.rangesMeet_comm {c : Compositor} {l m : LayoutNo} (free : c.rangesMeet l m = false) :
    c.rangesMeet m l = false := by
  rw [← Bool.not_eq_true, Compositor.rangesMeet_iff] at free ⊢
  rintro ⟨u, left, right⟩
  exact free ⟨u, right, left⟩

/-- A selection that passes keeps the ranges of selected layouts apart (R154). -/
theorem State.selectAt_plain (tag : Byte) (l : LayoutNo) (d : DisplayNo) : s.LandsPlain (s.selectAt tag l d) := by
  unfold State.selectAt
  split
  · exact .of_same rfl ⟨rfl, rfl⟩ fun _ => rfl
  · next free =>
    have unmet : ∀ e, e ≠ d → (s.display e).layout ≠ l → s.comp.rangesMeet l (s.display e).layout = false :=
      fun e other elsewhere => by
        rw [Compositor.selectionMeets, List.any_eq_true] at free
        by_contra meets
        refine free ⟨e, List.mem_finRange e, ?_⟩
        rw [Bool.and_eq_true, Bool.and_eq_true, bne_iff_ne, bne_iff_ne]
        exact ⟨⟨other, elsewhere⟩, Bool.eq_true_of_not_eq_false meets⟩
    have same : s.comp.SameLayouts (s.setDisplay d { s.display d with layout := l }).comp := ⟨rfl, rfl⟩
    have selected : ∀ k, (s.setDisplay d { s.display d with layout := l }).comp.selected k = true →
        k = l ∨ ∃ e, e ≠ d ∧ (s.display e).layout = k := fun k chosen => by
      obtain ⟨e, here⟩ := (Compositor.selected_iff _ k).mp chosen
      have display := s.display_setDisplay d e { s.display d with layout := l }
      rw [State.display] at display
      rw [display] at here
      split at here
      · exact .inl here.symm
      · next other => exact .inr ⟨e, other, here⟩
    refine ⟨rfl, same, fun apart k m other left right => ?_⟩
    rw [same.rangesMeet]
    obtain rfl | ⟨e, otherE, rfl⟩ := selected k left
    · obtain rfl | ⟨f, otherF, rfl⟩ := selected m right
      · exact absurd rfl other
      · exact unmet f otherF (Ne.symm other)
    · obtain rfl | ⟨f, otherF, rfl⟩ := selected m right
      · exact Compositor.rangesMeet_comm (unmet e otherE other)
      · exact apart _ _ other ((Compositor.selected_iff _ _).mpr ⟨e, rfl⟩) ((Compositor.selected_iff _ _).mpr ⟨f, rfl⟩)

theorem Display.takeMode_layout (x : Display) (m : DisplayMode) : (x.takeMode m).layout = x.layout := by
  unfold Display.takeMode
  split <;> rfl

theorem Landing.land_plain (p : Landing) {x : Staged} (plain : x.writesLayout = false) :
    p.state.LandsPlain (p.land x).state := by
  unfold Landing.land
  dsimp only
  split
  · exact .foldl (fun s d => s.setDisplay_plain d (Display.takeMode_layout _ _)) _ _
  · exact .foldl (fun s d => s.selectAt_plain _ _ d) _ _
  · refine .foldl (fun s d => ?_) _ _
    exact s.setDisplay_plain d rfl
  · refine .foldl (fun s d => ?_) _ _
    exact s.setDisplay_plain d rfl
  · next body => simp [Staged.writesLayout, body] at plain
  · next body => simp [Staged.writesLayout, body] at plain
  · exact .of_same rfl ⟨rfl, rfl⟩ fun _ => rfl
  · exact .of_same rfl ⟨rfl, rfl⟩ fun _ => rfl

theorem Landing.land_notice (p : Landing) (x : Staged) (d : DisplayNo) :
    p.state.Takes (noticeTile d) Tile.Kept (p.land x).state := by
  cases plain : x.writesLayout with
  | false => exact .of_fmt (p.land_plain plain).fmt
  | true =>
    unfold Landing.land
    dsimp only
    split
    · next body => simp [Staged.writesLayout, body] at plain
    · next body => simp [Staged.writesLayout, body] at plain
    · next body => simp [Staged.writesLayout, body] at plain
    · next body => simp [Staged.writesLayout, body] at plain
    · rw [Landing.freshIf_state]; exact p.state.landLayout_notice _ _ _ d
    · rw [Landing.freshIf_state]; exact p.state.landRegion_notice _ _ _ d
    · next body => simp [Staged.writesLayout, body] at plain
    · next body => simp [Staged.writesLayout, body] at plain

theorem Display.settled_layout (x : Display) (n : Option Notice) (w : Bool) : (x.settled n w).layout = x.layout := by
  unfold Display.settled Display.settleTakeover
  cases n <;> dsimp only <;> split <;> rfl

theorem State.settleModes_layout (d : DisplayNo) : (s.settleModes.display d).layout = (s.display d).layout := by
  rw [State.settleModes_display, Display.settled_layout]

/-- Modes that settle keep the layouts of the displays and every record of layouts and regions (R170). -/
theorem State.settleModes_plain : s.LandsPlain s.settleModes := by
  have same : ∀ (t : State) (d : DisplayNo), t.comp.SameLayouts (t.settleMode d).comp := fun t d => by
    unfold State.settleMode
    dsimp only
    split <;> exact ⟨rfl, rfl⟩
  refine .of_same s.settleModes_fmt ?_ s.settleModes_layout
  exact List.foldlRecOn (motive := fun t : State => s.comp.SameLayouts t.comp) (List.finRange 12) State.settleMode ⟨rfl, rfl⟩
    fun t k d _ => ⟨(same t d).1.trans k.1, (same t d).2.trans k.2⟩

theorem State.modesSettled_of_landed : s.landStaged.state.LandsPlain s.modesSettled :=
  (State.LandsPlain.of_same (s := s.landStaged.state) (t := s.landStaged.state.latchColours) rfl ⟨rfl, rfl⟩ fun _ => rfl).trans
    (State.settleModes_plain _)

theorem State.modesSettled_plain (plain : ∀ z ∈ s.dir.handed, z.writesLayout = false) : s.LandsPlain s.modesSettled := by
  refine .trans (t := s.landStaged.state) ?_ s.modesSettled_of_landed
  exact List.foldlRecOn (motive := fun p : Landing => s.LandsPlain p.state) s.dir.handed Landing.land
    (.of_same rfl ⟨rfl, rfl⟩ fun _ => rfl) fun p k z mem => k.trans (p.land_plain (plain z mem))

theorem State.recount_notice (d : DisplayNo) : s.Takes (noticeTile d) Tile.Kept s.modesSettled.recountLayouts := by
  have landed : s.Takes (noticeTile d) Tile.Kept s.landStaged.state :=
    List.foldlRecOn (motive := fun p : Landing => s.Takes (noticeTile d) Tile.Kept p.state) s.dir.handed Landing.land
      (.of_fmt rfl) fun p k x _ => k.then_kept (p.land_notice x d)
  exact (landed.then_kept (.of_fmt s.modesSettled_fmt)).then_kept
    (State.recountLayouts_apart _ fun l _ => Compositor.inRange_notice _ l d)

end

end Sys2Proof.Machine
end

section
/-! SUPPORT. Step 5 of the output frame start at the notice tiles (R171). -/

namespace Sys2Proof.Machine

/-! ### What step 5 keeps (R171) -/

/-- The layout and region records, the layouts in use, and what a display change reads of every display are the same. -/
structure State.KeepsFaces (s t : State) : Prop where
  same  : s.comp.SameLayouts t.comp
  inUse : t.comp.inUse = s.comp.inUse
  faces : ∀ d, (t.display d).mode = (s.display d).mode ∧ (t.display d).layout = (s.display d).layout ∧
    (t.display d).takeover = (s.display d).takeover

namespace State.KeepsFaces

variable {s t u : State}

theorem refl (s : State) : s.KeepsFaces s := ⟨⟨rfl, rfl⟩, rfl, fun _ => ⟨rfl, rfl, rfl⟩⟩

theorem trans (h : s.KeepsFaces t) (k : t.KeepsFaces u) : s.KeepsFaces u where
  same := ⟨k.same.1.trans h.same.1, k.same.2.trans h.same.2⟩
  inUse := k.inUse.trans h.inUse
  faces d :=
    let ⟨mode, layout, takeover⟩ := h.faces d
    let ⟨mode', layout', takeover'⟩ := k.faces d
    ⟨mode'.trans mode, layout'.trans layout, takeover'.trans takeover⟩

theorem of_screens (screens : s.KeepsScreens t) (same : s.comp.SameLayouts t.comp) (inUse : t.comp.inUse = s.comp.inUse) :
    s.KeepsFaces t := ⟨same, inUse, fun d => by simp [State.display, screens.displays]⟩

theorem of_comp (h : t.comp = s.comp) : s.KeepsFaces t := by
  refine ⟨?_, by rw [h], fun d => by simp [State.display, h]⟩
  rw [h]
  exact ⟨rfl, rfl⟩

theorem needsTile (h : s.KeepsFaces t) (d : DisplayNo) : t.comp.needsTile d = s.comp.needsTile d := by
  obtain ⟨mode, layout, _⟩ := h.faces d
  simp only [State.display] at mode layout
  have ticker : ∀ l, t.comp.tickerRegion l = s.comp.tickerRegion l := fun l => by
    unfold Compositor.tickerRegion Compositor.acts Compositor.region
    rw [h.same.1, h.same.2]
  unfold Compositor.needsTile
  rw [mode, layout, ticker]

theorem changedFrom (h : s.KeepsFaces t) (d : DisplayNo) (old : Display) :
    (t.display d).changedFrom old = (s.display d).changedFrom old := by
  obtain ⟨mode, layout, takeover⟩ := h.faces d
  unfold Display.changedFrom
  rw [mode, layout, takeover]

end State.KeepsFaces

/-- A display needs its notice tile in TAKEOVER, in ATTRACT, and LIVE with a region that acts as a TICKER (R171). -/
theorem Compositor.needsTile_iff (c : Compositor) (d : DisplayNo) : c.needsTile d = true ↔
    (c.displays.read d).mode = .takeover ∨ (c.displays.read d).mode = .attract ∨
    ((c.displays.read d).mode = .live ∧ ∃ r, c.ActsAsTicker (c.displays.read d).layout r) := by
  have ticker : (c.tickerRegion (c.displays.read d).layout).isSome = true ↔
      ∃ r, c.ActsAsTicker (c.displays.read d).layout r := by
    simp [Compositor.tickerRegion, List.find?_isSome, Compositor.acts, Compositor.ActsAsTicker]
  unfold Compositor.needsTile
  cases mode : (c.displays.read d).mode with
  | live => simpa using ticker
  | takeover => simp
  | attract => simp
  | dark => simp

section
variable (s : State) (fresh : BitVec 16) (old : Table Display 12)

/-- The record of the notice tiles needed, with one display's settled (R171). -/
def Compositor.neededAfter (c : Compositor) (d : DisplayNo) : DisplaySet :=
  if c.needsTile d then c.tileNeeded ||| BitVec.twoPow 12 d.val else c.tileNeeded &&& ~~~(BitVec.twoPow 12 d.val)

/-- The record of the notice tiles needed, taken for one display (R171). -/
def State.takeNeeded (d : DisplayNo) : State := s.setComp { s.comp with tileNeeded := s.comp.neededAfter d }

theorem Compositor.neededAfter_getLsbD (c : Compositor) (d e : DisplayNo) : (c.neededAfter d).getLsbD e.val =
    if e = d then c.needsTile d else c.tileNeeded.getLsbD e.val := by
  have same : e.val = d.val ↔ e = d := Fin.val_inj
  unfold Compositor.neededAfter
  cases needs : c.needsTile d <;> by_cases here : e = d <;> simp [here, same]

theorem State.settleTile_of_enters {d : DisplayNo} (needs : s.comp.needsTile d = true)
    (former : s.comp.tileNeeded.getLsbD d.val = false) :
    s.settleTile d = (s.takeNeeded d).bindTile (noticeTile d) none := by
  refine if_pos ?_
  rw [Compositor.bindsNotice, Compositor.neededTile, needs, former]
  rfl

theorem State.settleTile_of_leaves {d : DisplayNo} (needs : s.comp.needsTile d = false)
    (former : s.comp.tileNeeded.getLsbD d.val = true) :
    s.settleTile d = (s.takeNeeded d).releaseTile (noticeTile d) := by
  have binds : ¬ s.comp.bindsNotice d = true := by simp [Compositor.bindsNotice, needs]
  refine (if_neg binds).trans (if_pos ?_)
  rw [Compositor.neededTile, needs, former]
  rfl

theorem State.settleTile_of_same {d : DisplayNo} (same : s.comp.needsTile d = s.comp.tileNeeded.getLsbD d.val) :
    s.settleTile d = s.takeNeeded d := by
  have binds : ¬ s.comp.bindsNotice d = true := by simp [Compositor.bindsNotice, Compositor.neededTile, same]
  refine (if_neg binds).trans (if_neg ?_)
  simp [Compositor.neededTile, same]

/-- The three ways of action 1 of step 5 (R171). -/
theorem State.settleTile_cases (d : DisplayNo) :
    (s.comp.needsTile d = true ∧ s.comp.tileNeeded.getLsbD d.val = false ∧
      s.settleTile d = (s.takeNeeded d).bindTile (noticeTile d) none) ∨
    (s.comp.needsTile d = false ∧ s.comp.tileNeeded.getLsbD d.val = true ∧
      s.settleTile d = (s.takeNeeded d).releaseTile (noticeTile d)) ∨
    (s.comp.needsTile d = s.comp.tileNeeded.getLsbD d.val ∧ s.settleTile d = s.takeNeeded d) := by
  cases needs : s.comp.needsTile d with
  | true =>
    cases former : s.comp.tileNeeded.getLsbD d.val with
    | true => exact .inr (.inr ⟨rfl, s.settleTile_of_same (needs.trans former.symm)⟩)
    | false => exact .inl ⟨rfl, rfl, s.settleTile_of_enters needs former⟩
  | false =>
    cases former : s.comp.tileNeeded.getLsbD d.val with
    | true => exact .inr (.inl ⟨rfl, rfl, s.settleTile_of_leaves needs former⟩)
    | false => exact .inr (.inr ⟨rfl, s.settleTile_of_same (needs.trans former.symm)⟩)

theorem State.settleTile_comp (d : DisplayNo) :
    (s.settleTile d).comp = { s.comp with tileNeeded := s.comp.neededAfter d } := by
  obtain ⟨_, _, is⟩ | ⟨_, _, is⟩ | ⟨_, is⟩ := s.settleTile_cases d
  · rw [is, State.bindTile_comp]; rfl
  · rw [is, State.releaseTile_comp]; rfl
  · rw [is]; rfl

theorem State.settleTicker_comp (d : DisplayNo) :
    (s.settleTicker fresh d).comp = { s.comp with tickers := (s.settleTicker fresh d).comp.tickers } := by
  have marked : ∀ k : Ticker, ((s.setTicker d k).tickerStepMark d).comp =
      { s.comp with tickers := ((s.setTicker d k).tickerStepMark d).comp.tickers } := fun k => by
    unfold State.tickerStepMark
    rw [(State.markTile_leaves (s.setTicker d k) (noticeTile d)).blocks.comp (by simp)]
    rfl
  unfold State.settleTicker
  dsimp only
  split
  · split
    · exact marked _
    · rfl
  · rfl

theorem State.settleChange_comp (x : Display) (bound : Bool) (d : DisplayNo) : (s.settleChange x bound d).comp = s.comp := by
  unfold State.settleChange
  split
  · exact (s.markTile_leaves _).blocks.comp (by simp)
  · rfl

theorem State.settleBanner_keepsFaces (d : DisplayNo) : s.KeepsFaces (s.settleBanner d) :=
  ⟨⟨rfl, rfl⟩, rfl, fun e => by
    rw [State.settleBanner, State.display_setDisplay]
    split
    · next same => exact same ▸ ⟨rfl, rfl, rfl⟩
    · exact ⟨rfl, rfl, rfl⟩⟩

theorem State.settleTile_keepsFaces (d : DisplayNo) : s.KeepsFaces (s.settleTile d) := by
  have comp := s.settleTile_comp d
  exact .of_screens (s.settleTile_keepsScreens d) ⟨by rw [comp], by rw [comp]⟩ (by rw [comp])

theorem State.settleTicker_keepsFaces (d : DisplayNo) : s.KeepsFaces (s.settleTicker fresh d) := by
  have comp := s.settleTicker_comp fresh d
  exact .of_screens (s.settleTicker_keepsScreens fresh d) ⟨by rw [comp], by rw [comp]⟩ (by rw [comp])

/-- The state of step 5 at one display before action 4 (R171). -/
def State.bannerSettled (d : DisplayNo) : State := ((s.settleTile d).settleTicker fresh d).settleBanner d

theorem State.settleNotice_eq (d : DisplayNo) : s.settleNotice fresh old d =
    (s.bannerSettled fresh d).settleChange (old.read d) (s.comp.bindsNotice d) d := rfl

theorem State.bannerSettled_keepsFaces (d : DisplayNo) : s.KeepsFaces (s.bannerSettled fresh d) :=
  ((s.settleTile_keepsFaces d).trans (State.settleTicker_keepsFaces _ fresh d)).trans (State.settleBanner_keepsFaces _ d)

theorem State.settleNotice_keepsFaces (d : DisplayNo) : s.KeepsFaces (s.settleNotice fresh old d) :=
  (s.bannerSettled_keepsFaces fresh d).trans (.of_comp (State.settleChange_comp _ _ _ d))

theorem State.settleNotice_needed (d : DisplayNo) :
    (s.settleNotice fresh old d).comp.tileNeeded = s.comp.neededAfter d := by
  have tile := s.settleTile_comp d
  have ticker := (s.settleTile d).settleTicker_comp fresh d
  rw [State.settleNotice_eq, State.settleChange_comp]
  show ((s.settleTile d).settleTicker fresh d).comp.tileNeeded = _
  rw [ticker, tile]

/-! ### A notice tile of another display, and every layout tile -/

theorem State.settleNotice_apart {u : TileNo} {d : DisplayNo} (other : u ≠ noticeTile d) :
    s.Takes u Tile.Kept (s.settleNotice fresh old d) := by
  have tile : s.Takes u Tile.Kept (s.settleTile d) := by
    obtain ⟨_, _, is⟩ | ⟨_, _, is⟩ | ⟨_, is⟩ := s.settleTile_cases d
    · rw [is]; exact .after_kept (s.setComp_kept _ u) (State.bindTile_apart _ other _)
    · rw [is]; exact .after_kept (s.setComp_kept _ u) (State.releaseTile_apart _ other)
    · rw [is]; exact s.setComp_kept _ u
  have ticker : ∀ t : State, t.Takes u Tile.Kept (t.settleTicker fresh d) := fun t => by
    unfold State.settleTicker
    dsimp only
    split
    · exact .ite (.after_kept (.of_fmt (t := t.setTicker d _) rfl) (State.markTile_apart _ other)) (.refl t u)
    · exact .of_fmt rfl
  have change : ∀ t : State, t.Takes u Tile.Kept (t.settleChange (old.read d) (s.comp.bindsNotice d) d) := fun t =>
    .ite (t.markTile_apart other) (.refl t u)
  have banner : s.Takes u Tile.Kept (s.bannerSettled fresh d) := (tile.then_kept (ticker _)).then_kept (.of_fmt rfl)
  rw [State.settleNotice_eq]
  exact banner.then_kept (change _)

theorem noticeTile_inj {d e : DisplayNo} (same : noticeTile d = noticeTile e) : d = e := by
  have vals := congrArg Fin.val same
  simp only [noticeTile] at vals
  exact Fin.ext (by omega)

theorem ne_noticeTile {u : TileNo} (low : u.val < 148) (d : DisplayNo) : u ≠ noticeTile d := fun same => by
  rw [same] at low
  simp only [noticeTile] at low
  omega

theorem State.settleNotices_apart {u : TileNo} (low : u.val < 148) :
    s.Takes u Tile.Kept ((List.finRange 12).foldl (State.settleNotice fresh old) s) :=
  .foldl_kept (fun _ => True) (fun _ _ => id)
    (fun t _ d _ => t.settleNotice_apart fresh old (ne_noticeTile low d)) s trivial

theorem State.settleNotices_keepsFaces (ds : List DisplayNo) : s.KeepsFaces (ds.foldl (State.settleNotice fresh old) s) :=
  List.foldlRecOn (motive := s.KeepsFaces) ds _ (.refl s) fun t k d _ => k.trans (t.settleNotice_keepsFaces fresh old d)

/-- Step 5 at displays other than d, for the notice tile of d. -/
structure State.SettledApart (d : DisplayNo) (t : State) : Prop where
  faces  : s.KeepsFaces t
  needed : t.comp.tileNeeded.getLsbD d.val = s.comp.tileNeeded.getLsbD d.val
  tile   : s.Takes (noticeTile d) Tile.Kept t

theorem State.settleNotices_others {d : DisplayNo} {ds : List DisplayNo} (out : d ∉ ds) :
    s.SettledApart d (ds.foldl (State.settleNotice fresh old) s) := by
  refine List.foldlRecOn (motive := s.SettledApart d) ds _ ⟨.refl s, rfl, .refl s _⟩ fun t k e mem => ?_
  have other : d ≠ e := fun same => out (same ▸ mem)
  refine ⟨k.faces.trans (t.settleNotice_keepsFaces fresh old e), ?_,
    k.tile.then_kept (t.settleNotice_apart fresh old fun same => other (noticeTile_inj same))⟩
  rw [State.settleNotice_needed, Compositor.neededAfter_getLsbD, if_neg other, k.needed]

/-! ### The notice tile of a display at its own turn -/

/-- What dirty marks alone make of a tile. -/
def Tile.PerhapsMarked (x y : Tile) : Prop := (y = x ∨ x.Marked y) ∧ (y.ready = true → x.ready = true)

theorem State.MarksOnly.takes {s t : State} (h : s.MarksOnly t) (u : TileNo) : s.Takes u Tile.PerhapsMarked t :=
  ⟨h.coherent, fun c => ⟨h.tiles c u, fun on => (h.ready u on).1⟩⟩

theorem Tile.Entered.perhapsMarked {x y z : Tile} (h : x.Entered y) (k : y.PerhapsMarked z) : x.Entered z := by
  obtain ⟨rfl | marked, _⟩ := k
  · exact h
  · exact h.marked marked

/-- A released tile that a mark reaches stays released (R130; log 44). -/
theorem Tile.Left.perhapsMarked {x y z : Tile} (h : x.Left y) (k : y.PerhapsMarked z) : x.Left z := by
  obtain ⟨unready, flight, still⟩ := h
  obtain ⟨marks, ready⟩ := k
  refine ⟨by simpa [unready] using ready, fun renders => ?_, fun other => ?_⟩
  · obtain ⟨renders', released⟩ := flight renders
    obtain rfl | marked := marks
    · exact ⟨renders', released⟩
    · obtain ⟨renders'', _, same⟩ := marked.flight renders'
      exact ⟨renders'', same.trans released⟩
  · obtain rfl | marked := marks
    · exact still other
    · rw [marked.idle (still other)]; exact still other

/-- Actions 2 to 4 of step 5 reach the tiles by dirty marks alone (R171). -/
theorem State.settleNotice_marksOnly (d : DisplayNo) : (s.settleTile d).MarksOnly (s.settleNotice fresh old d) := by
  have banner : (s.settleTile d).MarksOnly (s.bannerSettled fresh d) :=
    .then_fmt (State.settleTicker_marksOnly (s.settleTile d) fresh d) rfl
  rw [State.settleNotice_eq]
  exact banner.trans (State.settleChange_marksOnly _ _ _ d)

theorem State.settleNotice_enters {d : DisplayNo} (needs : s.comp.needsTile d = true)
    (former : s.comp.tileNeeded.getLsbD d.val = false) :
    s.Takes (noticeTile d) Tile.Entered (s.settleNotice fresh old d) := by
  have bound : s.Takes (noticeTile d) Tile.Entered (s.settleTile d) := by
    rw [s.settleTile_of_enters needs former]
    exact .after_kept (s.setComp_kept _ _) ((State.bindTile_takes _ _ none).mono fun _ _ bound => bound.entered)
  exact bound.trans ((s.settleNotice_marksOnly fresh old d).takes _) fun _ _ _ => Tile.Entered.perhapsMarked

theorem State.settleNotice_leaves {d : DisplayNo} (needs : s.comp.needsTile d = false)
    (former : s.comp.tileNeeded.getLsbD d.val = true) :
    s.Takes (noticeTile d) Tile.Left (s.settleNotice fresh old d) := by
  have freed : s.Takes (noticeTile d) Tile.Left (s.settleTile d) := by
    rw [s.settleTile_of_leaves needs former]
    exact .after_kept (s.setComp_kept _ _) ((State.releaseTile_takes _ _).mono fun x y frees => by
      rw [show y = x.free from frees]
      exact x.free_left)
  exact freed.trans ((s.settleNotice_marksOnly fresh old d).takes _) fun _ _ _ => Tile.Left.perhapsMarked

/-- A display change marks the notice tile that stays needed (R134, R171). -/
theorem State.settleNotice_changes {d : DisplayNo} (needs : s.comp.needsTile d = true)
    (former : s.comp.tileNeeded.getLsbD d.val = true) (changed : (s.display d).changedFrom (old.read d) = true) :
    s.Takes (noticeTile d) Tile.Marked (s.settleNotice fresh old d) := by
  have binds : s.comp.bindsNotice d = false := by simp [Compositor.bindsNotice, Compositor.neededTile, former]
  have faces := (s.bannerSettled_keepsFaces fresh d).changedFrom d (old.read d)
  have before : s.MarksOnly (s.bannerSettled fresh d) := by
    unfold State.bannerSettled
    rw [s.settleTile_of_same (needs.trans former.symm)]
    exact .then_fmt (.after_fmt (State.settleTicker_marksOnly _ fresh d)) rfl
  have marks : s.settleNotice fresh old d = (s.bannerSettled fresh d).markTiles fun v => decide (v = noticeTile d) := by
    rw [State.settleNotice_eq, State.settleChange, faces, changed, binds, ← State.markTile_eq_markTiles]
    rfl
  refine ⟨fun h => (s.settleNotice_marksOnly fresh old d).coherent ?_, fun h => ?_⟩
  · rw [s.settleTile_of_same (needs.trans former.symm)]
    exact h
  · rw [marks]
    exact State.MarksOnly.reaches h before (.refl _) fun _ => decide_eq_true rfl

end

end Sys2Proof.Machine
end

section
/-! SUPPORT. The tiles and the notice tiles through the whole handling of an output frame start (R129, R130, R139, R152 to R156,
R167, R171). -/

namespace Sys2Proof.Machine

section
variable (s : State)

/-! ### Notice tiles (R171) -/

/-- The turn of a display in step 5: nothing before it and nothing after it reaches its notice tile. -/
theorem State.compositorStart_turn (d : DisplayNo) : ∃ v : State, s.Takes (noticeTile d) Tile.Kept v ∧
    v.comp.tileNeeded.getLsbD d.val = s.comp.tileNeeded.getLsbD d.val ∧
    (v.settleNotice s.landStaged.fresh s.comp.displays d).SettledApart d s.compositorStart := by
  obtain ⟨before, after, split⟩ := List.append_of_mem (List.mem_finRange d)
  have once := List.nodup_finRange 12
  rw [split] at once
  have outBefore : d ∉ before := fun mem => (List.nodup_append.mp once).2.2 d mem d List.mem_cons_self rfl
  have outAfter : d ∉ after := (List.nodup_cons.mp (List.nodup_append.mp once).2.1).1
  have first := s.modesSettled.recountLayouts.settleNotices_others s.landStaged.fresh s.comp.displays outBefore
  refine ⟨_, (s.recount_notice d).then_kept first.tile, ?_, ?_⟩
  · rw [first.needed, State.recountLayouts_needed, s.modesSettled_keepsUse.needed]
  · rw [State.compositorStart_eq, split, List.foldl_append, List.foldl_cons]
    exact State.settleNotices_others _ _ _ outAfter

theorem State.compositorStart_needed (d : DisplayNo) :
    s.compositorStart.comp.tileNeeded.getLsbD d.val = s.compositorStart.comp.needsTile d := by
  obtain ⟨v, _, _, last⟩ := s.compositorStart_turn d
  rw [last.needed, last.faces.needsTile, (v.settleNotice_keepsFaces _ _ d).needsTile, State.settleNotice_needed,
    Compositor.neededAfter_getLsbD, if_pos rfl]

variable {s} {d : DisplayNo}

theorem State.compositorStart_enters (needs : s.compositorStart.comp.needsTile d = true)
    (former : s.comp.tileNeeded.getLsbD d.val = false) :
    s.Takes (noticeTile d) Tile.Entered s.compositorStart := by
  obtain ⟨v, first, same, last⟩ := s.compositorStart_turn d
  rw [last.faces.needsTile, (v.settleNotice_keepsFaces _ _ d).needsTile] at needs
  exact .after_kept first (.then_kept (v.settleNotice_enters _ _ needs (same.trans former)) last.tile)

theorem State.compositorStart_leaves (needs : s.compositorStart.comp.needsTile d = false)
    (former : s.comp.tileNeeded.getLsbD d.val = true) :
    s.Takes (noticeTile d) Tile.Left s.compositorStart := by
  obtain ⟨v, first, same, last⟩ := s.compositorStart_turn d
  rw [last.faces.needsTile, (v.settleNotice_keepsFaces _ _ d).needsTile] at needs
  exact .after_kept first (.then_kept (v.settleNotice_leaves _ _ needs (same.trans former)) last.tile)

theorem State.compositorStart_changes (needs : s.compositorStart.comp.needsTile d = true)
    (former : s.comp.tileNeeded.getLsbD d.val = true)
    (changed : (s.compositorStart.display d).changedFrom (s.display d) = true) :
    s.Takes (noticeTile d) Tile.Marked s.compositorStart := by
  obtain ⟨v, first, same, last⟩ := s.compositorStart_turn d
  rw [last.faces.needsTile, (v.settleNotice_keepsFaces _ _ d).needsTile] at needs
  rw [last.faces.changedFrom, (v.settleNotice_keepsFaces _ _ d).changedFrom] at changed
  exact .after_kept first (.then_kept (v.settleNotice_changes _ _ needs (same.trans former) changed) last.tile)

/-! ### Layout tiles where no LAYOUT or REGION write lands (R155) -/

theorem State.compositorStart_inUse (l : LayoutNo) :
    s.compositorStart.comp.inUse.read l = s.modesSettled.comp.users l := by
  rw [State.compositorStart_eq, (State.settleNotices_keepsFaces _ _ _ _).inUse, State.recountLayouts_inUse]

/-- A layout tile goes as the recount and what comes before it say. -/
theorem State.compositorStart_takes {u : TileNo} (low : u.val < 148) {own : Tile → Tile → Prop}
    (takes : s.Takes u own s.modesSettled.recountLayouts) : s.Takes u own s.compositorStart := by
  rw [State.compositorStart_eq]
  exact takes.then_kept (State.settleNotices_apart _ _ _ low)

theorem State.enters_iff (l : LayoutNo) : s.modesSettled.comp.enters l = true ↔
    s.comp.inUse.read l = 0 ∧ 0 < s.compositorStart.comp.inUse.read l := by
  rw [Compositor.enters, Bool.and_eq_true, beq_iff_eq, decide_eq_true_iff, s.modesSettled_keepsUse.inUse,
    State.compositorStart_inUse]

theorem State.leaves_iff (l : LayoutNo) : s.modesSettled.comp.leaves l = true ↔
    0 < s.comp.inUse.read l ∧ s.compositorStart.comp.inUse.read l = 0 := by
  rw [Compositor.leaves, Bool.and_eq_true, beq_iff_eq, decide_eq_true_iff, s.modesSettled_keepsUse.inUse,
    State.compositorStart_inUse]

theorem Compositor.selected_of_users {c : Compositor} {l : LayoutNo} (used : 0 < c.users l) : c.selected l = true := by
  obtain ⟨d, mem⟩ := List.exists_mem_of_length_pos used
  rw [Compositor.selected_iff]
  exact ⟨d, by simpa using (List.mem_filter.mp mem).2⟩

section
variable (plain : ∀ z ∈ s.dir.handed, z.writesLayout = false) {u : TileNo}
include plain

/-- Two layouts that enter use share no tile (R154). -/
theorem State.enters_alone (apart : s.comp.RangesApart) {l m : LayoutNo} (left : s.modesSettled.comp.enters l = true)
    (right : s.modesSettled.comp.enters m = true) (inLeft : s.modesSettled.comp.inRange l u = true)
    (inRight : s.modesSettled.comp.inRange m u = true) : m = l := by
  by_contra other
  have users : ∀ k, s.modesSettled.comp.enters k = true → s.modesSettled.comp.selected k = true := fun k enters => by
    rw [Compositor.enters, Bool.and_eq_true, decide_eq_true_iff] at enters
    exact Compositor.selected_of_users enters.2
  have free := (s.modesSettled_plain plain).apart apart m l other (users m right) (users l left)
  rw [(Compositor.rangesMeet_iff _ m l).mpr ⟨u, inRight, inLeft⟩] at free
  cases free

theorem State.compositorStart_layoutEnters (apart : s.comp.RangesApart) (low : u.val < 148) {l : LayoutNo}
    (unused : s.comp.inUse.read l = 0) (used : 0 < s.compositorStart.comp.inUse.read l)
    (within : s.comp.inRange l u = true) :
    s.Takes u (fun x => x.Bound (s.comp.bindingAt l u)) s.compositorStart := by
  have lands := s.modesSettled_plain plain
  have enters := (s.enters_iff l).mpr ⟨unused, used⟩
  have inside : s.modesSettled.comp.inRange l u = true := by rw [lands.same.inRange, within]
  have bound := s.modesSettled.recountLayouts_enters enters inside
    fun m enters' inside' => s.enters_alone plain apart enters enters' inside inside'
  rw [lands.same.bindingAt] at bound
  exact s.compositorStart_takes low (.after_kept (.of_fmt lands.fmt) bound)

theorem State.compositorStart_layoutLeaves (low : u.val < 148) {l : LayoutNo}
    (used : 0 < s.comp.inUse.read l) (unused : s.compositorStart.comp.inUse.read l = 0)
    (within : s.comp.inRange l u = true)
    (out : ∀ m, s.comp.inUse.read m = 0 ∧ 0 < s.compositorStart.comp.inUse.read m → s.comp.inRange m u = false) :
    s.Takes u Tile.Frees s.compositorStart := by
  have lands := s.modesSettled_plain plain
  refine s.compositorStart_takes low (.after_kept (.of_fmt lands.fmt)
    (s.modesSettled.recountLayouts_leaves ((s.leaves_iff l).mpr ⟨used, unused⟩) ?_ fun m enters => ?_))
  · rw [lands.same.inRange, within]
  · rw [lands.same.inRange, out m ((s.enters_iff m).mp enters)]

theorem State.compositorStart_layoutStays (low : u.val < 148)
    (out : ∀ l, (s.comp.inUse.read l = 0 ∧ 0 < s.compositorStart.comp.inUse.read l) ∨
      (0 < s.comp.inUse.read l ∧ s.compositorStart.comp.inUse.read l = 0) → s.comp.inRange l u = false) :
    s.Takes u Tile.Kept s.compositorStart := by
  have lands := s.modesSettled_plain plain
  refine s.compositorStart_takes low (.after_kept (.of_fmt lands.fmt) (s.modesSettled.recountLayouts_apart fun l moves => ?_))
  rw [lands.same.inRange]
  exact out l (moves.symm.imp (s.enters_iff l).mp (s.leaves_iff l).mp)

end

/-! ### Layout tiles where one LAYOUT or REGION write lands (R156) -/

section
variable {z : Staged} {l : LayoutNo} {v : Compositor} {rewritten rebound : RegionNo → Bool}

/-- A LAYOUT or REGION write alone that lands at a layout in use, with the compositor's records as it leaves them and the
regions whose tiles it binds again (R153, R156). -/
structure State.WritesAlone (s : State) (l : LayoutNo) (v : Compositor) (rewritten rebound : RegionNo → Bool) : Prop where
  landed : s.landStaged.state = (s.takeHanded.setComp v).tilesAfterWrite s.comp l rewritten rebound
  shown  : v.displays = s.comp.displays
  used   : 0 < s.comp.inUse.read l
  agrees : ∀ m, s.comp.inUse.read m = s.comp.users m

theorem State.WritesAlone.layout {img : Layout} (handed : s.dir.handed = [z]) (body : z.body = .writeLayout l img)
    (passes : (s.comp.withLayout l img).writePasses l = true) (used : 0 < s.comp.inUse.read l)
    (agrees : ∀ m, s.comp.inUse.read m = s.comp.users m) :
    s.WritesAlone l (s.comp.withLayout l img) (fun _ => false) (fun _ => true) := by
  refine ⟨?_, rfl, used, agrees⟩
  have land : s.landStaged.state = s.takeHanded.landLayout z.tag l img := by
    unfold State.landStaged
    rw [handed, List.foldl_cons, List.foldl_nil, Landing.land, body]
    exact Landing.freshIf_state _ _ _
  rw [land]
  exact s.takeHanded.landLayout_of_passes passes

theorem State.WritesAlone.region {i : Fin 128} {img : Region} (handed : s.dir.handed = [z])
    (body : z.body = .writeRegion i img) (passes : (s.comp.withRegion i img).writePasses (regionLayout i) = true)
    (used : 0 < s.comp.inUse.read (regionLayout i)) (agrees : ∀ m, s.comp.inUse.read m = s.comp.users m) :
    s.WritesAlone (regionLayout i) (s.comp.withRegion i img) (fun k => k == regionNumber i) (fun k => k == regionNumber i) := by
  refine ⟨?_, rfl, used, agrees⟩
  have land : s.landStaged.state = s.takeHanded.landRegion z.tag i img := by
    unfold State.landStaged
    rw [handed, List.foldl_cons, List.foldl_nil, Landing.land, body]
    exact Landing.freshIf_state _ _ _
  rw [land]
  exact s.takeHanded.landRegion_of_passes passes

/-- With the users counted as they stand, no layout enters or leaves use at a write (R155). -/
theorem State.WritesAlone.still (h : s.WritesAlone l v rewritten rebound) {u : TileNo} {own : Tile → Tile → Prop}
    (low : u.val < 148) (takes : (s.takeHanded.setComp v).Takes u own s.landStaged.state) :
    s.Takes u own s.compositorStart := by
  have faces : ∀ d, (s.landStaged.state.display d).layout = (s.display d).layout := fun d => by
    have displays := ((s.takeHanded.setComp v).tilesAfterWrite_keepsScreens s.comp l rewritten rebound).displays
    rw [← h.landed] at displays
    rw [State.display, displays]
    exact congrArg (fun t : Table Display 12 => (t.read d).layout) h.shown
  have settled : ∀ d, (s.modesSettled.display d).layout = (s.display d).layout := fun d =>
    (s.landStaged.state.latchColours.settleModes_layout d).trans (faces d)
  have users : ∀ m, s.modesSettled.comp.users m = s.comp.inUse.read m := fun m => by
    rw [h.agrees]
    unfold Compositor.users
    simp only [State.display] at settled
    simp only [settled]
  have still := s.modesSettled.recountLayouts_apart (u := u) fun m moves => by
    rw [s.leaves_iff, s.enters_iff, State.compositorStart_inUse, users] at moves
    omega
  exact s.compositorStart_takes low (.after_kept (.of_fmt (t := s.takeHanded.setComp v) rfl)
    ((takes.then_kept (.of_fmt s.modesSettled_fmt)).then_kept still))

theorem State.WritesAlone.binds (h : s.WritesAlone l v rewritten rebound) {u : TileNo} (within : v.inRange l u = true)
    (binds : v.bindingAt l u ≠ s.comp.bindingAt l u ∨ ∃ b, v.bindingAt l u = some b ∧ rebound b.region = true) :
    s.Takes u (fun x => x.Bound (v.bindingAt l u)) s.compositorStart := by
  refine h.still (Compositor.inRange_low within) ?_
  rw [h.landed]
  exact State.tilesAfterWrite_binds (s.takeHanded.setComp v) h.used within binds

theorem State.WritesAlone.frees (h : s.WritesAlone l v rewritten rebound) {u : TileNo} (out : v.inRange l u = false)
    (within : s.comp.inRange l u = true) : s.Takes u Tile.Frees s.compositorStart := by
  refine h.still (Compositor.inRange_low within) ?_
  rw [h.landed]
  exact State.tilesAfterWrite_frees (s.takeHanded.setComp v) h.used out within

theorem State.WritesAlone.keeps (h : s.WritesAlone l v rewritten rebound) {u : TileNo} (low : u.val < 148)
    (kept : s.comp.inRange l u = true → v.inRange l u = true)
    (unbound : v.inRange l u = true → v.bindingAt l u = s.comp.bindingAt l u ∧
      ∀ b, v.bindingAt l u = some b → rebound b.region = false) : s.Takes u Tile.Kept s.compositorStart := by
  refine h.still low ?_
  rw [h.landed]
  exact State.tilesAfterWrite_apart (s.takeHanded.setComp v) kept unbound

end

end

end Sys2Proof.Machine
end

section
/-! OBLIGATION. The tile ranges and the bindings, and the tiles that an output frame start binds, releases and keeps (R129, R130,
R152 to R156, R171). -/

namespace Sys2Proof.Machine

/-! ### The commit before or after the handling (R139) -/

/-- An output frame start: the compositor's five steps from a state that differs from the first in its ports and in the commit,
which goes before those steps or after them (R130, R139, R167). -/
structure State.Handles (s w t : State) : Prop where
  comp     : w.comp = { s.comp with ports := w.comp.ports }
  dir      : w.dir = s.dir
  coherent : s.fmt.Coherent → w.fmt.Coherent
  after    : t.comp = w.compositorStart.comp
  tiles    : (∀ u : TileNo, w.fmt.tiles.read u = (s.fmt.tiles.read u).commit ∧
      t.fmt.tiles.read u = w.compositorStart.fmt.tiles.read u) ∨
    ∀ u : TileNo, w.fmt.tiles.read u = s.fmt.tiles.read u ∧
      t.fmt.tiles.read u = (w.compositorStart.fmt.tiles.read u).commit

theorem State.frameStartHandling_handles (s : State) (b : Bool) : ∃ w, s.Handles w (s.frameStartHandling b) := by
  cases b with
  | true =>
    rw [State.frameStartHandling_commitFirst]
    exact ⟨s.commitTiles, by rw [State.commitTiles_comp], s.commitTiles_dir, State.commitTiles_coherent, rfl,
      .inl fun u => ⟨s.commitTiles_read u, rfl⟩⟩
  | false =>
    rw [State.frameStartHandling_commitLast]
    exact ⟨s, rfl, rfl, id, State.commitTiles_comp _, .inr fun u => ⟨rfl, State.commitTiles_read _ u⟩⟩

/-- What goes before the handling at the feed receiver and the ports reaches no tile and no directive (R12, R13, R177). -/
theorem State.Handles.of_ports {s u w t : State} (h : u.Handles w t) (comp : u.comp = { s.comp with ports := u.comp.ports })
    (dir : u.dir = s.dir) (fmt : u.fmt = s.fmt) : s.Handles w t where
  comp := h.comp.trans (congrArg (fun c : Compositor => { c with ports := w.comp.ports }) comp)
  dir := h.dir.trans dir
  coherent c := h.coherent (by rw [fmt]; exact c)
  after := h.after
  tiles := by
    have tiles := h.tiles
    rwa [fmt] at tiles

theorem State.startsOutput_handles {s : State} {c : Instr} (starts : s.startsOutput c) :
    ∃ t w, exec c s = .next t ∧ s.Handles w t := by
  obtain ⟨t, run⟩ : ∃ t, exec c s = .next t := by
    obtain ⟨b, rfl, _⟩ | ⟨n, l, b, rfl, _⟩ := starts <;> exact ⟨_, rfl⟩
  obtain ⟨f, o, b, rfl⟩ := State.startsOutput_run starts run
  unfold State.outputStart at run
  obtain ⟨w, handles⟩ := State.frameStartHandling_handles (((s.setFeed f).portsStart (s.setFeed f).feed.output.isOpen).setFeed
    { (s.setFeed f).feed with output := o, latchedCadence := (s.setFeed f).settings.cadence }) b
  exact ⟨_, w, run, handles.of_ports rfl rfl rfl⟩

section
variable {s w t : State} {u : TileNo}

theorem State.Handles.lift (h : s.Handles w t) (coherent : s.fmt.Coherent) {own final : Tile → Tile → Prop}
    (takes : w.Takes u own w.compositorStart) (first : ∀ x y : Tile, own x.commit y → final x y)
    (last : ∀ x y : Tile, own x y → final x y.commit) : final (s.fmt.tiles.read u) (t.fmt.tiles.read u) := by
  have own := takes.own (h.coherent coherent)
  obtain tiles | tiles := h.tiles
  · obtain ⟨before, after⟩ := tiles u
    rw [before] at own
    rw [after]
    exact first _ _ own
  · obtain ⟨before, after⟩ := tiles u
    rw [before] at own
    rw [after]
    exact last _ _ own

theorem Tile.Entered.of_commit {x y : Tile} (h : x.commit.Entered y) : x.Entered y := by
  obtain ⟨used, unclean, flight⟩ := h
  exact ⟨used, unclean, fun renders => flight (x.commit_state.trans renders)⟩

theorem Tile.Entered.then_commit {x y : Tile} (h : x.Entered y) : x.Entered y.commit := by
  obtain ⟨state, stale, released, _⟩ := y.commit_kept
  unfold Tile.Entered
  rw [state, stale, released]
  exact h

theorem Tile.Left.of_commit {x y : Tile} (h : x.commit.Left y) : x.Left y := by
  unfold Tile.Left at h
  rwa [x.commit_state] at h

theorem Tile.Left.then_commit {x y : Tile} (h : x.Left y) : x.Left y.commit := by
  obtain ⟨state, _, released, _, ready⟩ := y.commit_kept
  unfold Tile.Left
  rw [state, released]
  exact ⟨ready, h.2⟩

theorem Tile.Remade.of_commit {x y : Tile} (h : x.commit.Remade y) : x.Remade y := by
  unfold Tile.Remade at h
  rwa [x.commit_state] at h

theorem Tile.Remade.then_commit {x y : Tile} (h : x.Remade y) : x.Remade y.commit := by
  obtain ⟨state, stale, _⟩ := y.commit_kept
  unfold Tile.Remade
  rw [state, stale]
  exact h

theorem State.Handles.entered (h : s.Handles w t) (coherent : s.fmt.Coherent)
    (takes : w.Takes u Tile.Entered w.compositorStart) : (s.fmt.tiles.read u).Entered (t.fmt.tiles.read u) :=
  h.lift coherent takes (fun _ _ => Tile.Entered.of_commit) fun _ _ => Tile.Entered.then_commit

theorem State.Handles.left (h : s.Handles w t) (coherent : s.fmt.Coherent)
    (takes : w.Takes u Tile.Left w.compositorStart) : (s.fmt.tiles.read u).Left (t.fmt.tiles.read u) :=
  h.lift coherent takes (fun _ _ => Tile.Left.of_commit) fun _ _ => Tile.Left.then_commit

theorem State.Handles.remade (h : s.Handles w t) (coherent : s.fmt.Coherent)
    (takes : w.Takes u Tile.Marked w.compositorStart) : (s.fmt.tiles.read u).Remade (t.fmt.tiles.read u) :=
  h.lift coherent takes (fun _ _ marked => marked.remade.of_commit) fun _ _ marked => marked.remade.then_commit

/-- A tile that the handling binds, with the binding that the assignment gives it (R129). -/
theorem State.Handles.bound (h : s.Handles w t) (coherent : s.fmt.Coherent) {b : Option Binding} (assigned : b.isSome = true)
    (takes : w.Takes u (fun x => x.Bound b) w.compositorStart) :
    (s.fmt.tiles.read u).Entered (t.fmt.tiles.read u) ∧ (t.fmt.tiles.read u).binding = b := by
  have given : ∀ {x y : Tile}, x.Bound b y → y.binding = b := fun bound => by rw [bound.binding, if_pos assigned]
  refine h.lift coherent takes (final := fun x y => x.Entered y ∧ y.binding = b)
    (fun x y bound => ⟨bound.entered.of_commit, given bound⟩) fun x y bound => ⟨bound.entered.then_commit, ?_⟩
  rw [y.commit_kept.2.2.2.1]
  exact given bound

/-- A tile that the handling releases (R130). -/
theorem State.Handles.freed (h : s.Handles w t) (coherent : s.fmt.Coherent)
    (takes : w.Takes u Tile.Frees w.compositorStart) :
    (s.fmt.tiles.read u).Left (t.fmt.tiles.read u) ∧ (t.fmt.tiles.read u).binding = (s.fmt.tiles.read u).binding := by
  refine h.lift coherent takes (final := fun x y => x.Left y ∧ y.binding = x.binding)
    (fun x y frees => ?_) fun x y frees => ?_
  · rw [show y = x.commit.free from frees]
    exact ⟨x.commit.free_left.of_commit, x.commit_kept.2.2.2.1⟩
  · rw [show y = x.free from frees]
    exact ⟨x.free_left.then_commit, x.free.commit_kept.2.2.2.1⟩

/-- A tile that the handling commits and no more (R139). -/
theorem State.Handles.committed (h : s.Handles w t) (coherent : s.fmt.Coherent)
    (takes : w.Takes u Tile.Kept w.compositorStart) : t.fmt.tiles.read u = (s.fmt.tiles.read u).committedTile :=
  h.lift coherent takes (final := fun x y => y = x.committedTile) (fun _ _ kept => kept) fun x y kept => by
    rw [show y = x from kept]
    rfl

/-! ### What the first state says of the handling's -/

theorem State.Handles.displays (h : s.Handles w t) : w.comp.displays = s.comp.displays := by rw [h.comp]

theorem State.Handles.inUse (h : s.Handles w t) : w.comp.inUse = s.comp.inUse := by rw [h.comp]

theorem State.Handles.needed (h : s.Handles w t) : w.comp.tileNeeded = s.comp.tileNeeded := by rw [h.comp]

theorem State.Handles.same (h : s.Handles w t) : s.comp.SameLayouts w.comp := by rw [h.comp]; exact ⟨rfl, rfl⟩

theorem State.Handles.users (h : s.Handles w t) (l : LayoutNo) : w.comp.users l = s.comp.users l := by
  unfold Compositor.users
  rw [h.displays]

theorem State.Handles.apart (h : s.Handles w t) (fit : s.comp.RangesFit) : w.comp.RangesApart := fun l m other left right => by
  rw [h.same.rangesMeet]
  unfold Compositor.selected at left right
  rw [h.displays] at left right
  exact fit.disjoint l m other left right

theorem State.handed_eq (s : State) : s.dir.handed = s.handedOver := List.filter_congr fun x _ => x.not_isCurrent

theorem Compositor.writePasses_congr {c e : Compositor} (same : c.SameLayouts e) (displays : e.displays = c.displays)
    (l : LayoutNo) : e.writePasses l = c.writePasses l := by
  have bounds : e.inBounds l = c.inBounds l := by
    unfold Compositor.inBounds Compositor.tileEnd Compositor.tileCount
    rw [same.textRows, same.1]
  unfold Compositor.writePasses Compositor.selected
  simp only [bounds, displays, same.rangesMeet]

/-! ### Notice tiles (R171) -/

theorem State.Handles.notice (h : s.Handles w t) (coherent : s.fmt.Coherent) (d : DisplayNo) :
    let needed := s.comp.tileNeeded.getLsbD d.val
    let needs := t.comp.tileNeeded.getLsbD d.val
    let x := s.fmt.tiles.read (noticeTile d)
    let y := t.fmt.tiles.read (noticeTile d)
    (needs = true ↔ (t.display d).mode = .takeover ∨ (t.display d).mode = .attract ∨
      ((t.display d).mode = .live ∧ ∃ r, t.comp.ActsAsTicker (t.display d).layout r)) ∧
    (needs = true → needed = false → x.Entered y) ∧ (needs = false → needed = true → x.Left y) ∧
    (needs = true → needed = true →
      (t.display d).mode ≠ (s.display d).mode ∨ (t.display d).layout ≠ (s.display d).layout ∨
        (t.display d).takeover ≠ (s.display d).takeover → x.Remade y) := by
  intro needed needs x y
  have needs_eq : needs = w.compositorStart.comp.needsTile d := by
    rw [← State.compositorStart_needed, ← h.after]
  have needed_eq : w.comp.tileNeeded.getLsbD d.val = needed := by rw [h.needed]
  rw [needs_eq]
  refine ⟨?_, fun now former => h.entered coherent (State.compositorStart_enters now (needed_eq.trans former)),
    fun now former => h.left coherent (State.compositorStart_leaves now (needed_eq.trans former)),
    fun now former changed => h.remade coherent (State.compositorStart_changes now (needed_eq.trans former) ?_)⟩
  · rw [← h.after]
    exact t.comp.needsTile_iff d
  · rw [State.display, State.display, h.displays, ← h.after]
    exact decide_eq_true changed

/-! ### Layout tiles (R155, R156) -/

theorem State.Handles.layouts (h : s.Handles w t) (coherent : s.fmt.Coherent) (fit : s.comp.RangesFit)
    (plain : ∀ z ∈ s.handedOver, z.writesLayout = false) {u : TileNo} (low : u.val < 148) :
    let entering (l : LayoutNo) : Prop := s.comp.inUse.read l = 0 ∧ 0 < t.comp.inUse.read l
    let leaving (l : LayoutNo) : Prop := 0 < s.comp.inUse.read l ∧ t.comp.inUse.read l = 0
    let x := s.fmt.tiles.read u
    let y := t.fmt.tiles.read u
    (∀ l, entering l → s.comp.inRange l u = true → x.Entered y ∧ y.binding = s.comp.bindingAt l u) ∧
    (∀ l, leaving l → s.comp.inRange l u = true → (∀ m, entering m → s.comp.inRange m u = false) →
      x.Left y ∧ y.binding = x.binding) ∧
    ((∀ l, entering l ∨ leaving l → s.comp.inRange l u = false) → y = x.committedTile) := by
  intro entering leaving x y
  have handed : ∀ z ∈ w.dir.handed, z.writesLayout = false := by rwa [h.dir, s.handed_eq]
  have enters_iff : ∀ m, entering m ↔ w.comp.inUse.read m = 0 ∧ 0 < w.compositorStart.comp.inUse.read m := fun m => by
    rw [h.inUse, ← h.after]
  have leaves_iff : ∀ m, leaving m ↔ 0 < w.comp.inUse.read m ∧ w.compositorStart.comp.inUse.read m = 0 := fun m => by
    rw [h.inUse, ← h.after]
  simp only [enters_iff, leaves_iff, ← h.same.inRange, ← h.same.bindingAt]
  refine ⟨fun l enters within => ?_, fun l leaves within out => ?_, fun out => ?_⟩
  · exact h.bound coherent (w.comp.bindingAt_isSome l within)
      (State.compositorStart_layoutEnters handed (h.apart fit) low enters.1 enters.2 within)
  · exact h.freed coherent (State.compositorStart_layoutLeaves handed low leaves.1 leaves.2 within out)
  · exact h.committed coherent (State.compositorStart_layoutStays handed low out)

/-- What one LAYOUT or REGION write makes of a layout tile, by the bindings before it and after it (R156). -/
theorem State.Handles.writes (h : s.Handles w t) (coherent : s.fmt.Coherent) {l : LayoutNo} {v e : Compositor}
    {rewritten rebound : RegionNo → Bool} {again : RegionNo → Prop} (alone : w.WritesAlone l e rewritten rebound)
    (same : v.SameLayouts e) (binds : ∀ r, rebound r = true ↔ again r) {u : TileNo} (low : u.val < 148) :
    let x := s.fmt.tiles.read u
    let y := t.fmt.tiles.read u
    (v.inRange l u = true →
      v.bindingAt l u ≠ s.comp.bindingAt l u ∨ (∃ b, v.bindingAt l u = some b ∧ again b.region) →
      x.Entered y ∧ y.binding = v.bindingAt l u) ∧
    (v.inRange l u = false → s.comp.inRange l u = true → x.Left y ∧ y.binding = x.binding) ∧
    (v.inRange l u = true → v.bindingAt l u = s.comp.bindingAt l u →
      (∀ b, v.bindingAt l u = some b → ¬ again b.region) → y = x.committedTile) ∧
    (v.inRange l u = false → s.comp.inRange l u = false → y = x.committedTile) := by
  intro x y
  simp only [← same.inRange, ← same.bindingAt, ← h.same.inRange, ← h.same.bindingAt, ← binds]
  refine ⟨fun within binds => ?_, fun out within => ?_, fun within former free => ?_, fun out before => ?_⟩
  · exact h.bound coherent (e.bindingAt_isSome l within) (alone.binds within binds)
  · exact h.freed coherent (alone.frees out within)
  · exact h.committed coherent (alone.keeps low (fun _ => within) fun _ =>
      ⟨former, fun b bound => Bool.eq_false_of_not_eq_true (free b bound)⟩)
  · exact h.committed coherent (alone.keeps low (fun within => absurd (before.symm.trans within) nofun)
      fun within => absurd (out.symm.trans within) nofun)

end

/-- Settles O56: the records of a layout; a binding and a release each as one change; and an output frame start, tile by
tile. -/
theorem tileBindings : Obligations.TileBindings := by
  unfold Obligations.TileBindings
  refine ⟨Compositor.layoutReads, fun s h u b => ⟨State.bindTile_marks h, State.bindTile_of_waiting, State.bindTile_of_flight,
    State.releaseTile_eq_release h u⟩, fun c s starts _ coherent fit => ?_⟩
  obtain ⟨t, w, run, handles⟩ := State.startsOutput_handles starts
  refine ⟨t, run, handles.notice coherent, fun plain u low => handles.layouts coherent fit plain low,
    fun z l v rewritten alone write passes agrees used u low => ?_⟩
  have handed : w.dir.handed = [z] := by rw [handles.dir, s.handed_eq, alone]
  have agrees' : ∀ m, w.comp.inUse.read m = w.comp.users m := fun m => by
    rw [handles.inUse, handles.users]
    exact agrees m
  obtain ⟨img, body, rfl, rfl⟩ | ⟨i, img, body, rfl, rfl, rfl⟩ := write
  · have same : (s.comp.withLayout l img).SameLayouts (w.comp.withLayout l img) := by
      rw [handles.comp]
      exact ⟨rfl, rfl⟩
    have passes' := (Compositor.writePasses_congr same handles.displays l).trans passes
    exact handles.writes (again := fun _ => True) coherent (.layout handed body passes' (by rwa [handles.inUse]) agrees') same
      (fun _ => iff_of_true rfl trivial) low
  · have same : (s.comp.withRegion i img).SameLayouts (w.comp.withRegion i img) := by
      rw [handles.comp]
      exact ⟨rfl, rfl⟩
    have passes' := (Compositor.writePasses_congr same handles.displays (regionLayout i)).trans passes
    exact handles.writes coherent (.region handed body passes' (by rwa [handles.inUse]) agrees') same
      (fun _ => beq_iff_eq) low

end Sys2Proof.Machine
end
